-- ==== Sys2Proof/Word.lean ====
section
/-! DEFINITION. The words of the part: a window word is 16 bits, a character carries 8 data bits (spec 11_formats.md, opening). -/

namespace Sys2Proof

/-- A word of the window (11_formats.md). -/
abbrev Word := BitVec 16

/-- The data bits of a character (11_formats.md). -/
abbrev Byte := BitVec 8

end Sys2Proof
end

