-- ==== Sys2Proof/Syntax.lean ====
section
/-! DEFINITION. The commands of the part: one constructor of `Instr` for each row of spec/opcode_table.json, with the
row's operands. Orders carry the operand words of their order slot (11.1.4); events carry the bay, bus, string or permit
slot they happen at and what was seen there. -/

namespace Sys2Proof

/-- The three samples taken near the middle of a bit (R59, R161). `true` is the line high. -/
structure Samples where
  early : Bool
  middle : Bool
  late : Bool
deriving DecidableEq, Repr

/-- A character on a sensing bus as its receiver sampled it: start bit, data bits 0 to 7, stop bit (R58, R59). -/
structure BusChar where
  start : Samples
  data : Vector Samples 8
  stop : Samples
deriving DecidableEq, Repr

/-- A character on the converter link as its receiver sampled it: start bit, data bits 0 to 7, ninth bit, stop bit
(R160, R161). -/
structure LinkChar where
  start : Samples
  data : Vector Samples 8
  ninth : Samples
  stop : Samples
deriving DecidableEq, Repr

/-- A level of a sensing bus line (R58). -/
inductive Level where
  | low
  | high
deriving DecidableEq, Repr

/-- What the stuck-line monitor has seen: the line at `level` at every sample of the last `bitTimes` bit times, and
whether that run began with the header gap (R68). -/
structure LineWatch where
  level : Level
  bitTimes : Nat
  fromGapStart : Bool
deriving DecidableEq, Repr

/-- The two smoke detector lines of a bay (R102). -/
inductive SmokeId where
  | a
  | b
deriving DecidableEq, Repr

/-- The pair of inputs of a smoke detector line; `true` is asserted (R102). -/
structure SmokePair where
  normal : Bool
  active : Bool
deriving DecidableEq, Repr

/-- How a converter frame went bad (R163): a complete frame with one of four causes, or a frame in progress cut by a
new mark character. -/
inductive BadEnd where
  | framing
  | noise
  | check
  | kind
  | broken (mark : LinkChar)
deriving DecidableEq, Repr

/-- The commands. The comment of each constructor names its row of spec/opcode_table.json and its rule. -/
inductive Instr where
  /-- POWER_ON, R193 -/
  | powerOn
  /-- RESET_LINE, R184 -/
  | resetLine
  /-- START_UP_PROFILE_LOAD, R195 -/
  | startUpProfileLoad
  /-- START_UP_TIME_LIMIT, R196 -/
  | startUpTimeLimit
  /-- SITE_CLOCK_ADVANCE, R193 -/
  | siteClockAdvance
  /-- RUN, R177 -/
  | run (slot : BitVec 5)
  /-- STOP, R178 -/
  | stop
  /-- ORDER_MEMORY_WRITE, R183 -/
  | orderMemoryWrite (slot : BitVec 5) (word : BitVec 4) (value : Word)
  /-- ATTENTION_SUMMARY_WRITE, R185 -/
  | attentionSummaryWrite (value : Word)
  /-- ATTENTION_ENABLE_WRITE, R186 -/
  | attentionEnableWrite (value : Word)
  /-- WINDOW_WRITE_OTHER, R174 -/
  | windowWriteOther (address : BitVec 10) (value : Word)
  /-- LOOKUP, R32 -/
  | lookup (handle : Word)
  /-- FIND, R33 -/
  | find (kind string : Word)
  /-- NEXT_CHANGED, R34 -/
  | nextChanged
  /-- READ_STRING, R57 -/
  | readString (string page : Word)
  /-- READ_MODULE, R99 -/
  | readModule (bus address page : Word)
  /-- READ_BAY, R121 -/
  | readBay (bay : Word)
  /-- READ_CONNECTION, R159 -/
  | readConnection (selector : Word)
  /-- READ_LINK, R173 -/
  | readLink
  /-- READ_CLOCK, R194 -/
  | readClock
  /-- READ_PROFILE, R191 -/
  | readProfile (field index : Word)
  /-- GRANT, R4: the six operand words of 11.1.4 -/
  | grant (op0 op1 op2 op3 op4 op5 : Word)
  /-- AMEND, R26: the six operand words of 11.1.4 -/
  | amend (handle change op2 op3 op4 op5 : Word)
  /-- RENEW, R14 -/
  | renew (handle : Word)
  /-- REVOKE, R22 -/
  | revoke (handle : Word)
  /-- RETIRE, R29 -/
  | retire (handle : Word)
  /-- CLOSE_BREAKER, R153 -/
  | closeBreaker
  /-- OPEN_BREAKER, R154 -/
  | openBreaker
  /-- RESET_BREAKER, R157 -/
  | resetBreaker
  /-- CLEAR_CONTACTOR, R148 -/
  | clearContactor (string : Word)
  /-- RESET_BAY, R115 -/
  | resetBay (bay : Word)
  /-- RELEASE_NOW, R114 -/
  | releaseNow (bay : Word)
  /-- ROLLCALL, R91 -/
  | rollcall (bus : Word)
  /-- SET_CLOCK, R194: day, second bits 15 to 0, second bit 16 -/
  | setClock (day second secondHigh : Word)
  /-- SET_MODE, R188 -/
  | setMode (mode : Word)
  /-- WRITE_PROFILE, R191: field code, string index, value bits 15 to 0, value bits 23 to 16 -/
  | writeProfile (field index valueLow valueHigh : Word)
  /-- COMMIT_PROFILE, R192 -/
  | commitProfile
  /-- COMMIT_COMPLETE, R192 -/
  | commitComplete
  /-- LEASE_LAPSE, R13 -/
  | leaseLapse (slot : Fin 48)
  /-- RISE_HOLD_END, R12 -/
  | riseHoldEnd (slot : Fin 48)
  /-- REVOKED_HOLD_END, R31 -/
  | revokedHoldEnd (slot : Fin 48)
  /-- CREW_KEY_CHANGE, R21 -/
  | crewKeyChange (on : Bool)
  /-- DOOR_CONTACT_CHANGE, R48 -/
  | doorContactChange (isOpen : Bool)
  /-- DOOR_TAKEN, R48 -/
  | doorTaken
  /-- SELFTEST_END, R72: what the receiver returned for pattern 1 and pattern 2, if a character at all -/
  | selftestEnd (bus : Fin 8) (pattern1 pattern2 : Option BusChar)
  /-- WAKE_END, R74 -/
  | wakeEnd (bus : Fin 8)
  /-- STUCK_RETRY_END, R75 -/
  | stuckRetryEnd (bus : Fin 8)
  /-- STUCK_LINE, R68 -/
  | stuckLine (bus : Fin 8) (watch : LineWatch)
  /-- ECHO_ERROR, R60: the samples read back for bit `position` of the frame, the delimiter being bit 0 -/
  | echoError (bus : Fin 8) (position : Nat) (readBack : Samples)
  /-- IDLE_GAP_END, R60 -/
  | idleGapEnd (bus : Fin 8)
  /-- POLL_ROUND_START, R93 -/
  | pollRoundStart (bus : Fin 8)
  /-- SUMMARY_ANSWER, R84: the characters found in the response window -/
  | summaryAnswer (bus : Fin 8) (chars : List BusChar)
  /-- PROBE_ANSWER, R88: the characters found in the response window -/
  | probeAnswer (bus : Fin 8) (chars : List BusChar)
  /-- RESPONSE_WINDOW_END, R65: the characters found in the response window -/
  | responseWindowEnd (bus : Fin 8) (chars : List BusChar)
  /-- TARGET_FRAME_END, R64 -/
  | targetFrameEnd (bus : Fin 8)
  /-- SMOKE_LINE_CHANGE, R102 -/
  | smokeLineChange (bay : Fin 4) (line : SmokeId) (pair : SmokePair)
  /-- SMOKE_CONDITION_TAKEN, R102 -/
  | smokeConditionTaken (bay : Fin 4) (line : SmokeId)
  /-- HOLD_BUTTON_CHANGE, R110 -/
  | holdButtonChange (bay : Fin 4) (pressed : Bool)
  /-- HOLD_BUTTON_TAKEN, R110 -/
  | holdButtonTaken (bay : Fin 4)
  /-- COUNTDOWN_END, R112 -/
  | countdownEnd (bay : Fin 4)
  /-- RELEASE_PULSE_END, R113 -/
  | releasePulseEnd (bay : Fin 4)
  /-- RUN_ON_END, R128 -/
  | runOnEnd (bay : Fin 4)
  /-- FLOW_SWITCH_CHANGE, R132 -/
  | flowSwitchChange (bay : Fin 4) (flow : Bool)
  /-- FLOW_TIMER_END, R133 -/
  | flowTimerEnd (bay : Fin 4)
  /-- PRECHARGE_TIMEOUT, R143 -/
  | prechargeTimeout (string : Fin 8)
  /-- PRECHARGE_RETRY_END, R143 -/
  | prechargeRetryEnd (string : Fin 8)
  /-- DRAIN_END, R145 -/
  | drainEnd (string : Fin 8)
  /-- MAIN_FEEDBACK_CHANGE, R147 -/
  | mainFeedbackChange (string : Fin 8) (closed : Bool)
  /-- CONTACTOR_FEEDBACK_TIMER_END, R147 -/
  | contactorFeedbackTimerEnd (string : Fin 8)
  /-- BREAKER_FEEDBACK_CHANGE, R153 -/
  | breakerFeedbackChange (closed : Bool)
  /-- BREAKER_WINDOW_END, R153 -/
  | breakerWindowEnd
  /-- BREAKER_FEEDBACK_TIMER_END, R157 -/
  | breakerFeedbackTimerEnd
  /-- GRID_HEALTHY_CHANGE, R152 -/
  | gridHealthyChange (healthy : Bool)
  /-- GRID_HEALTHY_TAKEN, R152 -/
  | gridHealthyTaken
  /-- RECONNECT_DELAY_END, R152 -/
  | reconnectDelayEnd
  /-- RENEW_FRAME, R15: value A is the DC-link voltage, value B the present current -/
  | renewFrame (slot generation : Byte) (dcLink current : Word) (tag : Byte)
  /-- REDUCE_FRAME, R28: value A is the new limit -/
  | reduceFrame (slot generation : Byte) (limit : Word) (tag : Byte)
  /-- HANDBACK_FRAME, R30 -/
  | handbackFrame (slot generation tag : Byte)
  /-- QUERY_FRAME, R15 -/
  | queryFrame (slot generation tag : Byte)
  /-- BAD_FRAME, R163 -/
  | badFrame (cause : BadEnd)
  /-- LINK_TIMEOUT, R171 -/
  | linkTimeout
  /-- FRAME_SENT, R167 -/
  | frameSent
  /-- TRANSMIT_GAP_END, R167 -/
  | transmitGapEnd
  /-- LINK_CHARACTER_TAKEN, R162 -/
  | linkCharacterTaken (character : LinkChar)
  /-- WAKE_PULSE_END, R74 -/
  | wakePulseEnd (bus : Fin 8)
deriving DecidableEq, Repr

end Sys2Proof
end

