-- ==== Sys2Proof/Config.lean ====
section
/-! DEFINITION. What the spec fixes once for the part (durations), and the free values: constants with no body for what
the spec leaves unstated, so that nothing can be proved of them. -/

namespace Sys2Proof.Config

/-- Quanta of time in a microsecond. The quantum is 1/72 us, so that a bit of every line rate and every duration of the
spec is a whole number of quanta. DESIGN CHOICE (log 1). -/
def quantaPerUs : Nat := 72

/-- `n` microseconds in quanta. -/
def us (n : Nat) : Nat := n * 72

/-- `n` milliseconds in quanta. -/
def ms (n : Nat) : Nat := n * 72000

/-- `n` seconds in quanta. -/
def sec (n : Nat) : Nat := n * 72000000

/-- One bit time of a sensing bus, 1/19200 s (R58). -/
def busBit : Nat := 3750

/-- The self-test: two character times of 10 bits (R72). -/
def selfTestTime : Nat := 20 * busBit

/-- The wake pulse (R74). -/
def wakePulse : Nat := us 250

/-- The wake delay (R74). -/
def wakeDelay : Nat := ms 100

/-- Wake pulse and wake delay together, 100.25 ms (R74). -/
def wakeTime : Nat := wakePulse + wakeDelay

/-- STUCK retry (R75). -/
def stuckRetry : Nat := sec 5

/-- The header gap: 13 bit times (R61). -/
def gapBits : Nat := 13

/-- A character of a sensing bus: 10 bit times (R58). -/
def busChar : Nat := 10 * busBit

/-- The header of a sensing bus frame: gap, delimiter, timing character and selector, 34 bit times (R61). -/
def headerTime : Nat := (gapBits + 1) * busBit + 2 * busChar

/-- What a response window lasts beyond a character time for each character expected (R65). -/
def windowBase : Nat := ms 2

/-- The idle gap after an abandoned frame: 10 bit times (R60). -/
def idleGap : Nat := 10 * busBit

/-- The stuck-line monitor decides at 15 bit times (R68). -/
def stuckBits : Nat := 15

/-- Release pulse (R112). -/
def releasePulse : Nat := sec 2

/-- Flow timer with goal FAULT (R132). -/
def flowFaultTime : Nat := sec 10

/-- Flow timer with goal CLEAR (R132). -/
def flowClearTime : Nat := sec 30

/-- Precharge time limit (R141). -/
def prechargeTime : Nat := sec 10

/-- Retry delay after a precharge timeout (R143). -/
def prechargeRetry : Nat := sec 30

/-- Contactor feedback timer (R147). -/
def contactorFeedback : Nat := ms 200

/-- Breaker window and breaker feedback timer (R153, R154, R157). -/
def breakerTime : Nat := ms 300

/-- A DC-link value older than this never matches (R142). -/
def dcLinkAge : Nat := sec 1

/-- The start-up limit (R196). -/
def startUpLimit : Nat := sec 20

/-- Free value: the string voltage field when the exact sum, its argument, lies above 65535 (R37, R40 state no result
there). DESIGN CHOICE (log 12). -/
opaque overflowVoltage : Nat → BitVec 16

/-- Free value: the bleed target when minimum cell plus bleed window, its argument, lies above 65535 mV (R56 states no
result there). DESIGN CHOICE (log 13). -/
opaque overflowBleed : Nat → BitVec 16

/-- Free value: word number `i` of the stored copy after the `n`-th commit that a reset cut (R192 says only that the
checksum is left erased). DESIGN CHOICE (log 11). -/
opaque tornWord : Nat → Nat → BitVec 16

/-- Free value: what READ-PROFILE shows for a stored checksum that is erased (R191), by how many commits were cut
before. DESIGN CHOICE (log 14). -/
opaque erasedChecksum : Nat → BitVec 16

/-- Free value: the 5-bit cell count field of READ-MODULE for a reported cell count that 5 bits cannot hold (R63, R99).
DESIGN CHOICE (log 32). -/
opaque wideCellCount : Nat → BitVec 5

end Sys2Proof.Config
end

