-- ==== Sys2Proof/Machine/State.lean ====
section
/-! DEFINITION. The state of the part as plain data: every record of chapters 1 to 10, block by block, and after them the
model's own fields. A timer is the time at which it runs out, in quanta (log 1), so its presence is the presence of that
time. -/

namespace Sys2Proof.Machine

/-! ### Permit Manager (chapter 1) -/

/-- Kinds of permit (R1). -/
inductive Kind where
  | connect
  | charge
  | discharge
  | isolate
  | entry
deriving DecidableEq, Repr

/-- Holders of a permit (R1). -/
inductive Holder where
  | station
  | converter
  | crew
deriving DecidableEq, Repr

/-- The states of a permit record. FREE is the absence of a record (R1). -/
inductive PermitState where
  | pending
  | live
  | suspended
  | revoked
deriving DecidableEq, Repr

/-- Restriction causes of a string record (R37, R51). -/
inductive Cause where
  | none
  | fire
  | prealarm
  | door
  | outOfService
  | modules
  | thermal
  | cooling
  | taper
deriving DecidableEq, Repr

/-- Stored reasons of a SUSPENDED or REVOKED permit (R1). -/
inductive Reason where
  | grid
  | envelope (string : Fin 8) (cause : Cause)
  | fire
  | mode
  | key
  | lease
  | expired
  | station
deriving DecidableEq, Repr

/-- A day and a second of the day (R193). -/
structure SiteTime where
  day : Nat
  second : Nat
deriving DecidableEq, Repr

/-- A pending rise: its value and the end of its hold (R12). -/
structure Rise where
  value : Nat
  holdEnd : Nat
deriving DecidableEq, Repr

/-- What CHARGE and DISCHARGE permits hold beyond the others (R1). -/
structure Limits where
  requested : Nat
  effective : Nat
  rise : Option Rise
deriving DecidableEq, Repr

/-- A permit record (R1). The scope has one bit per string. -/
structure Permit where
  kind : Kind
  holder : Holder
  state : PermitState
  scope : BitVec 8
  limits : Option Limits
  leasePeriod : Option Nat
  leaseEnd : Option Nat
  expiry : Option SiteTime
  autoReclose : Bool
  reason : Option Reason
  changed : Bool
  holdEnd : Option Nat
  notice : Bool
deriving DecidableEq, Repr

/-- A slot of the Permit Table: its generation, and a record unless it is FREE (R1, R2). -/
structure Slot where
  generation : Byte
  permit : Option Permit
deriving DecidableEq, Repr

/-- A handle: slot number and generation (R3). -/
structure Handle where
  slot : Byte
  generation : Byte
deriving DecidableEq, Repr

/-! ### Lines that are conditioned before they are taken -/

/-- A level waiting to be taken, and when it began to hold. -/
structure Candidate (α : Type) where
  level : α
  since : Nat
deriving DecidableEq, Repr

/-- A conditioned input: the level taken last, and the candidate. -/
structure Conditioned (α : Type) where
  taken : α
  candidate : Option (Candidate α)
deriving DecidableEq, Repr

/-! ### Envelope Unit (chapter 2) -/

/-- Where an extreme cell was found (R37). -/
structure CellPlace where
  address : Nat
  position : Nat
deriving DecidableEq, Repr

/-- A string record (R37). -/
structure StringRec where
  fitted : Bool
  onlineCount : Nat
  voltage : Nat
  minCell : Nat
  minPlace : Option CellPlace
  maxCell : Nat
  maxPlace : Option CellPlace
  minTemp : Int
  maxTemp : Int
  band : Fin 8
  bandChanged : Bool
  chargeEnvelope : Nat
  dischargeEnvelope : Nat
  cause : Cause
  bleedTarget : Nat
  bleeding : Bool
deriving DecidableEq, Repr

/-! ### Sensing Bus Controllers and Module Rosters (chapters 3 and 4) -/

/-- Bus states, each with the fields present in it (R70). WAKING holds the end of the wake pulse while the pulse lasts, and
the end of pulse and delay together (R74). -/
inductive BusState where
  | off
  | selftest (endsAt : Nat)
  | waking (pulseEnd : Option Nat) (endsAt : Nat)
  | rollcall
  | polling
  | stuck (level : Level) (retryAt : Nat)
  | failed (pattern2 : Bool)
deriving DecidableEq, Repr

/-- Frame kinds of a sensing bus (chapter 3, opening). -/
inductive FrameKind where
  | summary
  | probe
  | target
deriving DecidableEq, Repr

/-- A bleed target and enable as sent (R64). -/
structure Target where
  millivolts : Nat
  enable : Bool
deriving DecidableEq, Repr

/-- The frame in progress (R70): kind, address, start of its header gap; the end of the idle gap once an echo error has
abandoned it (R60); and for TARGET the values once the first data character is built (R64). -/
structure Frame where
  kind : FrameKind
  address : Nat
  start : Nat
  gapEnd : Option Nat
  built : Option Target
deriving DecidableEq, Repr

/-- Failure kinds of an exchange (R67). -/
inductive FailKind where
  | echo
  | framing
  | noise
  | short
  | check
deriving DecidableEq, Repr

/-- The last failure (R70). -/
structure Failure where
  kind : FailKind
  address : Nat
deriving DecidableEq, Repr

/-- Causes of FAULTED (R81). -/
inductive FaultCause where
  | cells
  | status
deriving DecidableEq, Repr

/-- States of a roster entry (R81, R82); FAULTED holds its cause. -/
inductive ModuleState where
  | missing
  | online
  | silent
  | faulted (cause : FaultCause)
  | extra
deriving DecidableEq, Repr

/-- The values of a good SUMMARY (R63). -/
structure Summary where
  minCell : Nat
  minPosition : Nat
  maxCell : Nat
  maxPosition : Nat
  voltage : Nat
  maxTemp : Int
  minTemp : Int
  gas : Nat
  bleedCount : Nat
  status : Byte
deriving DecidableEq, Repr

/-- The values of a good PROBE answer (R63). -/
structure Probe where
  cellCount : Nat
  status : Byte
deriving DecidableEq, Repr

/-- A roster entry (R81). -/
structure Entry where
  address : Nat
  expected : Bool
  state : ModuleState
  missCount : Nat
  summary : Option Summary
  probe : Option Probe
deriving DecidableEq, Repr

/-- The "in progress" field of the roll call record: 0, 1 or 255 (R87). -/
inductive CallProgress where
  | idle
  | running
  | abandoned
deriving DecidableEq, Repr

/-- An item of the roll call's working list (R87). -/
structure CallItem where
  address : Nat
  probe : Probe
deriving DecidableEq, Repr

/-- The roll call record (R87). -/
structure RollCall where
  progress : CallProgress
  found : Nat
  extra : Nat
  requested : Bool
  working : List CallItem
deriving DecidableEq, Repr

/-- The round record (R93). -/
structure Round where
  index : Nat
  start : Option Nat
  nextStart : Option Nat
  position : Option Nat
deriving DecidableEq, Repr

/-- One Sensing Bus Controller: bus record, roster, roll call record, round record, whether a switch to ROLLCALL waits for
the end of the frame in progress (R77, R91), and whether a commit has changed the expected module mask of a bus that is
still in POLLING (R92, R120, R136, log 38). -/
structure Bus where
  state : BusState
  frame : Option Frame
  lastFailure : Option Failure
  lastTarget : Option Target
  roster : List Entry
  rollCall : RollCall
  round : Round
  switchPending : Bool
  maskChanged : Bool
deriving DecidableEq, Repr

/-! ### Fire Controller (chapter 5) -/

/-- Conditions of a smoke line (R102). -/
inductive SmokeCondition where
  | normal
  | active
  | fault
deriving DecidableEq, Repr

/-- Conditions of the GAS and HEAT sources (R104, R105). -/
inductive SourceCondition where
  | clear
  | active
  | unavailable
deriving DecidableEq, Repr

/-- A smoke line: its condition, the combination taken last and the candidate (R100, R102). -/
structure SmokeLine where
  condition : SmokeCondition
  taken : SmokePair
  candidate : Option (Candidate SmokePair)
deriving DecidableEq, Repr

/-- Bay fire states with the timers present in them (R100). -/
inductive FireState where
  | quiet
  | preAlarm
  | alarm
  | countdown (endsAt : Nat)
  | released (pulseEnd : Option Nat)
deriving DecidableEq, Repr

/-- The set of manual causes (R110). -/
structure Manual where
  entry : Bool
  hold : Bool
  profile : Bool
deriving DecidableEq, Repr

/-- Containment requests (R117). -/
inductive Containment where
  | none
  | bay
  | container
deriving DecidableEq, Repr

/-- An item of a gas list (R100). -/
structure GasItem where
  string : Fin 8
  address : Nat
  level : Nat
deriving DecidableEq, Repr

/-- A bay fire record (R100). -/
structure FireRec where
  state : FireState
  smokeA : SmokeLine
  smokeB : SmokeLine
  gas : SourceCondition
  heat : SourceCondition
  activeCount : Nat
  availableCount : Nat
  degraded : Bool
  manual : Manual
  releaseOutput : Bool
  containment : Containment
  gasList : List GasItem
  band7Even : Bool
  band7Odd : Bool
  hold : Conditioned Bool
deriving DecidableEq, Repr

/-! ### Cooling Controller (chapter 6) -/

/-- The inputs a bay takes from one of its strings (R124). -/
structure StringInput where
  fitted : Bool
  band : Fin 8
  complete : Bool
deriving DecidableEq, Repr

/-- Goals of a flow timer (R132). -/
inductive FlowGoal where
  | fault
  | clear
deriving DecidableEq, Repr

/-- A flow timer (R122). -/
structure FlowTimer where
  goal : FlowGoal
  endsAt : Nat
deriving DecidableEq, Repr

/-- The six outputs of a bay (R122). -/
structure CoolOutputs where
  fanLow : Bool
  fanHigh : Bool
  pump : Bool
  chiller : Bool
  heater : Bool
  damper : Bool
deriving DecidableEq, Repr

/-- A bay cooling record (R122). -/
structure CoolRec where
  even : StringInput
  odd : StringInput
  demand : Nat
  heaterDemand : Bool
  running : Nat
  runOnEnd : Option Nat
  containment : Containment
  flow : Bool
  flowFault : Bool
  flowTimer : Option FlowTimer
  outputs : CoolOutputs
deriving DecidableEq, Repr

/-! ### Connection Sequencer (chapter 7) -/

/-- Fail reasons of a string contactor (R138). -/
inductive ContactorFail where
  | feedback
  | precharge
deriving DecidableEq, Repr

/-- String contactor states with the timers present in them (R138). -/
inductive ContactorState where
  | opened
  | queued
  | precharging (endsAt : Nat)
  | closed
  | draining (endsAt : Nat)
  | failed (reason : ContactorFail)
deriving DecidableEq, Repr

/-- The set of unmet conditions of service-readiness (R139). -/
structure Unmet where
  fitted : Bool
  isolate : Bool
  fire : Bool
  modules : Bool
  band : Bool
  link : Bool
  mode : Bool
deriving DecidableEq, Repr

/-- A string contactor record (R138). Service-ready is that `unmet` is empty (R139). -/
structure Contactor where
  fitted : Bool
  state : ContactorState
  failures : Nat
  retryEnd : Option Nat
  unmet : Unmet
  isolating : Option Handle
  mainClosed : Bool
  prechargeClosed : Bool
  feedback : Bool
  feedbackTimer : Option Nat
deriving DecidableEq, Repr

/-- Fail reasons of the breaker (R151). -/
inductive BreakerFail where
  | close
  | opening
  | feedback
deriving DecidableEq, Repr

/-- Opening kinds of the breaker (R151). -/
inductive OpeningKind where
  | normal
  | trip
deriving DecidableEq, Repr

/-- Breaker states with the fields present in them (R151). -/
inductive BreakerState where
  | opened
  | closing (windowEnd : Nat)
  | closed
  | opening (kind : OpeningKind) (windowEnd : Nat)
  | tripped
  | failed (reason : BreakerFail)
deriving DecidableEq, Repr

/-- The Breaker Record with its pulse outputs (R151). Grid levels are `true` for HEALTHY. -/
structure Breaker where
  state : BreakerState
  feedbackTimer : Option Nat
  commandedClosed : Bool
  closePulse : Bool
  openPulse : Bool
  feedback : Bool
  grid : Conditioned Bool
  reconnectEnd : Option Nat
  gridAvailable : Bool
  armed : Bool
deriving DecidableEq, Repr

/-! ### Converter Link (chapter 8) -/

/-- Converter link rates (R160, R190). -/
inductive Rate where
  | r19200
  | r57600
  | r115200
deriving DecidableEq, Repr

/-- A character the link receiver took: data bits, ninth bit, noise mark, framing error (R161). -/
structure RxChar where
  value : Byte
  ninth : Bool
  noise : Bool
  framing : Bool
deriving DecidableEq, Repr

/-- Frames the part sends (chapter 8.2). -/
inductive OutKind where
  | state
  | limit
deriving DecidableEq, Repr

/-- A built STATE or LIMIT frame: handle, value A, the two characters of value B, and the tag (8.2, 11.3). -/
structure OutFrame where
  kind : OutKind
  handle : Handle
  limit : Nat
  stateCode : Byte
  report : Byte
  tag : Byte
deriving DecidableEq, Repr

/-- The transmitter (R164): a frame being sent keeps the rate it began at (R172) and the time at which its first start bit
began, a gap its end. -/
inductive Transmitter where
  | idle
  | sending (frame : OutFrame) (rate : Rate) (start : Nat)
  | gap (endsAt : Nat)
deriving DecidableEq, Repr

/-- Link states (R164). -/
inductive LinkState where
  | up (timeoutEnd : Nat)
  | down
deriving DecidableEq, Repr

/-- Causes of a bad frame (R163). -/
inductive BadCause where
  | framing
  | noise
  | check
  | kind
  | broken
deriving DecidableEq, Repr

/-- What the latest RENEW frame taken reported: DC-link voltage, arrival time, present current (R170). -/
structure DcReport where
  voltage : Nat
  arrival : Nat
  current : Int
deriving DecidableEq, Repr

/-- The link record and the receive frame buffer (R162, R164). -/
structure Link where
  state : LinkState
  queue : List OutFrame
  transmitter : Transmitter
  overrun : Bool
  lastBad : Option BadCause
  dc : Option DcReport
  noticeCount : Byte
  rate : Option Rate
  buffer : List RxChar
deriving DecidableEq, Repr

/-! ### Station Port (chapter 9) -/

/-- Refusal codes of orders (section 9.5). -/
inductive RefCode where
  | unknown
  | notReady
  | mode
  | full
  | stale
  | scope
  | conflict
  | holder
  | lease
  | field
  | key
  | fire
  | state
  | busy
  | active
  | raise
  | profile
deriving DecidableEq, Repr

/-- What an owner answers to an order: DONE (`none`) or REFUSED with a code, and the result words (R180). -/
structure Answer where
  refusal : Option RefCode
  results : List Word
deriving DecidableEq, Repr

/-- The runner's copy of a slot's control, order code and operand words (R179). -/
structure Snapshot where
  control : Word
  code : Word
  op0 : Word
  op1 : Word
  op2 : Word
  op3 : Word
  op4 : Word
  op5 : Word
deriving DecidableEq, Repr

/-- Halt reasons of the Chain Runner (R176). -/
inductive HaltReason where
  | refused
  | chainLong
  | stopped
deriving DecidableEq, Repr

/-- How far the order in progress has come: handed to its owner, taken by its owner and not answered yet (a time-taking
order, R182), or answered, which the runner has not written yet (R179, R180). -/
inductive OrderProgress where
  | handed
  | taken
  | answered (answer : Answer)
deriving DecidableEq, Repr

/-- Runner states with the fields present in them (R176). -/
inductive RunnerState where
  | idle (slot : Option (BitVec 5))
  | running (slot : BitVec 5) (snapshot : Snapshot) (waiting stopRequested : Bool) (progress : OrderProgress)
  | halted (slot : BitVec 5) (reason : HaltReason)
deriving DecidableEq, Repr

/-- The runner record (R176). -/
structure Runner where
  state : RunnerState
  executed : Nat
  runRefused : Bool
deriving DecidableEq, Repr

/-- Attention Summary, attention enable and the attention line (R185, R186). Bit positions as 11.1.1. -/
structure Attention where
  flags : BitVec 10
  enables : BitVec 10
  line : Bool
deriving DecidableEq, Repr

/-- What a read transaction shifts out: the word captured for the data word in progress, and the level on data out (R197).
-/
structure DataOut where
  word : Word
  level : Bool
deriving DecidableEq, Repr

/-- The SPI target (R197). In a transaction, `bits` are the bits of the word in progress that its rising edges have brought,
the most significant first, and `out` is absent until the first falling edge of the first data word. -/
inductive Transaction where
  /-- The reset line is asserted: the port takes no transaction. -/
  | resetHeld
  /-- Select is released. -/
  | released
  | header (bits : List Bool)
  | write (address : BitVec 10) (bits : List Bool)
  | read (address : BitVec 10) (out : Option DataOut) (bits : List Bool)
deriving DecidableEq, Repr

/-! ### Mode and Profile Unit (chapter 10) -/

/-- Operating modes (R187). -/
inductive Mode where
  | commissioning
  | operating
  | maintenance
deriving DecidableEq, Repr

/-- The profile fields (R190). The link timeout is in 0.1 s. -/
structure Profile where
  fitted : BitVec 8
  expected : Vector (BitVec 24) 8
  cells : Vector Nat 8
  ratedCharge : Vector Nat 8
  ratedDischarge : Vector Nat 8
  cellUpper : Nat
  chargeTaper : Nat
  dischargeTaper : Nat
  cellLower : Nat
  reconnectDelay : Nat
  riseHold : Nat
  t0 : Int
  t1 : Int
  t2 : Int
  t4 : Int
  t5 : Int
  t6 : Int
  t7 : Int
  gasLimit : Nat
  bleedWindow : Nat
  pollBase : Nat
  runOn : Nat
  releaseCountdown : Nat
  manualBays : BitVec 4
  drainTime : Nat
  revokedHold : Nat
  linkRate : Rate
  linkTimeout : Nat
  startMode : Mode
deriving DecidableEq, Repr

/-- The stored copy: its words in code order and its checksum, `none` when erased (R190, R192, 11.1.7). -/
structure Stored where
  words : List Word
  checksum : Option Word
deriving DecidableEq, Repr

/-- End causes of start-up (R196). -/
inductive StartEnd where
  | complete
  | timeLimit
deriving DecidableEq, Repr

/-- Start-up phases with the fields present in them (R196). -/
inductive StartPhase where
  | running (limitEnd : Nat)
  | ended (cause : StartEnd)
deriving DecidableEq, Repr

/-- Bus progress in the start-up record (R196). -/
inductive BusProgress where
  | notFitted
  | selftest
  | rollcall
  | firstRound
  | polled
  | failed
deriving DecidableEq, Repr

/-- A bus's line of the start-up record (R196). -/
structure BusStart where
  progress : BusProgress
  stuckSeen : Bool
deriving DecidableEq, Repr

/-- The start-up record (R196). -/
structure StartUp where
  phase : StartPhase
  buses : Vector BusStart 8
deriving DecidableEq, Repr

/-- The Mode and Profile Unit (chapter 10). `active` is the profile the blocks took last (R190, R192); `writing` is the
time at which the commit in progress began (R192). -/
structure ProfileUnit where
  mode : Mode
  working : Profile
  active : Profile
  stored : Stored
  storedGood : Bool
  committed : Bool
  writing : Option Nat
  clock : SiteTime
  nextSecond : Nat
  startUp : StartUp
deriving DecidableEq, Repr

/-! ### The whole part -/

/-- The state. The last five fields are the model's own. -/
structure State where
  slots : Vector Slot 48
  doorReleased : Bool
  crewKey : Bool
  door : Conditioned Bool
  strings : Vector StringRec 8
  buses : Vector Bus 8
  fire : Vector FireRec 4
  cooling : Vector CoolRec 4
  contactors : Vector Contactor 8
  serving : Option (Fin 8)
  breaker : Breaker
  link : Link
  orderMemory : List Host.Cell
  transaction : Transaction
  runner : Runner
  attention : Attention
  unit : ProfileUnit
  now : Nat
  loaded : Bool
  answer : Option Answer
  draws : Nat
  pending : List Instr
deriving DecidableEq, Repr

/-- Faults. The spec describes no event that stops the part, and no meaning answers with a fault (log 33). -/
inductive Fault where
  /-- Raised by nobody: every command of the table answers a next state. Safe. -/
  | never
deriving DecidableEq, Repr

/-- Refusals. -/
inductive Refusal where
  /-- A command that has no meaning in the model yet; raised by its arm of `exec` only. Safe. No arm uses it. -/
  | notModelled (mnemonic : String)
deriving DecidableEq, Repr

/-! ### Values at reset -/

/-- The default profile (R190). -/
def Profile.default : Profile where
  fitted := 0
  expected := Vector.replicate 8 0
  cells := Vector.replicate 8 12
  ratedCharge := Vector.replicate 8 0
  ratedDischarge := Vector.replicate 8 0
  cellUpper := 4200
  chargeTaper := 4100
  dischargeTaper := 3200
  cellLower := 2900
  reconnectDelay := 300
  riseHold := 5
  t0 := -20
  t1 := 0
  t2 := 10
  t4 := 35
  t5 := 45
  t6 := 55
  t7 := 65
  gasLimit := 60
  bleedWindow := 15
  pollBase := 1000
  runOn := 180
  releaseCountdown := 30
  manualBays := 15
  drainTime := 3
  revokedHold := 600
  linkRate := .r19200
  linkTimeout := 20
  startMode := .commissioning

/-- A string record at reset (R38). -/
def StringRec.atReset : StringRec where
  fitted := false
  onlineCount := 0
  voltage := 0
  minCell := 0
  minPlace := none
  maxCell := 0
  maxPlace := none
  minTemp := 0
  maxTemp := 0
  band := 3
  bandChanged := false
  chargeEnvelope := 0
  dischargeEnvelope := 0
  cause := .outOfService
  bleedTarget := 0
  bleeding := false

/-- A roll call record at reset (R87). -/
def RollCall.atReset : RollCall where
  progress := .idle
  found := 0
  extra := 0
  requested := false
  working := []

/-- A round record at reset (R93). -/
def Round.atReset : Round where
  index := 0
  start := none
  nextStart := none
  position := none

/-- A Sensing Bus Controller at reset (R70, R82, R87, R93). -/
def Bus.atReset : Bus where
  state := .off
  frame := none
  lastFailure := none
  lastTarget := none
  roster := []
  rollCall := RollCall.atReset
  round := Round.atReset
  switchPending := false
  maskChanged := false

/-- A smoke line at reset: FAULT, with the combination read as its candidate (R100). The spec gives no taken combination
for it; both inputs released is one whose condition is FAULT. DESIGN CHOICE (log 36). -/
def SmokeLine.atReset (read : SmokePair) (now : Nat) : SmokeLine where
  condition := .fault
  taken := ⟨false, false⟩
  candidate := some ⟨read, now⟩

/-- A bay fire record at reset (R100), from the levels read on the bay's lines. -/
def FireRec.atReset (readA readB : SmokePair) (pressed : Bool) (now : Nat) : FireRec where
  state := .quiet
  smokeA := SmokeLine.atReset readA now
  smokeB := SmokeLine.atReset readB now
  gas := .unavailable
  heat := .unavailable
  activeCount := 0
  availableCount := 0
  degraded := true
  manual := ⟨false, false, false⟩
  releaseOutput := false
  containment := .none
  gasList := []
  band7Even := false
  band7Odd := false
  hold := ⟨false, some ⟨pressed, now⟩⟩

/-- A bay cooling record at reset (R123), from the level read on the flow switch. -/
def CoolRec.atReset (flow : Bool) : CoolRec where
  even := ⟨false, 3, false⟩
  odd := ⟨false, 3, false⟩
  demand := 0
  heaterDemand := false
  running := 0
  runOnEnd := none
  containment := .none
  flow := flow
  flowFault := false
  flowTimer := none
  outputs := ⟨false, false, false, false, false, false⟩

/-- A string contactor record at reset (R138), from the level read on the feedback input. The unmet conditions are
those that the other records' reset values leave unmet: FITTED, MODULES, LINK and MODE. DEDUCED. -/
def Contactor.atReset (feedback : Bool) : Contactor where
  fitted := false
  state := .opened
  failures := 0
  retryEnd := none
  unmet := ⟨true, false, false, true, false, true, true⟩
  isolating := none
  mainClosed := false
  prechargeClosed := false
  feedback := feedback
  feedbackTimer := none

/-- The Breaker Record at reset (R151), from the levels read on its inputs. -/
def Breaker.atReset (feedback healthy : Bool) (now : Nat) : Breaker where
  state := .opened
  feedbackTimer := if feedback then some (now + Config.breakerTime) else none
  commandedClosed := false
  closePulse := false
  openPulse := false
  feedback := feedback
  grid := ⟨false, some ⟨healthy, now⟩⟩
  reconnectEnd := none
  gridAvailable := false
  armed := false

/-- The link record at reset (R164). -/
def Link.atReset : Link where
  state := .down
  queue := []
  transmitter := .idle
  overrun := false
  lastBad := none
  dc := none
  noticeCount := 0
  rate := none
  buffer := []

/-- The runner record at reset (R176). -/
def Runner.atReset : Runner where
  state := .idle none
  executed := 0
  runRefused := false

/-- The start-up record at reset (R196). -/
def StartUp.atReset (now : Nat) : StartUp where
  phase := .running (now + Config.startUpLimit)
  buses := Vector.replicate 8 ⟨.notFitted, false⟩

/-- The words of the default profile in the stored copy (R190, 11.1.7): one word a field, two for an expected module
mask, in code order. The reset state holds them as numerals; `test_stored_default` says they are the words of
`Profile.default`. -/
def Stored.defaultWords : List Word :=
  [0] ++ List.replicate 16 0 ++ List.replicate 8 12 ++ List.replicate 16 0 ++
  [4200, 4100, 3200, 2900, 300, 5] ++
  [65516, 0, 10, 35, 45, 55, 65] ++ [60, 15, 1000, 180, 30, 15, 3, 600, 0, 20, 1]

/-- The part right after power-on. Every value is the spec's; where the spec gives none, the log entry is named:
the levels of the input lines (log 7), the stored copy and the working copy (log 8), the profile the blocks hold until
the load (log 9). -/
def State.reset : State where
  slots := Vector.replicate 48 ⟨0, none⟩
  doorReleased := false
  crewKey := false
  door := ⟨true, some ⟨true, 0⟩⟩
  strings := Vector.replicate 8 StringRec.atReset
  buses := Vector.replicate 8 Bus.atReset
  fire := Vector.replicate 4 (FireRec.atReset ⟨false, false⟩ ⟨false, false⟩ false 0)
  cooling := Vector.replicate 4 (CoolRec.atReset false)
  contactors := Vector.replicate 8 (Contactor.atReset false)
  serving := none
  breaker := Breaker.atReset false false 0
  link := Link.atReset
  orderMemory := []
  transaction := .released
  runner := Runner.atReset
  attention := ⟨0, 0, false⟩
  unit :=
    { mode := .commissioning
      working := Profile.default
      active := Profile.default
      stored := ⟨Stored.defaultWords, none⟩
      storedGood := false
      committed := false
      writing := none
      clock := ⟨0, 0⟩
      nextSecond := Config.sec 1
      startUp := StartUp.atReset 0 }
  now := 0
  loaded := false
  answer := none
  draws := 0
  pending := []

end Sys2Proof.Machine
end

