-- ==== Sys2Proof/Machine/Ops.lean ====
section
/-! DEFINITION. Named operations over the state's tables, its conditioned lines, its timers and its order memory. -/

namespace Sys2Proof.Machine

/-! ### Tables -/

/-- The strings in order. -/
def allStrings : List (Fin 8) := [0, 1, 2, 3, 4, 5, 6, 7]

/-- The bays in order. -/
def allBays : List (Fin 4) := [0, 1, 2, 3]

/-- The permit slots in order. -/
def allSlots : List (Fin 48) :=
  [0, 1, 2, 3, 4, 5, 6, 7, 8, 9, 10, 11, 12, 13, 14, 15] ++
  [16, 17, 18, 19, 20, 21, 22, 23, 24, 25, 26, 27, 28, 29, 30, 31] ++
  [32, 33, 34, 35, 36, 37, 38, 39, 40, 41, 42, 43, 44, 45, 46, 47]

/-- The bay of a string: bay k holds strings 2k and 2k+1 (00_scope.md 4). -/
def bayOf (i : Fin 8) : Fin 4 := ⟨i.val / 2, by omega⟩

/-- The even string of a bay. -/
def evenOf (k : Fin 4) : Fin 8 := ⟨2 * k.val, by omega⟩

/-- The odd string of a bay. -/
def oddOf (k : Fin 4) : Fin 8 := ⟨2 * k.val + 1, by omega⟩

/-- A table with entry `i` replaced. -/
def put {α : Type} {n : Nat} (v : Vector α n) (i : Fin n) (x : α) : Vector α n := v.set i.val x i.isLt

/-- The table of eight whose entry `i` is `f i`. -/
def tab8 {α : Type} (f : Fin 8 → α) : Vector α 8 := ⟨#[f 0, f 1, f 2, f 3, f 4, f 5, f 6, f 7], rfl⟩

/-- The table of four whose entry `k` is `f k`. -/
def tab4 {α : Type} (f : Fin 4 → α) : Vector α 4 := ⟨#[f 0, f 1, f 2, f 3], rfl⟩

/-- Whether a scope holds a string (R1). -/
def inScope (scope : BitVec 8) (i : Fin 8) : Bool := scope.getLsbD i.val

/-- Whether a scope holds a string of a bay. -/
def meetsBay (scope : BitVec 8) (k : Fin 4) : Bool := inScope scope (evenOf k) || inScope scope (oddOf k)

/-- The state with one bus replaced. -/
def State.setBus (s : State) (b : Fin 8) (x : Bus) : State := { s with buses := put s.buses b x }

/-- The state with one string record replaced. -/
def State.setString (s : State) (i : Fin 8) (x : StringRec) : State := { s with strings := put s.strings i x }

/-- The state with one bay fire record replaced. -/
def State.setFire (s : State) (k : Fin 4) (x : FireRec) : State := { s with fire := put s.fire k x }

/-- The state with one bay cooling record replaced. -/
def State.setCooling (s : State) (k : Fin 4) (x : CoolRec) : State := { s with cooling := put s.cooling k x }

/-- The state with one string contactor record replaced. -/
def State.setContactor (s : State) (i : Fin 8) (x : Contactor) : State :=
  { s with contactors := put s.contactors i x }

/-- The state with one permit slot replaced. -/
def State.setSlot (s : State) (i : Fin 48) (x : Slot) : State := { s with slots := put s.slots i x }

/-- The state with the record of one permit slot replaced, its generation kept (R2). -/
def State.setPermit (s : State) (i : Fin 48) (p : Permit) : State :=
  s.setSlot i { s.slots[i] with permit := some p }

/-! ### Conditioned lines -/

/-- The level an input reads now: its candidate's while there is one, else the level taken. -/
def Conditioned.level {α : Type} (c : Conditioned α) : α :=
  match c.candidate with
  | some x => x.level
  | none => c.taken

/-- A change of an input: the new level becomes the candidate and its held time starts from 0 (R48, R102, R110). -/
def Conditioned.change {α : Type} (c : Conditioned α) (level : α) (now : Nat) : Conditioned α :=
  { c with candidate := some ⟨level, now⟩ }

/-- The candidate is taken, and no candidate stands after it. R152 says so for the grid-healthy line, whose candidate stands
while the input differs from the taken value; for the door contact and the hold button the spec does not say. DESIGN CHOICE
(log 45). -/
def Conditioned.take {α : Type} (c : Conditioned α) : Conditioned α := ⟨c.level, none⟩

/-- The combination a smoke line reads now. -/
def SmokeLine.level (l : SmokeLine) : SmokePair :=
  match l.candidate with
  | some x => x.level
  | none => l.taken

/-- The condition a combination gives (R102). -/
def SmokePair.condition (p : SmokePair) : SmokeCondition :=
  match p.normal, p.active with
  | true, false => .normal
  | false, true => .active
  | false, false => .fault
  | true, true => .fault

/-! ### Time -/

/-- Whole seconds left until `endsAt`, rounded up (R13, 11.1.6). -/
def secondsLeft (now endsAt : Nat) : Nat := (endsAt - now + (Config.sec 1 - 1)) / Config.sec 1

/-- Milliseconds left until `endsAt`, rounded up (11.1.6). -/
def millisLeft (now endsAt : Nat) : Nat := (endsAt - now + (Config.ms 1 - 1)) / Config.ms 1

/-- Site clock comparison, by day first and then by second (R6, R17). -/
def SiteTime.atOrBefore (a b : SiteTime) : Bool := a.day < b.day || (a.day == b.day && a.second ≤ b.second)

/-! ### Order memory

Word `w` of the window's order memory is held as two bytes at addresses 2w (low half) and 2w+1 (high half). An address
that is not listed reads as 0, the value of every word at reset (R175). -/

/-- One byte. -/
def Memory.read : List Host.Cell → Nat → BitVec 8
  | [], _ => 0
  | (b, x) :: t, a => if b = a then x else Memory.read t a

/-- One byte written, keeping the canonical form. -/
def Memory.write : List Host.Cell → Nat → BitVec 8 → List Host.Cell
  | [], a, x => if x = 0 then [] else [(a, x)]
  | (b, y) :: t, a, x =>
    if a < b then (if x = 0 then (b, y) :: t else (a, x) :: (b, y) :: t)
    else if a = b then (if x = 0 then t else (a, x) :: t)
    else (b, y) :: Memory.write t a x

/-- The canonical form: addresses strictly rising, none listed with the byte an unlisted address reads as. -/
def Memory.wf : List Host.Cell → Bool
  | [] => true
  | [(_, x)] => x != 0
  | (a, x) :: (b, y) :: t => x != 0 && decide (a < b) && Memory.wf ((b, y) :: t)

/-- Word `w` of order memory. -/
def Memory.readWord (m : List Host.Cell) (w : Nat) : Word := Memory.read m (2 * w + 1) ++ Memory.read m (2 * w)

/-- Word `w` of order memory written. -/
def Memory.writeWord (m : List Host.Cell) (w : Nat) (v : Word) : List Host.Cell :=
  Memory.write (Memory.write m (2 * w) (v.extractLsb' 0 8)) (2 * w + 1) (v.extractLsb' 8 8)

/-- The window address of word `word` of order slot `slot` (11.1.1). -/
def slotAddress (slot : BitVec 5) (word : Nat) : Nat := 16 * slot.toNat + word

/-- Consecutive words written from address `w` on. -/
def Memory.writeWords : List Host.Cell → Nat → List Word → List Host.Cell
  | m, _, [] => m
  | m, w, v :: vs => Memory.writeWords (Memory.writeWord m w v) (w + 1) vs

end Sys2Proof.Machine
end

