-- ==== Sys2Proof/Machine/Chars.lean ====
section
/-! DEFINITION. Characters and frames on the sensing buses (chapter 3, 11.2) and on the converter link (chapter 8, 11.3):
what a receiver makes of its samples, what a frame is made of, and how an exchange or a frame is judged. -/

namespace Sys2Proof.Machine

/-- The value of a bit: the majority of its three samples (R59, R161). -/
def majority (s : Samples) : Bool := (s.early && s.middle) || (s.early && s.late) || (s.middle && s.late)

/-- Whether the three samples of a bit agree (R59, R161). -/
def agree (s : Samples) : Bool := s.early == s.middle && s.middle == s.late

/-- Eight data bits, bit 0 first, as a byte (R58, R160). -/
def byteOfBits (d : Vector Samples 8) : Byte :=
  BitVec.ofNat 8 (d.toList.foldr (fun b n => (majority b).toNat + 2 * n) 0)

/-! ### Sensing bus characters -/

/-- A character a bus receiver took: value, noise mark, framing error (R59). -/
structure BusRx where
  value : Byte
  noise : Bool
  framing : Bool
deriving DecidableEq, Repr

/-- What the receiver makes of a possible character: nothing when the start bit reads high, a glitch (R59). -/
def busReceive (c : BusChar) : Option BusRx :=
  if majority c.start then none
  else some
    { value := byteOfBits c.data
      noise := !(agree c.start && c.data.toList.all agree && agree c.stop)
      framing := !(majority c.stop) }

/-- A character's bits as the master drives them: start bit, data bits 0 to 7, stop bit (R58). -/
def charBits (v : Byte) : List Bool :=
  [false, v.getLsbD 0, v.getLsbD 1, v.getLsbD 2, v.getLsbD 3, v.getLsbD 4, v.getLsbD 5, v.getLsbD 6, v.getLsbD 7, true]

/-- The timing character (11.2). -/
def timingChar : Byte := 0x55

/-- Frame kind code of a selector (11.2). -/
def FrameKind.code : FrameKind → Nat
  | .summary => 1
  | .probe => 2
  | .target => 3

/-- The number of 1 bits of a byte. -/
def onesOf (v : Byte) : Nat :=
  (v.getLsbD 0).toNat + (v.getLsbD 1).toNat + (v.getLsbD 2).toNat + (v.getLsbD 3).toNat +
  (v.getLsbD 4).toNat + (v.getLsbD 5).toNat + (v.getLsbD 6).toNat + (v.getLsbD 7).toNat

/-- The selector: address in 4 to 0, kind in 6 to 5, odd parity in 7 (R61, 11.2). -/
def selector (kind : FrameKind) (address : Nat) : Byte :=
  let low : Byte := BitVec.ofNat 8 (address % 32 + 32 * kind.code)
  if onesOf low % 2 = 0 then low ||| 0x80 else low

/-- Ones' complement of the modulo-256 sum (R62, chapter 8.2). -/
def checkChar (vs : List Byte) : Byte := ~~~(vs.foldl (· + ·) 0)

/-- The low and the high half of a value sent over two characters, low half first (chapter 11). -/
def halves (n : Nat) : List Byte := [BitVec.ofNat 8 n, BitVec.ofNat 8 (n / 256)]

/-- The data characters of a TARGET frame (R64). -/
def targetData (t : Target) : List Byte := halves t.millivolts ++ [if t.enable then 1 else 0]

/-- The characters the master sends in a frame after the delimiter (R61, R62, R64). -/
def frameChars (kind : FrameKind) (address : Nat) (t : Target) : List Byte :=
  let sel := selector kind address
  match kind with
  | .target => [timingChar, sel] ++ targetData t ++ [checkChar (sel :: targetData t)]
  | .summary => [timingChar, sel]
  | .probe => [timingChar, sel]

/-- The header gap: the master pulls the line low for 13 bit times (R61). It is not read back (R60). -/
def headerGap : List Bool := List.replicate Config.gapBits false

/-- The bits the master drives and reads back, the delimiter first (R60, R61). -/
def frameBits (kind : FrameKind) (address : Nat) (t : Target) : List Bool :=
  true :: (frameChars kind address t).flatMap charBits

/-- The level the master gives the line in each bit time of a frame: header gap, delimiter (the line released, high) and
characters (R58, R61, R64). -/
def frameLevels (kind : FrameKind) (address : Nat) (t : Target) : List Bool := headerGap ++ frameBits kind address t

/-- Whether the monitor's watch finds the line stuck (R68): low for 15 bit times, or at one level since the header gap
began 15 bit times ago. -/
def LineWatch.isStuck (w : LineWatch) : Bool :=
  decide (Config.stuckBits ≤ w.bitTimes) && (w.level == .low || w.fromGapStart)

/-- Characters expected in an answer (R65). -/
def FrameKind.expected : FrameKind → Nat
  | .summary => 13
  | .probe => 3
  | .target => 0

/-- The length of a response window: 2 ms and a character time for each character expected; a TARGET has none (R65). -/
def FrameKind.window : FrameKind → Option Nat
  | .summary => some (Config.windowBase + FrameKind.summary.expected * Config.busChar)
  | .probe => some (Config.windowBase + FrameKind.probe.expected * Config.busChar)
  | .target => none

/-- When the response window of a frame opens: at the end of its selector's stop bit, which ends the header (R61, R65). -/
def Frame.windowOpens (f : Frame) : Nat := f.start + Config.headerTime

/-- When the response window of a frame ends (R65). Frame holds the start of the header gap alone, and the window follows
from it. -/
def Frame.windowEnd (f : Frame) : Option Nat := f.kind.window.map fun n => f.windowOpens + n

/-- The judgement of an answer (R67, orders 2 to 5): a failure kind, or none for a good exchange. The characters after
the last expected one are no part of the answer (R65). -/
def judgeAnswer (kind : FrameKind) (address : Nat) (chars : List BusRx) : Option FailKind :=
  let answer := chars.take kind.expected
  if answer.any (·.framing) then some .framing
  else if 2 ≤ answer.countP (·.noise) then some .noise
  else if answer.length < kind.expected then some .short
  else if (answer.map (·.value)).getLastD 0 ≠
      checkChar (selector kind address :: (answer.map (·.value)).dropLast) then some .check
  else none

/-- The answer a receiver took from what it found in the window (R59, R65). -/
def answerOf (kind : FrameKind) (chars : List BusChar) : List BusRx := (chars.filterMap busReceive).take kind.expected

/-- Whether the characters found end the frame before its window ends: as many as expected have been found and none of them
has a framing error (R65). -/
def answerComplete (kind : FrameKind) (chars : List BusChar) : Bool :=
  (answerOf kind chars).length == kind.expected && (answerOf kind chars).all fun c => !c.framing

/-- A number of two characters, low half first. -/
def pairNat (low high : Byte) : Nat := low.toNat + 256 * high.toNat

/-- A temperature character: signed, held within -40 to +125 (R63). -/
def temperature (v : Byte) : Int := max (-40) (min 125 v.toInt)

/-- The values of an accepted SUMMARY answer (R63, 11.2). -/
def decodeSummary : List Byte → Option Summary
  | a0 :: a1 :: b0 :: b1 :: pos :: v0 :: v1 :: tmax :: tmin :: gas :: bleed :: status :: _ =>
    some
      { minCell := pairNat a0 a1
        minPosition := (pos.extractLsb' 0 4).toNat + 1
        maxCell := pairNat b0 b1
        maxPosition := (pos.extractLsb' 4 4).toNat + 1
        voltage := pairNat v0 v1
        maxTemp := temperature tmax
        minTemp := temperature tmin
        gas := gas.toNat
        bleedCount := bleed.toNat
        status := status }
  | _ => none

/-- The values of an accepted PROBE answer (R63, 11.2). -/
def decodeProbe : List Byte → Option Probe
  | count :: status :: _ => some ⟨count.toNat, status⟩
  | _ => none

/-- Whether a module or board status reports an internal fault: bits 0, 1 and 2 (11.2). -/
def statusFault (v : Byte) : Bool := v.getLsbD 0 || v.getLsbD 1 || v.getLsbD 2

/-- The judgement of a good SUMMARY against the string's cells per module (R83). -/
def Summary.judge (x : Summary) (cells : Nat) : Option FaultCause :=
  if cells < x.minPosition ∨ cells < x.maxPosition then some .cells
  else if statusFault x.status then some .status
  else none

/-- The judgement of a good PROBE answer against the string's cells per module (R83). -/
def Probe.judge (x : Probe) (cells : Nat) : Option FaultCause :=
  if x.cellCount ≠ cells then some .cells
  else if statusFault x.status then some .status
  else none

/-- Whether a self-test pattern came back as sent: with its value, no noise mark and no framing error (R72). -/
def patternPasses (sent : Byte) (back : Option BusChar) : Bool :=
  match back.bind busReceive with
  | some c => c.value == sent && !c.noise && !c.framing
  | none => false

/-! ### Converter link characters and frames -/

/-- What the link receiver makes of a possible character: nothing when the start bit reads high, a glitch (R161). -/
def linkReceive (c : LinkChar) : Option RxChar :=
  if majority c.start then none
  else some
    { value := byteOfBits c.data
      ninth := majority c.ninth
      noise := !(agree c.start && c.data.toList.all agree && agree c.ninth && agree c.stop)
      framing := !(majority c.stop) }

/-- A character that begins a frame: ninth bit set and no framing error (R162). -/
def RxChar.isMark (c : RxChar) : Bool := c.ninth && !c.framing

/-- Kinds of frame the converter sends (chapter 8.2). -/
inductive InKind where
  | renew
  | reduce
  | handback
  | query
deriving DecidableEq, Repr

/-- Kind codes of the converter's frames (11.3). -/
def InKind.ofCode : Nat → Option InKind
  | 1 => some .renew
  | 2 => some .reduce
  | 3 => some .handback
  | 4 => some .query
  | _ => none

/-- A frame of the converter (8.2). -/
structure InFrame where
  kind : InKind
  handle : Handle
  valueA : Word
  valueB : Word
  tag : Byte
deriving DecidableEq, Repr

/-- The judgement of nine characters (R163): a cause, or the frame they carry. -/
def judgeFrame (cs : List RxChar) : Except BadCause InFrame :=
  if cs.any (·.framing) then .error .framing
  else if 2 ≤ cs.countP (·.noise) then .error .noise
  else
    match cs.map (·.value) with
    | [k, slot, gen, a0, a1, b0, b1, tag, chk] =>
      if chk ≠ checkChar [k, slot, gen, a0, a1, b0, b1, tag] then .error .check
      else
        match InKind.ofCode k.toNat with
        | some kind => .ok ⟨kind, ⟨slot, gen⟩, a1 ++ a0, b1 ++ b0, tag⟩
        | none => .error .kind
    | _ => .error .kind

/-- Kind codes of the part's frames (11.3). -/
def OutKind.code : OutKind → Byte
  | .state => 8
  | .limit => 9

/-- The nine characters of a frame the part sends, each with its ninth bit (R168, 8.2, 11.3). -/
def OutFrame.chars (f : OutFrame) : List (Byte × Bool) :=
  let body := [f.kind.code, f.handle.slot, f.handle.generation] ++ halves f.limit ++ [f.stateCode, f.report, f.tag]
  (body ++ [checkChar body]).zip (true :: List.replicate 8 false)

/-- One bit time of a converter link rate (R160). -/
def Rate.bitTime : Rate → Nat
  | .r19200 => 3750
  | .r57600 => 1250
  | .r115200 => 625

/-- A character time: 11 bit times (R160). -/
def Rate.charTime (r : Rate) : Nat := 11 * r.bitTime

/-- A character's levels as the part sends them, one a bit time: start bit low, data bits 0 to 7, ninth bit, stop bit high
(R160). -/
def linkCharLevels (v : Byte) (ninth : Bool) : List Bool :=
  [false, v.getLsbD 0, v.getLsbD 1, v.getLsbD 2, v.getLsbD 3, v.getLsbD 4, v.getLsbD 5, v.getLsbD 6, v.getLsbD 7, ninth,
   true]

/-- The levels of a frame the part sends, one a bit time (R160, R168). -/
def OutFrame.levels (f : OutFrame) : List Bool := f.chars.flatMap fun c => linkCharLevels c.1 c.2

/-- The level of the transmit line: a frame's own while it is sent, and high at rest (R160). -/
def Transmitter.line (t : Transmitter) (now : Nat) : Bool :=
  match t with
  | .sending f rate start => (f.levels[(now - start) / rate.bitTime]?).getD true
  | .idle => true
  | .gap _ => true

end Sys2Proof.Machine
end

