-- ==== Sys2Proof/Machine/Flags.lean ====
section
/-! DEFINITION. The Attention Summary, its enable and the attention line (R185, R186). -/

namespace Sys2Proof.Machine

/-- The ten attention flags (R185). -/
inductive Flag where
  | start
  | chain
  | permit
  | band
  | fire
  | cooling
  | connection
  | bus
  | link
  | profile
deriving DecidableEq, Repr

/-- The place of a flag in the Attention Summary word (11.1.1). -/
def Flag.position : Flag → Nat
  | .start => 0
  | .chain => 1
  | .permit => 2
  | .band => 3
  | .fire => 4
  | .cooling => 5
  | .connection => 6
  | .bus => 7
  | .link => 8
  | .profile => 9

/-- The word with one flag set. -/
def Flag.mask (f : Flag) : BitVec 10 := 1#10 <<< f.position

/-- The attention line follows the set flags that are enabled (R186). -/
def Attention.drive (a : Attention) : Attention := { a with line := (a.flags &&& a.enables) != 0 }

/-- A flag is set; the line is recomputed (R185, R186). -/
def Attention.raise (a : Attention) (f : Flag) : Attention := Attention.drive { a with flags := a.flags ||| f.mask }

/-- A host write to the Attention Summary clears the flags written with a 1 (R185). -/
def Attention.clear (a : Attention) (w : Word) : Attention :=
  Attention.drive { a with flags := a.flags &&& ~~~(w.extractLsb' 0 10) }

/-- A host write to the enable word replaces all ten enables (R186). -/
def Attention.enable (a : Attention) (w : Word) : Attention :=
  Attention.drive { a with enables := w.extractLsb' 0 10 }

/-- Whether a flag is set. -/
def State.flagged (s : State) (f : Flag) : Bool := s.attention.flags.getLsbD f.position

/-- A block sets an attention flag. -/
def State.raise (s : State) (f : Flag) : State := { s with attention := s.attention.raise f }

/-- A block sets an attention flag where its rule's condition holds. -/
def State.raiseIf (s : State) (c : Bool) (f : Flag) : State := if c then s.raise f else s

end Sys2Proof.Machine
end

