-- ==== Sys2Proof/Machine/BreakerOps.lean ====
section
/-! DEFINITION. The grid breaker's transitions (R151 to R157), shared by orders, lines, timers and hand-offs. -/

namespace Sys2Proof.Machine

/-- The number of a breaker state in the order of R151. -/
def BreakerState.code : BreakerState → Nat
  | .opened => 0
  | .closing _ => 1
  | .closed => 2
  | .opening _ _ => 3
  | .tripped => 4
  | .failed _ => 5

/-- Whether the breaker is commanded closed in a state: CLOSING and CLOSED alone (R151, site law 4). -/
def BreakerState.commandsClosed : BreakerState → Bool
  | .closing _ => true
  | .closed => true
  | _ => false

/-- The feedback timer: present while the feedback differs from the command in OPEN and CLOSED, started at the event
that brings them to differ (R157). -/
def Breaker.supervise (b : Breaker) (now : Nat) : Breaker :=
  match b.state with
  | .opened | .closed =>
    if b.feedback = b.commandedClosed then { b with feedbackTimer := none }
    else { b with feedbackTimer := some (b.feedbackTimer.getD (now + Config.breakerTime)) }
  | _ => { b with feedbackTimer := none }

/-- A state entered: command and pulse outputs follow it (R151). -/
def Breaker.enter (b : Breaker) (st : BreakerState) (now : Nat) : Breaker :=
  Breaker.supervise
    { b with
      state := st
      commandedClosed := st.commandsClosed
      closePulse := match st with | .closing _ => true | _ => false
      openPulse := match st with | .opening _ _ => true | _ => false } now

/-- CLOSING entered; a feedback already closed completes the closing as part of the entry (R153). -/
def Breaker.close (b : Breaker) (now : Nat) : Breaker :=
  let b1 := b.enter (.closing (now + Config.breakerTime)) now
  if b.feedback then b1.enter .closed now else b1

/-- The state an opening ends in (R154). -/
def OpeningKind.target : OpeningKind → BreakerState
  | .normal => .opened
  | .trip => .tripped

/-- OPENING entered; a feedback already open completes the opening as part of the entry (R154). -/
def Breaker.startOpening (b : Breaker) (kind : OpeningKind) (now : Nat) : Breaker :=
  let b1 := b.enter (.opening kind (now + Config.breakerTime)) now
  if b.feedback then b1 else b1.enter kind.target now

/-- A normal opening (R154). -/
def Breaker.openNormally (b : Breaker) (now : Nat) : Breaker :=
  match b.state with
  | .closing _ => b.startOpening .normal now
  | .closed => b.startOpening .normal now
  | .opened => b
  | .opening _ _ => b
  | .tripped => b
  | .failed _ => b

/-- A trip (R155). -/
def Breaker.trip (b : Breaker) (now : Nat) : Breaker :=
  match b.state with
  | .closing _ => b.startOpening .trip now
  | .closed => b.startOpening .trip now
  | .opening _ windowEnd => { b with state := .opening .trip windowEnd }
  | .opened => b.enter .tripped now
  | .tripped => b
  | .failed _ => b

/-- The Breaker Record replaced; a change of its state sets the CONNECTION flag (R158). -/
def State.setBreaker (s : State) (b : Breaker) : State :=
  ({ s with breaker := b }).raiseIf (b.state.code != s.breaker.state.code) .connection

/-- The breaker is opened normally. -/
def State.openBreaker (s : State) : State := s.setBreaker (s.breaker.openNormally s.now)

/-- The breaker is tripped. -/
def State.tripBreaker (s : State) : State := s.setBreaker (s.breaker.trip s.now)

/-- The breaker is closed, as an order or auto-reclose closes it from OPEN (R153, R156). -/
def State.closeBreaker (s : State) : State := s.setBreaker (s.breaker.close s.now)

/-- Auto-reclose armed, set or cleared (R156). -/
def State.arm (s : State) (armed : Bool) : State := { s with breaker := { s.breaker with armed := armed } }

end Sys2Proof.Machine
end

