-- ==== Sys2Proof/Machine/Pack.lean ====
section
/-! DEFINITION. The packing of result words (11.1.6). -/

namespace Sys2Proof.Machine

/-- A field of a result: its width in bits and its value. -/
structure Field where
  width : Nat
  value : Nat
deriving DecidableEq, Repr

/-- Where a field of width `w` begins when the next free bit is `p`: in the present word if it fits there, else at the
next word. A field wider than a word begins at a word (log 15). -/
def fieldStart (p w : Nat) : Nat :=
  if w ≤ 16 - p % 16 ∨ p % 16 = 0 then p else (p / 16 + 1) * 16

/-- All fields of a result as one number, bit 0 being bit 0 of result 0. A value that its width cannot hold is cut. -/
def packNat : List Field → Nat → Nat
  | [], _ => 0
  | f :: fs, p =>
    let q := fieldStart p f.width
    (f.value % 2 ^ f.width) * 2 ^ q + packNat fs (q + f.width)

/-- The seven result words of a number. -/
def resultWords (n : Nat) : List Word :=
  [BitVec.ofNat 16 n, BitVec.ofNat 16 (n >>> 16), BitVec.ofNat 16 (n >>> 32), BitVec.ofNat 16 (n >>> 48),
   BitVec.ofNat 16 (n >>> 64), BitVec.ofNat 16 (n >>> 80), BitVec.ofNat 16 (n >>> 96)]

/-- The seven result words of a list of fields (11.1.6). -/
def pack (fs : List Field) : List Word := resultWords (packNat fs 0)

/-- Seven result words of 0 (R180). -/
def noResults : List Word := resultWords 0

/-- A result of whole words, the rest 0. -/
def wordResults (ws : List Word) : List Word := (ws ++ List.replicate 7 0).take 7

/-- A field. -/
def fld (width value : Nat) : List Field := [⟨width, value⟩]

/-- A one-bit field: set is 1 (log 18). -/
def bit (b : Bool) : List Field := [⟨1, b.toNat⟩]

/-- An optional field: its presence bit, then its place, 0 while it is absent (11.1.6, log 16). -/
def opt (width : Nat) : Option Nat → List Field
  | some v => [⟨1, 1⟩, ⟨width, v⟩]
  | none => [⟨1, 0⟩, ⟨width, 0⟩]

/-- A signed value in two's complement (11.1.6). -/
def signed (width : Nat) (x : Int) : Nat := (x % (2 ^ width : Nat)).toNat

/-- A signed field. -/
def sfld (width : Nat) (x : Int) : List Field := [⟨width, signed width x⟩]

/-- DONE with results. -/
def done (results : List Word) : Answer := ⟨none, results⟩

/-- REFUSED with a code and no results (R180). -/
def refuse (code : RefCode) : Answer := ⟨some code, noResults⟩

/-- REFUSED with a code and the results its rule names. -/
def refuseWith (code : RefCode) (results : List Word) : Answer := ⟨some code, results⟩

end Sys2Proof.Machine
end

