-- ==== Sys2Proof/Machine/Operands.lean ====
section
/-! DEFINITION. The codes shared by orders and frames and the operand words of orders (11.1.2 to 11.1.4, R198). -/

namespace Sys2Proof.Machine

/-- Bits of a word as a number. -/
def bitsOf (w : Word) (low count : Nat) : Nat := (w.toNat >>> low) % 2 ^ count

/-- Kind codes (11.1.3). -/
def Kind.ofCode : Nat → Option Kind
  | 1 => some .connect
  | 2 => some .charge
  | 3 => some .discharge
  | 4 => some .isolate
  | 5 => some .entry
  | _ => none

/-- Kind codes (11.1.3). -/
def Kind.code : Kind → Nat
  | .connect => 1
  | .charge => 2
  | .discharge => 3
  | .isolate => 4
  | .entry => 5

/-- Holder codes (11.1.3). -/
def Holder.ofCode : Nat → Option Holder
  | 1 => some .station
  | 2 => some .converter
  | 3 => some .crew
  | _ => none

/-- Holder codes (11.1.3). -/
def Holder.code : Holder → Nat
  | .station => 1
  | .converter => 2
  | .crew => 3

/-- Permit state codes (11.1.3); FREE is 0. -/
def PermitState.code : PermitState → Nat
  | .pending => 1
  | .live => 2
  | .suspended => 3
  | .revoked => 4

/-- Reasons and report values (11.1.3). -/
inductive Report where
  | none
  | fire
  | prealarm
  | door
  | mode
  | lease
  | expired
  | key
  | grid
  | envelope
  | station
  | handback
  | stale
  | holder
  | raise
  | field
deriving DecidableEq, Repr

/-- Reason and report codes (11.1.3). -/
def Report.code : Report → Nat
  | .none => 0
  | .fire => 1
  | .prealarm => 2
  | .door => 3
  | .mode => 4
  | .lease => 5
  | .expired => 6
  | .key => 7
  | .grid => 8
  | .envelope => 9
  | .station => 10
  | .handback => 11
  | .stale => 12
  | .holder => 13
  | .raise => 14
  | .field => 15

/-- A stored reason as a report value (11.1.3). -/
def Reason.report : Reason → Report
  | .grid => .grid
  | .envelope _ _ => .envelope
  | .fire => .fire
  | .mode => .mode
  | .key => .key
  | .lease => .lease
  | .expired => .expired
  | .station => .station

/-- Restriction cause codes (11.1.3). -/
def Cause.code : Cause → Nat
  | .none => 0
  | .fire => 1
  | .prealarm => 2
  | .door => 3
  | .outOfService => 4
  | .modules => 5
  | .thermal => 6
  | .cooling => 7
  | .taper => 8

/-- Mode codes (11.1.3). -/
def Mode.ofCode : Nat → Option Mode
  | 1 => some .commissioning
  | 2 => some .operating
  | 3 => some .maintenance
  | _ => none

/-- Mode codes (11.1.3). -/
def Mode.code : Mode → Nat
  | .commissioning => 1
  | .operating => 2
  | .maintenance => 3

/-- Refusal codes (11.1.2). -/
def RefCode.code : RefCode → Nat
  | .unknown => 1
  | .notReady => 2
  | .mode => 3
  | .full => 4
  | .stale => 5
  | .scope => 6
  | .conflict => 7
  | .holder => 8
  | .lease => 9
  | .field => 10
  | .key => 11
  | .fire => 12
  | .state => 13
  | .busy => 14
  | .active => 15
  | .raise => 16
  | .profile => 17

/-- A handle word: slot in bits 7 to 0, generation in bits 15 to 8 (11.1.3). -/
def Handle.ofWord (w : Word) : Handle := ⟨w.extractLsb' 0 8, w.extractLsb' 8 8⟩

/-- A handle word (11.1.3). -/
def Handle.word (h : Handle) : Word := h.generation ++ h.slot

/-- "none" in a result (11.1.6). -/
def noneWord : Word := 0xFFFF

/-- The handle of a permit slot as it stands. -/
def State.handleOf (s : State) (i : Fin 48) : Handle := ⟨BitVec.ofNat 8 i.val, s.slots[i].generation⟩

/-- A handle resolved (R3): the slot and its record, or none when the handle is stale. -/
def State.resolve (s : State) (h : Handle) : Option (Fin 48 × Permit) :=
  if hs : h.slot.toNat < 48 then
    let i : Fin 48 := ⟨h.slot.toNat, hs⟩
    match s.slots[i].permit with
    | some p => if s.slots[i].generation = h.generation then some (i, p) else none
    | none => none
  else none

/-- A string number of an operand word. -/
def stringOf (w : Word) : Option (Fin 8) := if h : w.toNat < 8 then some ⟨w.toNat, h⟩ else none

/-- A bay number of an operand word. -/
def bayOfWord (w : Word) : Option (Fin 4) := if h : w.toNat < 4 then some ⟨w.toNat, h⟩ else none

/-- A 17-bit second of the day from two words (11.1.3). -/
def secondOf (low : Word) (high : Nat) : Nat := low.toNat + 65536 * high

/-- The operands of a GRANT (11.1.4). -/
structure GrantOps where
  kindCode : Nat
  holderCode : Nat
  scope : BitVec 8
  limit : Option Nat
  lease : Option Nat
  expiry : Option SiteTime
  autoReclose : Bool
deriving DecidableEq, Repr

/-- The GRANT operand words decoded (11.1.4). -/
def GrantOps.decode (op0 op1 op2 op3 op4 op5 : Word) : GrantOps where
  kindCode := bitsOf op0 0 8
  holderCode := bitsOf op0 8 8
  scope := op1.extractLsb' 0 8
  limit := if op1.getLsbD 8 then some op2.toNat else none
  lease := if op1.getLsbD 9 then some (bitsOf op3 0 8) else none
  expiry := if op1.getLsbD 10 then some ⟨op4.toNat, secondOf op5 (bitsOf op3 8 1)⟩ else none
  autoReclose := op1.getLsbD 11

/-- The changes named by an AMEND (11.1.4). -/
structure AmendOps where
  limit : Option Nat
  leaseSet : Option Nat
  leaseRemove : Bool
  expirySet : Option SiteTime
  expiryRemove : Bool
  autoReclose : Option Bool
  fixedNamed : Bool
deriving DecidableEq, Repr

/-- The AMEND operand words decoded (11.1.4). -/
def AmendOps.decode (change op2 op3 op4 op5 : Word) : AmendOps where
  limit := if change.getLsbD 0 then some op2.toNat else none
  leaseSet := if change.getLsbD 1 then some (bitsOf op3 0 8) else none
  leaseRemove := change.getLsbD 2
  expirySet := if change.getLsbD 3 then some ⟨op4.toNat, secondOf op5 (bitsOf op3 8 1)⟩ else none
  expiryRemove := change.getLsbD 4
  autoReclose := if change.getLsbD 5 then some (change.getLsbD 6) else none
  fixedNamed := change.getLsbD 8 || change.getLsbD 9 || change.getLsbD 10

end Sys2Proof.Machine
end

