-- ==== Sys2Proof/Machine/PermitOps.lean ====
section
/-! DEFINITION. What the Permit Manager does to records (chapter 1): targets, decreases and pending rises, revocation,
retirement, marks, and the facts it hands to its neighbours. -/

namespace Sys2Proof.Machine

/-- PENDING, LIVE or SUSPENDED. -/
def Permit.standing (p : Permit) : Bool := p.state != .revoked

/-- LIVE or SUSPENDED. -/
def Permit.liveOrSuspended (p : Permit) : Bool := p.state == .live || p.state == .suspended

/-- The effective limit, 0 for a kind without one (R165). -/
def Permit.effective (p : Permit) : Nat :=
  match p.limits with
  | some l => l.effective
  | none => 0

/-- The requested limit, 0 for a kind without one. -/
def Permit.requested (p : Permit) : Nat :=
  match p.limits with
  | some l => l.requested
  | none => 0

/-- The reported reason (R16). -/
def Permit.reported (p : Permit) : Report :=
  match p.state, p.reason with
  | .pending, _ => .none
  | .live, _ => .none
  | .suspended, some (.envelope _ .prealarm) => .prealarm
  | .suspended, some (.envelope _ .door) => .door
  | .suspended, some r => r.report
  | .revoked, some r => r.report
  | _, none => .none

/-- Whether some slot holds a permit with a property. -/
def State.anyPermit (s : State) (f : Permit → Bool) : Bool :=
  allSlots.any fun i => match s.slots[i].permit with
    | some p => f p
    | none => false

/-- The lowest-numbered slot whose permit has a property. -/
def State.findPermit (s : State) (f : Permit → Bool) : Option (Fin 48) :=
  allSlots.find? fun i => match s.slots[i].permit with
    | some p => f p
    | none => false

/-- The lowest-numbered FREE slot (R2). -/
def State.freeSlot (s : State) : Option (Fin 48) := allSlots.find? fun i => s.slots[i].permit.isNone

/-- Whether any ENTRY permit is LIVE (R25). -/
def State.entryLive (s : State) : Bool := s.anyPermit fun p => p.kind == .entry && p.state == .live

/-- Whether a LIVE ENTRY permit's scope holds a string of a bay (R25, R110). -/
def State.entryCovers (s : State) (k : Fin 4) : Bool :=
  s.anyPermit fun p => p.kind == .entry && p.state == .live && meetsBay p.scope k

/-- Whether a CONNECT permit is LIVE. -/
def State.connectLive (s : State) : Bool := s.anyPermit fun p => p.kind == .connect && p.state == .live

/-! ### Targets (R10 to R12) -/

/-- The envelope of a string that a kind of permit draws on (R10). -/
def StringRec.envelopeFor (r : StringRec) (k : Kind) : Nat :=
  match k with
  | .discharge => r.dischargeEnvelope
  | _ => r.chargeEnvelope

/-- The sum of the envelopes of a scope (R10). -/
def State.envelopeSum (s : State) (kind : Kind) (scope : BitVec 8) : Nat :=
  (allStrings.map fun i => if inScope scope i then s.strings[i].envelopeFor kind else 0).sum

/-- Precedence of a restriction cause, 0 the highest (R11). -/
def Cause.rank : Cause → Nat
  | .fire => 0
  | .prealarm => 1
  | .door => 2
  | .outOfService => 3
  | .modules => 4
  | .thermal => 5
  | .cooling => 6
  | .taper => 7
  | .none => 8

/-- The restricting string of a scope and its cause: the lowest-numbered scope string among those whose cause has the
highest precedence (R11). -/
def State.restricting (s : State) (scope : BitVec 8) : Fin 8 × Cause :=
  let inside := allStrings.filter (inScope scope)
  let best := (inside.map fun i => s.strings[i].cause.rank).foldl min 8
  match inside.find? (fun i => s.strings[i].cause.rank == best) with
  | some i => (i, s.strings[i].cause)
  | none => (0, .none)

/-- What recomputed a target: an AMEND, a REDUCE, or another cause (R11). -/
inductive Source where
  | amend
  | reduce
  | other
deriving DecidableEq, Repr

/-- The pending rise after a target that is not below the effective limit (R12). -/
def nextRise (l : Limits) (target now hold : Nat) : Option Rise :=
  if target = l.effective then none
  else
    match l.rise with
    | none => some ⟨target, now + hold⟩
    | some r =>
      if r.value < target then some ⟨target, now + hold⟩
      else if target = r.value then some r
      else some ⟨target, r.holdEnd⟩

/-- A target below the effective limit, applied at once (R11). `restr` is the restricting string and cause. -/
def Permit.applyFall (p : Permit) (l : Limits) (src : Source) (target : Nat) (restr : Fin 8 × Cause) : Permit :=
  let mark := src != .amend
  let toNotice := p.holder == .converter && src != .reduce
  let p1 := { p with
    limits := some ⟨l.requested, target, none⟩
    changed := p.changed || mark
    notice := p.notice || toNotice }
  if target = 0 ∧ p.state = .live then
    { p1 with
      state := .suspended
      reason := some (.envelope restr.1 restr.2)
      notice := p1.notice || p.holder == .converter }
  else p1

/-- A target not below the effective limit: the pending rise follows R12, and a permit SUSPENDED with reason ENVELOPE
chooses its restricting string and cause anew (R11). -/
def Permit.applyRise (p : Permit) (l : Limits) (src : Source) (target now hold : Nat) (restr : Fin 8 × Cause) : Permit :=
  let p1 := { p with limits := some ⟨l.requested, l.effective, nextRise l target now hold⟩ }
  match p.state, p.reason with
  | .suspended, some (.envelope i c) =>
    if restr = (i, c) then p1
    else
      let p2 := { p1 with reason := some (.envelope restr.1 restr.2) }
      { p2 with
        changed := p.changed || src != .amend
        notice := p.notice || (p.holder == .converter && p2.reported != p.reported) }
  | _, _ => p1

/-- A recomputed target applied to a permit in LIVE or SUSPENDED (R11, R12). -/
def Permit.retarget (p : Permit) (src : Source) (target now hold : Nat) (restr : Fin 8 × Cause) : Permit :=
  match p.limits with
  | none => p
  | some l =>
    if !p.liveOrSuspended then p
    else if target < l.effective then p.applyFall l src target restr
    else p.applyRise l src target now hold restr

/-- The target of a permit (R10). -/
def State.targetOf (s : State) (p : Permit) : Nat := min p.requested (s.envelopeSum p.kind p.scope)

/-- The target of one slot's permit recomputed and applied (R10). A change of the record that sets its changed mark
sets the PERMIT flag (R35). -/
def State.retargetSlot (s : State) (src : Source) (i : Fin 48) : State :=
  match s.slots[i].permit with
  | none => s
  | some p =>
    let p' := p.retarget src (s.targetOf p) s.now (Config.sec s.unit.active.riseHold) (s.restricting p.scope)
    let marks := src != .amend && (p'.effective != p.effective || p'.state != p.state || p'.reason != p.reason)
    (s.setPermit i p').raiseIf marks .permit

/-! ### Revocation and retirement -/

/-- The record of a revoked permit (R18). -/
def Permit.revoked (p : Permit) (reason : Reason) (byOrder : Bool) (now hold : Nat) : Permit :=
  { p with
    state := .revoked
    reason := some reason
    limits := p.limits.map fun l => ⟨l.requested, 0, none⟩
    leaseEnd := none
    holdEnd := some (now + hold)
    changed := p.changed || !byOrder
    notice := p.notice || p.holder == .converter }

/-- A CONNECT that leaves LIVE or SUSPENDED is handed to the Connection Sequencer: a trip for reason FIRE, a normal
opening otherwise, and auto-reclose armed cleared (R18, R154, R155, R156). -/
def State.connectGone (s : State) (p : Permit) (fire : Bool) : State :=
  if p.kind == .connect && p.liveOrSuspended then
    (if fire then s.tripBreaker else s.openBreaker).arm false
  else s

/-- One slot's permit is revoked if it stands (R18). What ISOLATE and ENTRY permits hand on is taken by the settling of
the event (log 6). -/
def State.revokeSlot (s : State) (reason : Reason) (byOrder : Bool) (i : Fin 48) : State :=
  match s.slots[i].permit with
  | none => s
  | some p =>
    if p.standing then
      (((s.setPermit i (p.revoked reason byOrder s.now (Config.sec s.unit.active.revokedHold))).raiseIf
        (!byOrder) .permit).connectGone p (reason == .fire))
    else s

/-- Every standing permit with a property is revoked, in slot order (R17, R19, R20, R21). -/
def State.revokeWhere (s : State) (f : Permit → Bool) (reason : Reason) : State :=
  allSlots.foldl (fun t i => match t.slots[i].permit with
    | some p => if f p then t.revokeSlot reason false i else t
    | none => t) s

/-- One slot's permit is retired: the slot becomes FREE and its generation advances (R29). -/
def State.retireSlot (s : State) (i : Fin 48) : State :=
  match s.slots[i].permit with
  | none => s
  | some p => (s.setSlot i ⟨s.slots[i].generation + 1, none⟩).connectGone p false

/-- The expiry check (R17). -/
def State.expiryCheck (s : State) : State :=
  s.revokeWhere (fun p => match p.expiry with
    | some e => e.atOrBefore s.unit.clock
    | none => false) .expired

/-! ### Grid availability (R23) -/

/-- A LIVE CONNECT is suspended by the fall of the grid. -/
def Permit.gridFall (p : Permit) : Permit :=
  if p.kind = .connect ∧ p.state = .live then
    { p with state := .suspended, reason := some .grid, changed := true }
  else p

/-- A CONNECT suspended with reason GRID is resumed. -/
def Permit.gridBack (p : Permit) : Permit := { p with state := .live, reason := none, changed := true }

/-- The fall of the grid reaches every slot. -/
def State.suspendConnect (s : State) : State :=
  allSlots.foldl (fun t i => match t.slots[i].permit with
    | some p =>
      if p.kind = .connect ∧ p.state = .live then (t.setPermit i p.gridFall).raise .permit else t
    | none => t) s

/-- The resumption of a CONNECT: armed is taken from its auto-reclose flag, and an OPEN breaker is closed when armed
(R23, R156). -/
def State.resumeConnect (s : State) : State :=
  allSlots.foldl (fun t i => match t.slots[i].permit with
    | some p =>
      if p.kind = .connect ∧ p.state = .suspended ∧ p.reason = some .grid then
        let u := ((t.setPermit i p.gridBack).raise .permit).arm p.autoReclose
        if p.autoReclose && u.breaker.state == .opened then u.closeBreaker else u
      else t
    | none => t) s

/-! ### Isolation (R24, R149) -/

/-- A PENDING or LIVE ISOLATE. -/
def Permit.isolates (p : Permit) : Bool := p.kind == .isolate && p.standing

/-- The handle of the standing ISOLATE whose scope holds a string (R138, R149). -/
def State.isolatingOf (s : State) (i : Fin 8) : Option Handle :=
  (s.findPermit fun p => p.isolates && inScope p.scope i).map s.handleOf

end Sys2Proof.Machine
end

