-- ==== Sys2Proof/Machine/ProfileFields.lean ====
section
/-! DEFINITION. The profile: its fields by code (11.1.7), their ranges (R190), the words of the stored copy and the
checksum (R192). -/

namespace Sys2Proof.Machine

/-- Converter link rate codes (11.1.7). -/
def Rate.code : Rate → Nat
  | .r19200 => 0
  | .r57600 => 1
  | .r115200 => 2

/-- Converter link rate codes (11.1.7). -/
def Rate.ofCode : Nat → Option Rate
  | 0 => some .r19200
  | 1 => some .r57600
  | 2 => some .r115200
  | _ => none

/-- A signed value in a word of the stored copy. -/
def intWord (x : Int) : Word := BitVec.ofInt 16 x

/-- The words of an expected module mask: addresses 1 to 16, then 17 to 24 (11.1.7). -/
def maskWords (m : BitVec 24) : List Word := [m.extractLsb' 0 16, (m.extractLsb' 16 8).setWidth 16]

/-- The words of the stored copy, in code order (11.1.7). -/
def Profile.words (p : Profile) : List Word :=
  [p.fitted.setWidth 16] ++
  p.expected.toList.flatMap maskWords ++
  p.cells.toList.map (BitVec.ofNat 16) ++
  p.ratedCharge.toList.map (BitVec.ofNat 16) ++
  p.ratedDischarge.toList.map (BitVec.ofNat 16) ++
  [BitVec.ofNat 16 p.cellUpper, BitVec.ofNat 16 p.chargeTaper, BitVec.ofNat 16 p.dischargeTaper,
   BitVec.ofNat 16 p.cellLower, BitVec.ofNat 16 p.reconnectDelay, BitVec.ofNat 16 p.riseHold,
   intWord p.t0, intWord p.t1, intWord p.t2, intWord p.t4, intWord p.t5, intWord p.t6, intWord p.t7,
   BitVec.ofNat 16 p.gasLimit, BitVec.ofNat 16 p.bleedWindow, BitVec.ofNat 16 p.pollBase,
   BitVec.ofNat 16 p.runOn, BitVec.ofNat 16 p.releaseCountdown, p.manualBays.setWidth 16,
   BitVec.ofNat 16 p.drainTime, BitVec.ofNat 16 p.revokedHold, BitVec.ofNat 16 p.linkRate.code,
   BitVec.ofNat 16 p.linkTimeout, BitVec.ofNat 16 p.startMode.code]

/-- The checksum: ones' complement of the modulo-65536 sum of the stored words (R192). -/
def checksum (ws : List Word) : Word := ~~~(ws.foldl (· + ·) 0)

/-- Word `i` of a stored copy. -/
def wordAt (ws : List Word) (i : Nat) : Word := ws.getD i 0

/-- Word `i` of a stored copy as a number. -/
def natAt (ws : List Word) (i : Nat) : Nat := (wordAt ws i).toNat

/-- Word `i` of a stored copy as a signed number. -/
def intAt (ws : List Word) (i : Nat) : Int := (wordAt ws i).toInt

/-- An expected module mask of a stored copy. -/
def maskAt (ws : List Word) (i : Nat) : BitVec 24 := (wordAt ws (i + 1)).extractLsb' 0 8 ++ wordAt ws i

/-- The profile a stored copy holds (11.1.7). -/
def Profile.ofWords (ws : List Word) : Profile where
  fitted := (wordAt ws 0).extractLsb' 0 8
  expected := tab8 fun i => maskAt ws (1 + 2 * i.val)
  cells := tab8 fun i => natAt ws (17 + i.val)
  ratedCharge := tab8 fun i => natAt ws (25 + i.val)
  ratedDischarge := tab8 fun i => natAt ws (33 + i.val)
  cellUpper := natAt ws 41
  chargeTaper := natAt ws 42
  dischargeTaper := natAt ws 43
  cellLower := natAt ws 44
  reconnectDelay := natAt ws 45
  riseHold := natAt ws 46
  t0 := intAt ws 47
  t1 := intAt ws 48
  t2 := intAt ws 49
  t4 := intAt ws 50
  t5 := intAt ws 51
  t6 := intAt ws 52
  t7 := intAt ws 53
  gasLimit := natAt ws 54
  bleedWindow := natAt ws 55
  pollBase := natAt ws 56
  runOn := natAt ws 57
  releaseCountdown := natAt ws 58
  manualBays := (wordAt ws 59).extractLsb' 0 4
  drainTime := natAt ws 60
  revokedHold := natAt ws 61
  linkRate := (Rate.ofCode (natAt ws 62)).getD .r19200
  linkTimeout := natAt ws 63
  startMode := (Mode.ofCode (natAt ws 64)).getD .commissioning

/-- Where a field stands in the stored copy: first word, and words of it (11.1.7). `i` is the string of a per-string
field. -/
def fieldPlace (code : Nat) (i : Fin 8) : Nat × Nat :=
  match code with
  | 1 => (0, 1)
  | 2 => (1 + 2 * i.val, 2)
  | 3 => (17 + i.val, 1)
  | 4 => (25 + i.val, 1)
  | 5 => (33 + i.val, 1)
  | c => (35 + c, 1)

/-- Whether a code names a per-string field (11.1.7). -/
def isPerString (code : Nat) : Bool := 2 ≤ code && code ≤ 5

/-- Whether a code names a temperature threshold (11.1.7). -/
def isThreshold (code : Nat) : Bool := 12 ≤ code && code ≤ 18

/-- The width a field's range needs in a result (11.1.6). A result gives the converter link timeout, code 28, as the field is
coded: in units of 0.1 s (11.1.7), in 7 bits; 11.1.6 gives a duration without a range in ms in whole seconds. DESIGN CHOICE
(log 42). -/
def fieldWidth (code : Nat) : Nat :=
  match code with
  | 1 => 8
  | 2 => 24
  | 3 => 5
  | 4 => 10
  | 5 => 10
  | 6 => 13
  | 7 => 13
  | 8 => 13
  | 9 => 13
  | 10 => 10
  | 11 => 6
  | 19 => 8
  | 20 => 7
  | 21 => 13
  | 22 => 10
  | 23 => 6
  | 24 => 4
  | 25 => 4
  | 26 => 12
  | 27 => 2
  | 28 => 7
  | 29 => 2
  | _ => 8

/-- The range of a field that is a plain number (R190, 11.1.7). -/
def fieldRange (code : Nat) : Nat × Nat :=
  match code with
  | 1 => (0, 255)
  | 2 => (0, 16777215)
  | 3 => (4, 16)
  | 4 => (0, 1000)
  | 5 => (0, 1000)
  | 6 => (2000, 5000)
  | 7 => (2000, 5000)
  | 8 => (2000, 5000)
  | 9 => (2000, 5000)
  | 10 => (5, 600)
  | 11 => (1, 60)
  | 19 => (1, 255)
  | 20 => (5, 100)
  | 21 => (250, 5000)
  | 22 => (60, 900)
  | 23 => (10, 60)
  | 24 => (0, 15)
  | 25 => (1, 10)
  | 26 => (10, 3600)
  | 27 => (0, 2)
  | 28 => (5, 100)
  | 29 => (1, 3)
  | _ => (1, 0)

/-- A 24-bit operand read as two's complement, for the signed fields (log 21). -/
def signed24 (v : Nat) : Int := (BitVec.ofNat 24 v).toInt

/-- Whether a value lies in its field's range (R190, R191). -/
def inRange (code v : Nat) : Bool :=
  if isThreshold code then decide (-40 ≤ signed24 v ∧ signed24 v ≤ 125)
  else decide ((fieldRange code).1 ≤ v ∧ v ≤ (fieldRange code).2)

/-- The field of a write: its code names a writable field, and its string index one of eight strings for a per-string
field (R191). -/
def writableField (code index : Nat) : Option (Fin 8) :=
  if 1 ≤ code ∧ code ≤ 29 then
    if isPerString code then (if h : index < 8 then some ⟨index, h⟩ else none) else some 0
  else none

/-- A value placed in a profile field (R191). -/
def Profile.write (p : Profile) (code : Nat) (i : Fin 8) (v : Nat) : Profile :=
  match code with
  | 1 => { p with fitted := BitVec.ofNat 8 v }
  | 2 => { p with expected := put p.expected i (BitVec.ofNat 24 v) }
  | 3 => { p with cells := put p.cells i v }
  | 4 => { p with ratedCharge := put p.ratedCharge i v }
  | 5 => { p with ratedDischarge := put p.ratedDischarge i v }
  | 6 => { p with cellUpper := v }
  | 7 => { p with chargeTaper := v }
  | 8 => { p with dischargeTaper := v }
  | 9 => { p with cellLower := v }
  | 10 => { p with reconnectDelay := v }
  | 11 => { p with riseHold := v }
  | 12 => { p with t0 := signed24 v }
  | 13 => { p with t1 := signed24 v }
  | 14 => { p with t2 := signed24 v }
  | 15 => { p with t4 := signed24 v }
  | 16 => { p with t5 := signed24 v }
  | 17 => { p with t6 := signed24 v }
  | 18 => { p with t7 := signed24 v }
  | 19 => { p with gasLimit := v }
  | 20 => { p with bleedWindow := v }
  | 21 => { p with pollBase := v }
  | 22 => { p with runOn := v }
  | 23 => { p with releaseCountdown := v }
  | 24 => { p with manualBays := BitVec.ofNat 4 v }
  | 25 => { p with drainTime := v }
  | 26 => { p with revokedHold := v }
  | 27 => { p with linkRate := (Rate.ofCode v).getD p.linkRate }
  | 28 => { p with linkTimeout := v }
  | 29 => { p with startMode := (Mode.ofCode v).getD p.startMode }
  | _ => p

/-- The number that words of the stored copy hold for a field. -/
def fieldNat (ws : List Word) (code : Nat) (i : Fin 8) : Nat :=
  let (at0, count) := fieldPlace code i
  if count = 2 then natAt ws at0 + 65536 * natAt ws (at0 + 1) else natAt ws at0

/-- Whether the profile marks a string fitted (R190). -/
def Profile.isFitted (p : Profile) (i : Fin 8) : Bool := p.fitted.getLsbD i.val

/-- Whether the profile expects a module address on a string (R190). -/
def Profile.expects (p : Profile) (i : Fin 8) (address : Nat) : Bool :=
  1 ≤ address && p.expected[i].getLsbD (address - 1)

/-- Whether the profile marks a bay manual (R110). -/
def Profile.isManual (p : Profile) (k : Fin 4) : Bool := p.manualBays.getLsbD k.val

/-- The profile is valid (R190). -/
def ProfileUnit.valid (u : ProfileUnit) : Bool := u.storedGood && u.committed

end Sys2Proof.Machine
end

