-- ==== Sys2Proof/Machine/EnvelopeOps.lean ====
section
/-! DEFINITION. The Envelope Unit (chapter 2): which modules count, aggregation, temperature bands, envelopes,
restriction causes, the bleed target, and the hand-off of changes to the Permit Manager. -/

namespace Sys2Proof.Machine

/-- Module addresses in order. -/
def allAddresses : List Nat := [1, 2, 3, 4, 5, 6, 7, 8, 9, 10, 11, 12, 13, 14, 15, 16, 17, 18, 19, 20, 21, 22, 23, 24]

/-- Whether a bus is in POLLING. -/
def Bus.isPolling (b : Bus) : Bool := b.state == .polling

/-- The roster entry of an address. -/
def Bus.entry (b : Bus) (address : Nat) : Option Entry := b.roster.find? (·.address == address)

/-- Whether the roster holds an entry in state ONLINE for an address. -/
def Bus.onlineAt (b : Bus) (address : Nat) : Bool :=
  match b.entry address with
  | some e => e.state == .online
  | none => false

/-- The entries counted ONLINE (R39). -/
def Bus.counted (b : Bus) : List Entry := if b.isPolling then b.roster.filter (·.state == .online) else []

/-- Every expected address of a string has an ONLINE entry. -/
def State.allExpectedOnline (s : State) (i : Fin 8) : Bool :=
  allAddresses.all fun a => !s.unit.active.expects i a || s.buses[i].onlineAt a

/-- The MODULES condition of a string (R49). -/
def State.modulesHold (s : State) (i : Fin 8) : Bool :=
  !s.buses[i].isPolling || !s.allExpectedOnline i || s.buses[i].roster.any (·.state == .extra) ||
    s.strings[i].onlineCount == 0

/-- Whether a string is complete: its bus in POLLING, at least one address expected, every expected address ONLINE
(R103, R124). After a commit that changed its expected module mask it is not, even while the frame in progress keeps its bus
in POLLING (R92, R120, R136, log 38). -/
def State.stringComplete (s : State) (i : Fin 8) : Bool :=
  s.buses[i].isPolling && !s.buses[i].maskChanged && s.unit.active.expected[i] != 0 && s.allExpectedOnline i

/-! ### Aggregation and band -/

/-- The entry with the lowest value of `f`, the lowest address among equals (R40); the list is in address order. -/
def lowestBy (f : Summary → Nat) : List (Nat × Summary) → Option (Nat × Summary)
  | [] => none
  | x :: xs =>
    match lowestBy f xs with
    | none => some x
    | some y => if f y.2 < f x.2 then some y else some x

/-- The entry with the highest value of `f`, the lowest address among equals (R40). -/
def highestBy (f : Summary → Nat) : List (Nat × Summary) → Option (Nat × Summary)
  | [] => none
  | x :: xs =>
    match highestBy f xs with
    | none => some x
    | some y => if f x.2 < f y.2 then some y else some x

/-- The string voltage of a sum of module voltages in 10 mV: divided by 10 and rounded down, in 0.1 V (R40). A value
above the field's range is free (log 12). -/
def stringVoltage (sum : Nat) : Nat :=
  if sum / 10 ≤ 65535 then sum / 10 else (Config.overflowVoltage (sum / 10)).toNat

/-- The aggregate fields set from the entries counted ONLINE (R40); the band is computed afterwards. -/
def StringRec.aggregate (r : StringRec) (counted : List Entry) : StringRec :=
  let xs := counted.filterMap fun e => e.summary.map fun v => (e.address, v)
  let r1 := { r with
    onlineCount := counted.length
    voltage := stringVoltage (xs.map fun x => x.2.voltage).sum }
  match lowestBy (·.minCell) xs, highestBy (·.maxCell) xs with
  | some lo, some hi =>
    { r1 with
      minCell := lo.2.minCell
      minPlace := some ⟨lo.1, lo.2.minPosition⟩
      maxCell := hi.2.maxCell
      maxPlace := some ⟨hi.1, hi.2.maxPosition⟩
      minTemp := xs.foldl (fun t x => min t x.2.minTemp) lo.2.minTemp
      maxTemp := xs.foldl (fun t x => max t x.2.maxTemp) hi.2.maxTemp }
  | _, _ => r1

/-- The band of two temperatures under the profile's thresholds (R42). -/
def bandOf (p : Profile) (minTemp maxTemp : Int) : Fin 8 :=
  if p.t7 ≤ maxTemp then 7
  else if p.t6 ≤ maxTemp then 6
  else if p.t5 ≤ maxTemp then 5
  else if p.t4 ≤ maxTemp then 4
  else if minTemp < p.t0 then 0
  else if minTemp < p.t1 then 1
  else if minTemp < p.t2 then 2
  else 3

/-- A computed band written; a change sets the band-changed mark (R43). -/
def StringRec.setBand (r : StringRec) (band : Fin 8) : StringRec :=
  if r.band = band then r else { r with band := band, bandChanged := true }

/-- A string record replaced; a change of its band sets the BAND flag (R43). -/
def State.updateBand (s : State) (i : Fin 8) (r : StringRec) : State :=
  (s.setString i r).raiseIf (r.band != s.strings[i].band) .band

/-- The aggregation that ends a completed round (R40, R42, R43). -/
def State.aggregate (s : State) (i : Fin 8) : State :=
  let counted := s.buses[i].counted
  let r := s.strings[i].aggregate counted
  if counted.isEmpty then s.updateBand i r
  else s.updateBand i (r.setBand (bandOf s.unit.active r.minTemp r.maxTemp))

/-- A bus leaving POLLING sets the online module count and the string voltage to 0 (R41). -/
def State.stringLeavesPolling (s : State) (i : Fin 8) : State :=
  s.setString i { s.strings[i] with onlineCount := 0, voltage := 0 }

/-! ### Evaluation -/

/-- Charge multiplier of a band, in quarters (R45). -/
def chargeQuarters (band : Fin 8) : Nat :=
  match band with
  | 0 => 0
  | 1 => 1
  | 2 => 2
  | 3 => 4
  | 4 => 4
  | 5 => 2
  | 6 => 1
  | 7 => 0

/-- Discharge multiplier of a band, in quarters (R45). -/
def dischargeQuarters (band : Fin 8) : Nat :=
  match band with
  | 0 => 1
  | 1 => 2
  | 2 => 4
  | 3 => 4
  | 4 => 4
  | 5 => 2
  | 6 => 1
  | 7 => 0

/-- Charge taper factor, in quarters (R46). -/
def chargeTaperQuarters (p : Profile) (r : StringRec) : Nat :=
  if p.cellUpper ≤ r.maxCell then 0 else if p.chargeTaper ≤ r.maxCell then 1 else 4

/-- Discharge taper factor, in quarters (R46). -/
def dischargeTaperQuarters (p : Profile) (r : StringRec) : Nat :=
  if r.minCell ≤ p.cellLower then 0 else if r.minCell ≤ p.dischargeTaper then 1 else 4

/-- The product of R45, rounded down after all factors: quarters of the band, halves of the cooling factor, quarters of
the taper. -/
def envelopeProduct (rated bandQuarters coolHalves taperQuarters : Nat) : Nat :=
  rated * bandQuarters * coolHalves * taperQuarters / 32

/-- ALARM, COUNTDOWN and RELEASED together (00_scope.md 4). -/
def FireState.inAlarm : FireState → Bool
  | .quiet => false
  | .preAlarm => false
  | .alarm => true
  | .countdown _ => true
  | .released _ => true

/-- The conditions an evaluation reads (R47 to R50). -/
structure Conditions where
  fitted : Bool
  fire : Bool
  prealarm : Bool
  door : Bool
  outOfService : Bool
  modules : Bool
  flowFault : Bool
  ratedCharge : Nat
  ratedDischarge : Nat
  quiet : Bool
deriving DecidableEq, Repr

/-- The conditions of a string as they stand (R52). DOOR holds while the door contact reads open, as taken, and no ENTRY
is LIVE (R48); OUT_OF_SERVICE while the contactor is not CLOSED (R49). -/
def State.conditions (s : State) (i : Fin 8) : Conditions where
  fitted := s.strings[i].fitted
  fire := s.fire[bayOf i].state.inAlarm
  prealarm := s.fire[bayOf i].state == .preAlarm
  door := s.door.taken && !s.entryLive
  outOfService := s.contactors[i].state != .closed
  modules := s.modulesHold i
  flowFault := s.cooling[bayOf i].flowFault
  ratedCharge := s.unit.active.ratedCharge[i]
  ratedDischarge := s.unit.active.ratedDischarge[i]
  quiet := s.fire[bayOf i].state == .quiet

/-- The cooling factor in halves (R45). -/
def coolHalves (flowFault : Bool) : Nat := if flowFault then 1 else 2

/-- The charge envelope (R45, R47 to R49). -/
def chargeEnvelopeOf (p : Profile) (r : StringRec) (c : Conditions) : Nat :=
  if !c.fitted || c.fire || c.prealarm || c.door || c.outOfService || c.modules then 0
  else envelopeProduct c.ratedCharge (chargeQuarters r.band) (coolHalves c.flowFault) (chargeTaperQuarters p r)

/-- The discharge envelope (R45, R47 to R49). -/
def dischargeEnvelopeOf (p : Profile) (r : StringRec) (c : Conditions) : Nat :=
  if !c.fitted || c.fire || c.door || c.outOfService || c.modules then 0
  else envelopeProduct c.ratedDischarge (dischargeQuarters r.band) (coolHalves c.flowFault)
    (dischargeTaperQuarters p r)

/-- Whether a cause is in effect for either direction: `charge` and `discharge` say that its factor for that direction
is below 1 (R51). -/
def inEffect (c : Conditions) (charge discharge : Bool) : Bool :=
  (charge && decide (0 < c.ratedCharge)) || (discharge && decide (0 < c.ratedDischarge))

/-- The restriction cause (R51). -/
def causeOf (p : Profile) (r : StringRec) (c : Conditions) : Cause :=
  if c.fire && inEffect c true true then .fire
  else if c.prealarm && inEffect c true false then .prealarm
  else if c.door && inEffect c true true then .door
  else if c.outOfService && inEffect c true true then .outOfService
  else if c.modules && inEffect c true true then .modules
  else if inEffect c (decide (chargeQuarters r.band < 4)) (decide (dischargeQuarters r.band < 4)) then .thermal
  else if c.flowFault && inEffect c true true then .cooling
  else if inEffect c (decide (chargeTaperQuarters p r < 4)) (decide (dischargeTaperQuarters p r < 4)) then .taper
  else .none

/-- Whether bleeding is enabled (R56). -/
def bleedingOf (r : StringRec) (c : Conditions) : Bool :=
  (2 ≤ r.band.val && r.band.val ≤ 5) && c.quiet && !c.modules

/-- The bleed target while bleeding is enabled (R56); a value above 65535 mV is free (log 13). -/
def bleedTargetOf (p : Profile) (r : StringRec) : Nat :=
  if r.minCell + p.bleedWindow ≤ 65535 then r.minCell + p.bleedWindow
  else (Config.overflowBleed (r.minCell + p.bleedWindow)).toNat

/-- A record evaluated (R52). -/
def StringRec.evaluate (r : StringRec) (p : Profile) (c : Conditions) : StringRec :=
  { r with
    chargeEnvelope := chargeEnvelopeOf p r c
    dischargeEnvelope := dischargeEnvelopeOf p r c
    cause := causeOf p r c
    bleeding := bleedingOf r c
    bleedTarget := if bleedingOf r c then bleedTargetOf p r else 0 }

/-- Whether an evaluation changed what the Permit Manager is handed (R54). -/
def handsOver (old new : StringRec) : Bool :=
  old.chargeEnvelope != new.chargeEnvelope || old.dischargeEnvelope != new.dischargeEnvelope || old.cause != new.cause

/-- All eight records evaluated as one event, before any hand-off (R52, R53). -/
def State.evaluateAll (s : State) : State :=
  { s with strings := tab8 fun i => s.strings[i].evaluate s.unit.active (s.conditions i) }

/-- Whether a scope holds a string that an event named (R54). -/
def namesAny (old new : Vector StringRec 8) (scope : BitVec 8) : Bool :=
  allStrings.any fun i => inScope scope i && handsOver old[i] new[i]

/-- The hand-off to the Permit Manager: every CHARGE and DISCHARGE permit whose scope holds a named string is retargeted
once (R53, R54). -/
def State.handOff (s : State) (old : Vector StringRec 8) : State :=
  allSlots.foldl (fun t i => match t.slots[i].permit with
    | some p => if namesAny old t.strings p.scope then t.retargetSlot .other i else t
    | none => t) s

/-- Evaluation of the String Table and its hand-off (R52 to R54). Before the start-up profile load, the first event after
a reset (R195), the records keep their reset values (R38, log 27). -/
def State.evaluateStage (s : State) : State := if s.loaded then s.evaluateAll.handOff s.strings else s

end Sys2Proof.Machine
end

