-- ==== Sys2Proof/Machine/FireOps.lean ====
section
/-! DEFINITION. The Fire Controller (chapter 5): sources, counts, the state decision, manual causes, release and
containment. -/

namespace Sys2Proof.Machine

/-- Whether the module sources of a bay are available (R103). -/
def State.sourcesAvailable (s : State) (k : Fin 4) : Bool :=
  let e := evenOf k
  let o := oddOf k
  let fe := s.unit.active.isFitted e
  let fo := s.unit.active.isFitted o
  (fe || fo) && (!fe || s.stringComplete e) && (!fo || s.stringComplete o)

/-- The gas list without the items of strings that are not complete (R104). -/
def State.keptGas (s : State) (k : Fin 4) : List GasItem :=
  s.fire[k].gasList.filter fun it => s.unit.active.isFitted it.string && s.stringComplete it.string

/-- The GAS condition (R104). -/
def gasCondition (available : Bool) (items : List GasItem) (limit : Nat) : SourceCondition :=
  if !available then .unavailable
  else if items.any (fun it => decide (limit ≤ it.level)) then .active
  else .clear

/-- The HEAT condition (R105). -/
def heatCondition (available even odd : Bool) : SourceCondition :=
  if !available then .unavailable else if even || odd then .active else .clear

/-- Whether a smoke condition counts as available (R106). -/
def SmokeCondition.counts : SmokeCondition → Nat
  | .normal => 1
  | .active => 1
  | .fault => 0

/-- Whether a smoke condition counts as active (R106). -/
def SmokeCondition.activeCounts : SmokeCondition → Nat
  | .normal => 0
  | .active => 1
  | .fault => 0

/-- Whether a module source counts as available (R106). -/
def SourceCondition.counts : SourceCondition → Nat
  | .clear => 1
  | .active => 1
  | .unavailable => 0

/-- Whether a module source counts as active (R106). -/
def SourceCondition.activeCounts : SourceCondition → Nat
  | .clear => 0
  | .active => 1
  | .unavailable => 0

/-- Whether the set of manual causes holds any. -/
def Manual.any (m : Manual) : Bool := m.entry || m.hold || m.profile

/-- The manual causes of a bay as they stand (R110). The PROFILE cause begins at the start-up profile load. -/
def State.manualOf (s : State) (k : Fin 4) : Manual :=
  ⟨s.entryCovers k, s.fire[k].hold.taken, s.loaded && s.unit.active.isManual k⟩

/-- The alarm class entered, or held with the present manual causes: ALARM with a cause, COUNTDOWN without (R109, R111).
-/
def alarmClass (manual : Manual) (endsAt : Nat) : FireState := if manual.any then .alarm else .countdown endsAt

/-- The state after an evaluation (R108) and after a change of manual causes (R111). `fresh` is the end of a countdown
that starts now. -/
def FireState.decide (st : FireState) (active : Nat) (degraded : Bool) (manual : Manual) (fresh : Nat) : FireState :=
  match st with
  | .quiet | .preAlarm =>
    if active = 0 then .quiet
    else if active = 1 ∧ degraded = false then .preAlarm
    else alarmClass manual fresh
  | .alarm => if manual.any then .alarm else .countdown fresh
  | .countdown e => if manual.any then .alarm else .countdown e
  | .released e => .released e

/-- One bay record evaluated (R107). -/
def State.evaluateBay (s : State) (k : Fin 4) : FireRec :=
  let r := s.fire[k]
  let available := s.sourcesAvailable k
  let items := s.keptGas k
  let even := s.unit.active.isFitted (evenOf k) && s.strings[evenOf k].band == 7
  let odd := s.unit.active.isFitted (oddOf k) && s.strings[oddOf k].band == 7
  let gas := gasCondition available items s.unit.active.gasLimit
  let heat := heatCondition available even odd
  let act := r.smokeA.condition.activeCounts + r.smokeB.condition.activeCounts + gas.activeCounts + heat.activeCounts
  let avail := r.smokeA.condition.counts + r.smokeB.condition.counts + gas.counts + heat.counts
  let manual := s.manualOf k
  { r with
    state := r.state.decide act (avail < 2) manual (s.now + Config.sec s.unit.active.releaseCountdown)
    gas := gas
    heat := heat
    activeCount := act
    availableCount := avail
    degraded := avail < 2
    manual := manual
    gasList := items
    band7Even := even
    band7Odd := odd }

/-- The number of a bay fire state in the order of R100. -/
def FireState.code : FireState → Nat
  | .quiet => 0
  | .preAlarm => 1
  | .alarm => 2
  | .countdown _ => 3
  | .released _ => 4

/-- COUNTDOWN or RELEASED (R117). -/
def FireState.closesContainer : FireState → Bool
  | .countdown _ => true
  | .released _ => true
  | _ => false

/-- The containment request of a bay (R117). -/
def containmentOf (fire : Vector FireRec 4) (k : Fin 4) : Containment :=
  if allBays.any (fun j => fire[j].state.closesContainer) then .container
  else if fire[k].state = .alarm then .bay
  else .none

/-- The containment request of every bay recomputed (R117). -/
def contain (fire : Vector FireRec 4) : Vector FireRec 4 :=
  tab4 fun k => { fire[k] with containment := containmentOf fire k }

/-- Whether some bay's state differs between two tables. -/
def fireChanged (old new : Vector FireRec 4) : Bool :=
  allBays.any fun k => old[k].state.code != new[k].state.code

/-- The Bay Fire Table replaced: containment is recomputed, and a change of a bay's state sets the FIRE flag (R117,
R118). -/
def State.setFireTable (s : State) (fire : Vector FireRec 4) : State :=
  ({ s with fire := contain fire }).raiseIf (fireChanged s.fire fire) .fire

/-- All four bay records evaluated before the containment request is recomputed and before any hand-off (R107). -/
def State.fireStage (s : State) : State := s.setFireTable (tab4 s.evaluateBay)

/-- The bays that entered an alarm state between two tables (R19, R116). -/
def alarmEntries (old new : Vector FireRec 4) : List (Fin 4) :=
  allBays.filter fun k => !old[k].state.inAlarm && new[k].state.inAlarm

/-- A bay goes to RELEASED: the pulse starts and the release output becomes active (R112, R114). -/
def FireRec.release (r : FireRec) (now : Nat) : FireRec :=
  { r with state := .released (some (now + Config.releasePulse)), releaseOutput := true }

/-- A gas level written into the list, in string and address order (R104). -/
def insertGas (it : GasItem) : List GasItem → List GasItem
  | [] => [it]
  | x :: xs =>
    if x.string = it.string ∧ x.address = it.address then it :: xs
    else if it.string < x.string ∨ (it.string = x.string ∧ it.address < x.address) then it :: x :: xs
    else x :: insertGas it xs

/-- A gas level handed by the roster for an ONLINE entry: kept only while the string is complete (R86, R104). -/
def State.takeGas (s : State) (i : Fin 8) (address level : Nat) : State :=
  if s.unit.active.isFitted i && s.stringComplete i then
    let r := s.fire[bayOf i]
    s.setFire (bayOf i) { r with gasList := insertGas ⟨i, address, level⟩ r.gasList }
  else s

/-- The item with the highest level, the first in list order among equals (R121). -/
def highestGas : List GasItem → Option GasItem
  | [] => none
  | x :: xs =>
    match highestGas xs with
    | none => some x
    | some y => if x.level < y.level then some y else some x

end Sys2Proof.Machine
end

