-- ==== Sys2Proof/Machine/CoolingOps.lean ====
section
/-! DEFINITION. The Cooling Controller (chapter 6): inputs, demand, running stage and run-on, outputs, flow timer. -/

namespace Sys2Proof.Machine

/-- The inputs taken from a string: an unfitted string reads band 3 and not complete (R124, R136). -/
def State.coolInput (s : State) (i : Fin 8) : StringInput :=
  if s.unit.active.isFitted i then ⟨true, s.strings[i].band, s.stringComplete i⟩ else ⟨false, 3, false⟩

/-- The highest band of the fitted strings of a bay, none when no string is fitted (R125). -/
def highestBand (e o : StringInput) : Option (Fin 8) :=
  match e.fitted, o.fitted with
  | false, false => none
  | true, false => some e.band
  | false, true => some o.band
  | true, true => some (max e.band o.band)

/-- Demand stage and heater demand of the highest band (R125). -/
def bandDemand (band : Fin 8) : Nat × Bool :=
  match band with
  | 0 => (0, true)
  | 1 => (0, true)
  | 2 => (0, false)
  | 3 => (0, false)
  | 4 => (1, false)
  | 5 => (2, false)
  | 6 => (3, false)
  | 7 => (3, false)

/-- Demand stage and heater demand of a bay (R125). -/
def demandOf (e o : StringInput) : Nat × Bool :=
  match highestBand e o with
  | none => (0, false)
  | some b =>
    let incomplete := (e.fitted && !e.complete) || (o.fitted && !o.complete)
    let d := bandDemand b
    (if incomplete && d.1 == 0 then 1 else d.1, d.2)

/-- The outputs of a bay (R130, R131). -/
def outputsOf (running : Nat) (heaterDemand : Bool) (containment : Containment) : CoolOutputs :=
  match containment with
  | .none =>
    { fanLow := running == 1
      fanHigh := decide (2 ≤ running)
      pump := decide (1 ≤ running) || heaterDemand
      chiller := running == 3
      heater := heaterDemand
      damper := decide (1 ≤ running) }
  | .bay | .container =>
    { fanLow := false
      fanHigh := false
      pump := decide (1 ≤ running)
      chiller := running == 3
      heater := false
      damper := false }

/-- The goal that pump, fault and flow switch together give, if any (R132). -/
def flowGoal (pump fault flow : Bool) : Option FlowGoal :=
  match pump, fault, flow with
  | true, false, false => some .fault
  | true, true, true => some .clear
  | _, _, _ => none

/-- The time a flow timer starts with (R132). -/
def FlowGoal.time : FlowGoal → Nat
  | .fault => Config.flowFaultTime
  | .clear => Config.flowClearTime

/-- The flow timer after an event: it goes on while the combination holds, starts when an event brings one, and is
discarded when an event takes the bay out of it (R132). -/
def nextFlowTimer (old : Option FlowTimer) (goal : Option FlowGoal) (now : Nat) : Option FlowTimer :=
  match goal with
  | none => none
  | some g =>
    match old with
    | some t => if t.goal = g then some t else some ⟨g, now + g.time⟩
    | none => some ⟨g, now + g.time⟩

/-- The outputs set again from running stage, heater demand and containment, and the flow timer with them (R130 to
R132). -/
def CoolRec.drive (r : CoolRec) (now : Nat) : CoolRec :=
  let out := outputsOf r.running r.heaterDemand r.containment
  { r with outputs := out, flowTimer := nextFlowTimer r.flowTimer (flowGoal out.pump r.flowFault r.flow) now }

/-- Running stage and run-on after a computation of the demand (R127). -/
def CoolRec.follow (r : CoolRec) (demand now runOn : Nat) : CoolRec :=
  if r.running < demand then { r with demand := demand, running := demand, runOnEnd := none }
  else if r.running = demand then { r with demand := demand, runOnEnd := none }
  else { r with demand := demand, runOnEnd := some (r.runOnEnd.getD (now + Config.sec runOn)) }

/-- One bay's cooling record brought up to date with its inputs and its containment (R124 to R132). -/
def State.coolBay (s : State) (k : Fin 4) : CoolRec :=
  let r := s.cooling[k]
  let e := s.coolInput (evenOf k)
  let o := s.coolInput (oddOf k)
  let d := demandOf e o
  let r1 := { r with even := e, odd := o, heaterDemand := d.2, containment := s.fire[k].containment }
  (r1.follow d.1 s.now s.unit.active.runOn).drive s.now

/-- The Cooling Controller takes its inputs of an event (R126, R131). -/
def State.coolStage (s : State) : State := { s with cooling := tab4 s.coolBay }

end Sys2Proof.Machine
end

