-- ==== Sys2Proof/Machine/ConnectionOps.lean ====
section
/-! DEFINITION. String contactors, the Precharge Arbiter and isolation (chapter 7). -/

namespace Sys2Proof.Machine

/-- Main contactor output of a state (R140). -/
def ContactorState.main : ContactorState → Bool
  | .closed => true
  | .draining _ => true
  | _ => false

/-- Precharge contactor output of a state (R140). -/
def ContactorState.precharge : ContactorState → Bool
  | .precharging _ => true
  | _ => false

/-- Whether a state is PRECHARGING. -/
def ContactorState.isPrecharging (s : ContactorState) : Bool := s.precharge

/-- Whether a state is FAILED. -/
def ContactorState.isFailed : ContactorState → Bool
  | .failed _ => true
  | _ => false

/-- Whether no condition is unmet: service-ready (R139). -/
def Unmet.isEmpty (u : Unmet) : Bool :=
  !(u.fitted || u.isolate || u.fire || u.modules || u.band || u.link || u.mode)

/-- The feedback timer: present while a fitted string that is not FAILED shows a feedback that differs from the command,
started at the event that brings them to differ (R147). -/
def Contactor.supervise (c : Contactor) (now : Nat) : Contactor :=
  if c.fitted && !c.state.isFailed && c.feedback != c.mainClosed then
    { c with feedbackTimer := some (c.feedbackTimer.getD (now + Config.contactorFeedback)) }
  else { c with feedbackTimer := none }

/-- A state entered: both outputs follow it (R140), and supervision with them (R147). -/
def Contactor.enter (c : Contactor) (st : ContactorState) (now : Nat) : Contactor :=
  Contactor.supervise { c with state := st, mainClosed := st.main, prechargeClosed := st.precharge } now

/-- The unmet conditions of a string as they stand (R139). -/
def State.unmetOf (s : State) (i : Fin 8) : Unmet where
  fitted := !s.contactors[i].fitted
  isolate := (s.isolatingOf i).isSome
  fire := s.fire[bayOf i].state.inAlarm
  modules := s.modulesHold i
  band := s.strings[i].band == 0 || s.strings[i].band == 7
  link := s.link.state == .down
  mode := s.unit.mode == .commissioning

/-- What a gain or a loss of service-readiness does to a contactor (R140, R144, R145). -/
def Contactor.follow (c : Contactor) (now drainTime : Nat) : Contactor :=
  match c.state, c.unmet.isEmpty with
  | .queued, false => c.enter .opened now
  | .precharging _, false => c.enter .opened now
  | .closed, false => c.enter (.draining (now + Config.sec drainTime)) now
  | .draining _, true => c.enter .closed now
  | .opened, true => if c.retryEnd.isNone then c.enter .queued now else c
  | _, _ => c

/-- One string's record brought up to date with its conditions (R139, R149). -/
def State.connectString (s : State) (i : Fin 8) : Contactor :=
  let c := s.contactors[i]
  ({ c with
    unmet := s.unmetOf i
    isolating := if c.fitted then s.isolatingOf i else none }).follow s.now s.unit.active.drainTime

/-- The path is free once its string is no longer PRECHARGING (R141). -/
def servingAfter (serving : Option (Fin 8)) (contactors : Vector Contactor 8) : Option (Fin 8) :=
  serving.filter fun i => contactors[i].state.isPrecharging

/-- The path freed where its string has left PRECHARGING (R141). -/
def State.freePath (s : State) : State := { s with serving := servingAfter s.serving s.contactors }

/-- Whether the DC-link voltage matches a string (R142). -/
def State.matches (s : State) (i : Fin 8) : Bool :=
  match s.link.dc with
  | none => false
  | some d =>
    decide (s.now - d.arrival ≤ Config.dcLinkAge) && decide (0 < s.strings[i].voltage) &&
      decide (100 * ((d.voltage - s.strings[i].voltage) + (s.strings[i].voltage - d.voltage)) ≤
        3 * s.strings[i].voltage)

/-- The match is checked for the string being served; when it holds the string is CLOSED and the path free (R142). -/
def State.checkMatch (s : State) : State :=
  match s.serving with
  | none => s
  | some i =>
    if s.contactors[i].state.isPrecharging && s.matches i then
      ({ s.setContactor i { s.contactors[i].enter .closed s.now with failures := 0 } with serving := none })
    else s

/-- The lowest-numbered QUEUED string (R141). -/
def State.nextQueued (s : State) : Option (Fin 8) := allStrings.find? fun i => s.contactors[i].state == .queued

/-- The path is given to a string, which is then checked at once (R141, R142). -/
def State.startPrecharge (s : State) (i : Fin 8) : State :=
  ({ s.setContactor i (s.contactors[i].enter (.precharging (s.now + Config.prechargeTime)) s.now) with
    serving := some i }).checkMatch

/-- The arbiter gives the free path on until it is busy or no string is queued; each turn takes one string out of the
queue, so eight turns are enough (R141). -/
def State.arbitrate : Nat → State → State
  | 0, s => s
  | n + 1, s =>
    match s.serving, s.nextQueued with
    | none, some i => State.arbitrate n (s.startPrecharge i)
    | _, _ => s

/-- The Connection Sequencer takes what an event changed: unmet conditions of all strings first, then the precharge path
(R139 to R141). -/
def State.connectStage (s : State) : State :=
  State.arbitrate 8 (({ s with contactors := tab8 s.connectString }).freePath)

/-- Whether every string of a scope is OPEN; an unfitted string counts as OPEN (R149). -/
def State.scopeOpen (s : State) (scope : BitVec 8) : Bool :=
  allStrings.all fun i => !inScope scope i || !s.contactors[i].fitted || s.contactors[i].state == .opened

/-- PENDING ISOLATE permits whose scope is open become LIVE. The changed mark is set, except where the completion is
part of the permit's own grant (R24). -/
def State.isolateStage (s : State) (granted : Option (Fin 48)) : State :=
  allSlots.foldl (fun t i => match t.slots[i].permit with
    | some p =>
      if p.kind = .isolate ∧ p.state = .pending ∧ s.scopeOpen p.scope then
        if granted = some i then t.setPermit i { p with state := .live }
        else (t.setPermit i { p with state := .live, changed := true }).raise .permit
      else t
    | none => t) s

/-- The contactor of a string opened at once by its bay's alarm entry (R146). -/
def Contactor.openNow (c : Contactor) (now : Nat) : Contactor :=
  match c.state with
  | .queued => c.enter .opened now
  | .precharging _ => c.enter .opened now
  | .closed => c.enter .opened now
  | .draining _ => c.enter .opened now
  | .opened => c
  | .failed _ => c

/-- Both contactors of a bay opened at once (R146). -/
def State.openBay (s : State) (k : Fin 4) : State :=
  { s with contactors := tab8 fun i => if bayOf i = k then s.contactors[i].openNow s.now else s.contactors[i] }

/-- One bay's entry to an alarm state, handed to the Permit Manager and the Connection Sequencer: revocations with
reason FIRE, a trip, and the bay's contactors opened at once (R19, R146, R155). -/
def State.alarmEntry (s : State) (k : Fin 4) : State :=
  (((s.revokeWhere (fun p => p.kind == .connect ||
      ((p.kind == .charge || p.kind == .discharge) && meetsBay p.scope k)) .fire).tripBreaker).openBay k).freePath

/-- The alarm entries of an event, in bay order. -/
def State.alarmStage (s : State) (entries : List (Fin 4)) : State := entries.foldl State.alarmEntry s

end Sys2Proof.Machine
end

