-- ==== Sys2Proof/Machine/LinkOps.lean ====
section
/-! DEFINITION. The Converter Link's transmitter and its notices (R166 to R169). -/

namespace Sys2Proof.Machine

/-- The LIMIT notice of a permit as it stands (R169). -/
def limitFrame (h : Handle) (p : Permit) (count : Byte) : OutFrame where
  kind := .limit
  handle := h
  limit := p.effective
  stateCode := BitVec.ofNat 8 p.state.code
  report := BitVec.ofNat 8 p.reported.code
  tag := count

/-- The lowest-numbered slot whose notice mark is set (R169). -/
def State.nextNotice (s : State) : Option (Fin 48) := s.findPermit fun p => p.notice

/-- A LIMIT notice is built and begun: the mark is cleared and the notice count advances (R169). -/
def State.sendNotice (s : State) (i : Fin 48) (p : Permit) (rate : Rate) : State :=
  let count := s.link.noticeCount + 1
  { s.setPermit i { p with notice := false } with
    link := { s.link with
      noticeCount := count
      transmitter := .sending (limitFrame (s.handleOf i) p count) rate s.now } }

/-- An idle transmitter begins its next frame: the reply at the head of the queue, else a LIMIT notice while the link is
UP (R167). Before the start-up profile load it sends nothing (R160). -/
def State.linkStage (s : State) : State :=
  match s.link.transmitter, s.link.rate with
  | .idle, some rate =>
    match s.link.queue with
    | f :: rest => { s with link := { s.link with queue := rest, transmitter := .sending f rate s.now } }
    | [] =>
      match s.link.state, s.nextNotice with
      | .up _, some i =>
        match s.slots[i].permit with
        | some p => s.sendNotice i p rate
        | none => s
      | _, _ => s
  | _, _ => s

end Sys2Proof.Machine
end

