-- ==== Sys2Proof/Machine/Settle.lean ====
section
/-! DEFINITION. The settling of an event: the hand-offs between blocks that an event brings about, taken in one fixed
order (log 6). Each stage reads the records as they stand and changes nothing when its inputs have not changed. -/

namespace Sys2Proof.Machine

/-- The door lock is released while any ENTRY permit is LIVE (R25). -/
def State.doorStage (s : State) : State := { s with doorReleased := s.entryLive }

/-- Whether a bus keeps start-up from being complete (R196). -/
def BusProgress.isDone : BusProgress → Bool
  | .notFitted => true
  | .polled => true
  | .failed => true
  | _ => false

/-- Start-up ends with a cause: limit remaining becomes absent and the START flag is set (R196). -/
def State.endStartUp (s : State) (cause : StartEnd) : State :=
  ({ s with unit := { s.unit with startUp := { s.unit.startUp with phase := .ended cause } } }).raise .start

/-- Start-up ends when every bus reads NOT_FITTED, POLLED or FAILED, from the load on (R196). -/
def State.startUpStage (s : State) : State :=
  match s.unit.startUp.phase with
  | .ended _ => s
  | .running _ =>
    if s.loaded && allStrings.all (fun b => s.unit.startUp.buses[b].progress.isDone) then s.endStartUp .complete else s

/-- A hand-off to the start-up record, taken while start-up is in progress (R80, R196). -/
def State.noteStartUp (s : State) (b : Fin 8) (f : BusStart → BusStart) : State :=
  match s.unit.startUp.phase with
  | .ended _ => s
  | .running _ =>
    { s with unit := { s.unit with startUp :=
      { s.unit.startUp with buses := put s.unit.startUp.buses b (f s.unit.startUp.buses[b]) } } }

/-- The fire evaluation of an event and the alarm entries it brings (R107, R116). -/
def State.fireAndAlarm (s : State) : State := s.fireStage.alarmStage (alarmEntries s.fire s.fireStage.fire)

/-- The hand-offs of an event. `granted` is the slot of a GRANT being taken (R24). -/
def State.settleWith (s : State) (granted : Option (Fin 48)) : State :=
  ((((((s.doorStage.fireAndAlarm).coolStage).connectStage).isolateStage granted).evaluateStage).linkStage).startUpStage

/-- The hand-offs of an event. -/
def State.settle (s : State) : State := s.settleWith none

end Sys2Proof.Machine
end

