-- ==== Sys2Proof/Machine/BusOps.lean ====
section
/-! DEFINITION. Sensing Bus Controllers and Module Rosters (chapters 3 and 4): frames begun and ended, roll calls, poll
rounds, and what a judged exchange does. -/

namespace Sys2Proof.Machine

/-- A frame begun: its header gap starts now (R61, R70). -/
def Frame.begin (kind : FrameKind) (address now : Nat) : Frame := ⟨kind, address, now, none, none⟩

/-- The bus with a frame begun. -/
def Bus.startFrame (b : Bus) (kind : FrameKind) (address now : Nat) : Bus :=
  { b with frame := some (Frame.begin kind address now) }

/-- The last failure written (R67, R64). -/
def Bus.fail (b : Bus) (kind : FailKind) (address : Nat) : Bus := { b with lastFailure := some ⟨kind, address⟩ }

/-- WAKING entered: the wake pulse begins (R74). -/
def Bus.wake (b : Bus) (now : Nat) : Bus := 
  { b with state := .waking (some (now + Config.wakePulse)) (now + Config.wakeTime) }

/-- ROLLCALL entered: the roll call record starts afresh, a round in progress ends unfinished, and the PROBE to address 1
begins (R76, R87, R98). -/
def Bus.enterRollCall (b : Bus) (now : Nat) : Bus :=
  { b with
    state := .rollcall
    rollCall := { b.rollCall with progress := .running, found := 0, extra := 0, working := [] }
    round := { b.round with nextStart := none, position := none }
    switchPending := false
    maskChanged := false
    frame := some (Frame.begin .probe 1 now) }

/-- A bus in POLLING goes to ROLLCALL; the string record takes it as a bus leaving POLLING (R41, R77). -/
def State.toRollCall (s : State) (b : Fin 8) : State :=
  (s.setBus b (s.buses[b].enterRollCall s.now)).stringLeavesPolling b

/-- OFF after a commit that clears the fitted bit: everything cut, every optional field absent (R78, R90, R98). R64 and R67
say that a frame cut by a commit leaves last target sent and last failure as they were; the model follows R78, which makes
both absent with the other optional fields. DESIGN CHOICE (log 44). -/
def Bus.toOff (_b : Bus) : Bus := Bus.atReset

/-- SELFTEST entered (R71, R72). -/
def Bus.toSelfTest (b : Bus) (now : Nat) : Bus := { b with state := .selftest (now + Config.selfTestTime) }

/-! ### Poll rounds -/

/-- Whether an entry is visited in a round (R94). -/
def Entry.visited (e : Entry) (tenth : Bool) : Bool := e.state != .missing || tenth

/-- The next entry to visit, above an address (R94). -/
def Bus.nextVisit (b : Bus) (above : Nat) : Option Entry :=
  b.roster.find? fun e => decide (above < e.address) && e.visited (b.round.index == 10)

/-- The exchange of a visited entry (R94). -/
def Entry.exchange (e : Entry) : FrameKind := if e.state = .missing then .probe else .summary

/-- The interval of a round: the poll base scaled by the band (R97). -/
def pollInterval (pollBase : Nat) (band : Fin 8) : Nat :=
  match band with
  | 0 => Config.ms pollBase / 4
  | 1 => Config.ms pollBase / 4
  | 2 => Config.ms pollBase / 2
  | 3 => Config.ms pollBase
  | 4 => Config.ms pollBase
  | 5 => Config.ms pollBase / 2
  | 6 => Config.ms pollBase / 4
  | 7 => Config.ms pollBase / 4

/-- The round ends: next start is the round start plus the interval, or now when that is later (R97). -/
def State.endRound (s : State) (b : Fin 8) : State :=
  let bus := s.buses[b]
  let start := bus.round.start.getD s.now
  let next := max (start + pollInterval s.unit.active.pollBase s.strings[b].band) s.now
  s.setBus b { bus with frame := none, round := { bus.round with nextStart := some next, position := none } }

/-- The bleed values of a string as they stand. -/
def StringRec.target (r : StringRec) : Target := ⟨r.bleedTarget, r.bleeding⟩

/-- Whether a TARGET broadcast is due at the completion of a round (R96). -/
def targetDue (last : Option Target) (now : Target) (index : Nat) : Bool :=
  match last with
  | none => true
  | some t =>
    decide (5 ≤ (t.millivolts - now.millivolts) + (now.millivolts - t.millivolts)) || t.enable != now.enable ||
      index == 10

/-- The first completed round after an entry to POLLING is reported to the start-up record (R96, R196). -/
def State.noteFirstRound (s : State) (b : Fin 8) : State :=
  if s.buses[b].round.index = 1 then s.noteStartUp b fun x => { x with progress := .polled } else s

/-- The voltage handed over at the end of a round is checked when its string is being served (R142). -/
def State.checkMatchOf (s : State) (b : Fin 8) : State := if s.serving = some b then s.checkMatch else s

/-- A round is complete: the record is aggregated and evaluated, the first round is reported, and a TARGET broadcast
follows when due; otherwise the round ends (R40, R96, R97). The spec gives no order between the match check of the new
voltage (R142) and what the new band or MODULES brings to service-readiness and to the bay (R55, R144); the model makes the
check first. DESIGN CHOICE (log 6). What the round's last exchange changed in the roster is settled whole before, by the
caller, on the aggregates of the round before (State.goodSummary). Position is absent from the completion on, so also while a TARGET frame follows. DESIGN
CHOICE (log 37). -/
def State.completeRound (s : State) (b : Fin 8) : State :=
  let s1 := s.setBus b { s.buses[b] with frame := none, round := { s.buses[b].round with position := none } }
  let s2 := (((s1.aggregate b).checkMatchOf b).noteFirstRound b).settle
  if targetDue s2.buses[b].lastTarget s2.strings[b].target s2.buses[b].round.index then
    s2.setBus b (s2.buses[b].startFrame .target 0 s2.now)
  else s2.endRound b

/-- The round goes on above an address: the next visited entry's exchange begins, or the round is complete (R94, R96).
Position is the entry visited, at a round's start too, when the lowest entry of the roster may be one that is not visited.
DESIGN CHOICE (log 37). -/
def State.visitAbove (s : State) (b : Fin 8) (above : Nat) : State :=
  match s.buses[b].nextVisit above with
  | some e =>
    let bus := s.buses[b]
    s.setBus b
      ({ bus with round := { bus.round with position := some e.address } }.startFrame e.exchange e.address s.now)
  | none => s.completeRound b

/-- The index of the next round (R93). -/
def nextIndex (index : Nat) : Nat := if 10 ≤ index then 1 else index + 1

/-- A round starts (R93). -/
def State.startRound (s : State) (b : Fin 8) : State :=
  let bus := s.buses[b]
  let bus1 := { bus with round :=
    { index := nextIndex bus.round.index, start := some s.now, nextStart := none, position := none } }
  (s.setBus b bus1).visitAbove b 0

/-! ### Roll call -/

/-- The new entry of an address at a roll call completion, if any (R89). -/
def newEntry (expected : Bool) (item : Option CallItem) (cells address : Nat) : Option Entry :=
  match expected, item with
  | true, some x =>
    let st := match x.probe.judge cells with
      | some c => ModuleState.faulted c
      | none => .online
    some ⟨address, true, st, 0, none, some x.probe⟩
  | true, none => some ⟨address, true, .missing, 0, none, none⟩
  | false, some x => some ⟨address, false, .extra, 0, none, some x.probe⟩
  | false, none => none

/-- The roster built from a working list (R89). -/
def buildRoster (p : Profile) (i : Fin 8) (working : List CallItem) : List Entry :=
  allAddresses.filterMap fun a => newEntry (p.expects i a) (working.find? (·.address == a)) p.cells[i] a

/-- The roll call is complete: the roster is rebuilt, the bus goes to POLLING and its first round starts (R89, R93). -/
def State.completeRollCall (s : State) (b : Fin 8) : State :=
  let bus := s.buses[b]
  let roster := buildRoster s.unit.active b bus.rollCall.working
  let extras := roster.countP (·.state == .extra)
  let bus1 := { bus with
    state := .polling
    frame := none
    roster := roster
    rollCall := { bus.rollCall with progress := .idle, extra := extras, requested := false, working := [] }
    round := { bus.round with index := 0, nextStart := none, position := none } }
  (((s.setBus b bus1).raiseIf (decide (0 < extras) || bus.rollCall.requested) .bus).noteStartUp b
    (fun x => { x with progress := .firstRound })).startRound b

/-- The roll call goes on after the PROBE to an address has been judged (R76, R88). -/
def State.nextProbe (s : State) (b : Fin 8) (address : Nat) : State :=
  if address < 24 then s.setBus b (s.buses[b].startFrame .probe (address + 1) s.now)
  else s.completeRollCall b

/-- A good PROBE answer of a roll call (R88). -/
def RollCall.answer (r : RollCall) (address : Nat) (probe : Probe) (expected : Bool) : RollCall :=
  { r with
    found := r.found + 1
    extra := if expected then r.extra else r.extra + 1
    working := r.working ++ [⟨address, probe⟩] }

/-! ### Exchanges of a poll round -/

/-- The roster with the entry of an address changed; no entry is added or removed (R81). -/
def updateEntry (roster : List Entry) (address : Nat) (f : Entry → Entry) : List Entry :=
  roster.map fun e => if e.address = address then f e else e

/-- The state after a good SUMMARY (R84, R95). -/
def ModuleState.afterSummary (st : ModuleState) (judged : Option FaultCause) : ModuleState :=
  match st, judged with
  | .extra, _ => .extra
  | .faulted .cells, _ => .faulted .cells
  | _, some c => .faulted c
  | _, none => .online

/-- An entry after a good SUMMARY: values stored, miss count 0 (R83, R84, R95). -/
def Entry.goodSummary (e : Entry) (v : Summary) (cells : Nat) : Entry :=
  { e with state := e.state.afterSummary (v.judge cells), missCount := 0, summary := some v }

/-- An entry after a failed SUMMARY (R85, R95). -/
def Entry.failedSummary (e : Entry) : Entry :=
  match e.state with
  | .online =>
    if e.summary.isNone ∨ 3 ≤ e.missCount + 1 then { e with state := .silent, missCount := 3 }
    else { e with missCount := e.missCount + 1 }
  | .silent => { e with missCount := 3 }
  | .faulted .status =>
    if 3 ≤ e.missCount + 1 then { e with state := .silent, missCount := 3 } else { e with missCount := e.missCount + 1 }
  | .faulted .cells => { e with missCount := min 3 (e.missCount + 1) }
  | .extra => { e with missCount := min 3 (e.missCount + 1) }
  | .missing => { e with missCount := 0 }

/-- A MISSING entry after a good PROBE of a tenth round (R95). -/
def Entry.goodProbe (e : Entry) (x : Probe) (cells : Nat) : Entry :=
  match x.judge cells with
  | some c => { e with state := .faulted c, missCount := 0, probe := some x }
  | none => { e with probe := some x }

/-- The bus with one roster entry changed. -/
def State.updateRoster (s : State) (b : Fin 8) (address : Nat) (f : Entry → Entry) : State :=
  s.setBus b { s.buses[b] with roster := updateEntry s.buses[b].roster address f }

/-- A frame of a poll round has ended and been judged: a switch that waits takes the bus to ROLLCALL, else the round goes
on (R77, R94, R98). A switch that waits comes first after the round's last exchange too: by R96 the round would be complete
there, by R77 and R98 it ends unfinished, and the model makes no aggregation. DEDUCED (log 39). -/
def State.afterExchange (s : State) (b : Fin 8) (address : Nat) : State :=
  if s.buses[b].switchPending then s.toRollCall b else s.visitAbove b address

/-- A good SUMMARY of a poll round (R84, R86, R95): the entry moves, and the gas level of an entry that is ONLINE after
it goes to the Fire Controller with the change of state. Where the same end of exchange takes the bus to ROLLCALL, the spec
gives no order of the two hand-offs (R80); the roster's is settled whole before the bus leaves POLLING. Where the exchange
is the round's last, R40 puts the aggregation after the exchange and the spec gives no order between it and the readers'
actions on the roster's hand-off (R86, R96); the model settles that hand-off whole (bay, contactors, evaluation and permits,
on the aggregates of the round before) and makes the aggregation of the same event after it. DESIGN CHOICE (log 6). -/
def State.goodSummary (s : State) (b : Fin 8) (address : Nat) (v : Summary) : State :=
  let s1 := s.updateRoster b address (·.goodSummary v s.unit.active.cells[b])
  let s2 := if s1.buses[b].onlineAt address then s1.takeGas b address v.gas else s1
  s2.settle.afterExchange b address

/-- A good PROBE of a tenth round: a SUMMARY to the same address follows at once when nothing was judged (R95), unless a
switch to ROLLCALL waits (R77). A change of the entry is settled whole before either, and before the aggregation where the
round is complete. DESIGN CHOICE (log 6). -/
def State.goodProbe (s : State) (b : Fin 8) (address : Nat) (x : Probe) : State :=
  let s1 := (s.updateRoster b address (·.goodProbe x s.unit.active.cells[b])).settle
  if s1.buses[b].switchPending then s1.toRollCall b
  else if (x.judge s1.unit.active.cells[b]).isNone then
    s1.setBus b (s1.buses[b].startFrame .summary address s1.now)
  else s1.visitAbove b address

/-- A failed exchange: the last failure is written, and a SUMMARY of a poll round moves its entry (R67, R85, R95). As after a
good one, the roster's hand-off is settled whole before the bus leaves POLLING, and before the aggregation of the same event
where the exchange is the round's last (R80, R86, R96). DESIGN CHOICE (log 6). -/
def State.failedExchange (s : State) (b : Fin 8) (kind : FrameKind) (address : Nat) (why : FailKind) : State :=
  let s1 := s.setBus b (s.buses[b].fail why address)
  match kind, s1.buses[b].state with
  | .probe, .rollcall => s1.nextProbe b address
  | .summary, .polling => ((s1.updateRoster b address Entry.failedSummary).settle).afterExchange b address
  | .probe, .polling => s1.afterExchange b address
  | _, _ => s1

/-- A TARGET frame has ended or been given up: a switch that waits takes the bus to ROLLCALL, else the round ends (R96,
R98). -/
def State.afterTarget (s : State) (b : Fin 8) : State :=
  if s.buses[b].switchPending then s.toRollCall b else s.endRound b

/-- An exchange judged at its end (R65, R67): a failure, or the decoded values handed on. -/
def State.judgeExchange (s : State) (b : Fin 8) (f : Frame) (chars : List BusChar) : State :=
  let answer := answerOf f.kind chars
  let data := (answer.map (·.value)).dropLast
  match judgeAnswer f.kind f.address answer, f.kind with
  | some why, kind => s.failedExchange b kind f.address why
  | none, .summary =>
    match decodeSummary data, s.buses[b].state with
    | some v, .polling => s.goodSummary b f.address v
    | _, _ => s
  | none, .probe =>
    match decodeProbe data, s.buses[b].state with
    | some x, .rollcall =>
      (s.setBus b { s.buses[b] with
        rollCall := s.buses[b].rollCall.answer f.address x (s.unit.active.expects b f.address) }).nextProbe b f.address
    | some x, .polling => s.goodProbe b f.address x
    | _, _ => s
  | none, .target => s

/-- A SUMMARY or PROBE frame in progress that no echo error has abandoned. -/
def Bus.openExchange (b : Bus) (kinds : List FrameKind) : Option Frame :=
  b.frame.filter fun f => f.gapEnd.isNone && kinds.contains f.kind

/-- The end of an exchange with the characters found (R65). -/
def State.endExchange (s : State) (b : Fin 8) (kinds : List FrameKind) (chars : List BusChar) : State :=
  match s.buses[b].openExchange kinds with
  | some f => (s.judgeExchange b f chars).settle
  | none => s

/-! ### The stuck line -/

/-- STUCK entered (R75, R90, R98). -/
def Bus.toStuck (b : Bus) (level : Level) (now : Nat) : Bus :=
  { b with
    state := .stuck level (now + Config.stuckRetry)
    frame := none
    switchPending := false
    maskChanged := false
    rollCall := match b.state with
      | .rollcall => { b.rollCall with progress := .abandoned, working := [] }
      | _ => b.rollCall
    round := { b.round with nextStart := none, position := none } }

end Sys2Proof.Machine
end

