-- ==== Sys2Proof/Machine/BusEvents.lean ====
section
/-! DEFINITION. The events of the sensing buses (chapters 3 and 4): SELFTEST_END, WAKE_PULSE_END, WAKE_END,
STUCK_RETRY_END, STUCK_LINE, ECHO_ERROR, IDLE_GAP_END, POLL_ROUND_START, SUMMARY_ANSWER, PROBE_ANSWER,
RESPONSE_WINDOW_END and TARGET_FRAME_END. -/

namespace Sys2Proof.Machine

/-- Test pattern 1 of the self-test (11.2). -/
def pattern1 : Byte := 0x55

/-- Test pattern 2 of the self-test (11.2). -/
def pattern2 : Byte := 0xAA

/-- The self-test ends by its patterns; pattern 2 is judged only when pattern 1 has passed (R72, R73). -/
def State.endSelfTest (s : State) (b : Fin 8) (back1 back2 : Option BusChar) : State :=
  if patternPasses pattern1 back1 && patternPasses pattern2 back2 then
    (s.setBus b (s.buses[b].wake s.now)).noteStartUp b fun x => { x with progress := .rollcall }
  else
    ((s.setBus b { s.buses[b] with state := .failed (patternPasses pattern1 back1) }).raise .bus).noteStartUp b
      fun x => { x with progress := .failed }

/-- SELFTEST_END (R72). -/
def execSelftestEnd (b : Fin 8) (back1 back2 : Option BusChar) (s : State) : Host.Outcome State Fault Refusal :=
  .next (
    match s.buses[b].state with
    | .selftest _ => (s.endSelfTest b back1 back2).settle
    | .off | .waking _ _ | .rollcall | .polling | .stuck _ _ | .failed _ => s)

/-- WAKE_PULSE_END (R74): the line is released, and the wake delay follows. -/
def execWakePulseEnd (b : Fin 8) (s : State) : Host.Outcome State Fault Refusal :=
  .next (
    match s.buses[b].state with
    | .waking (some _) e => s.setBus b { s.buses[b] with state := .waking none e }
    | .waking none _ | .off | .selftest _ | .rollcall | .polling | .stuck _ _ | .failed _ => s)

/-- WAKE_END (R74). -/
def execWakeEnd (b : Fin 8) (s : State) : Host.Outcome State Fault Refusal :=
  .next (
    match s.buses[b].state with
    | .waking _ _ => (s.setBus b (s.buses[b].enterRollCall s.now)).settle
    | .off | .selftest _ | .rollcall | .polling | .stuck _ _ | .failed _ => s)

/-- STUCK_RETRY_END (R75). -/
def execStuckRetryEnd (b : Fin 8) (s : State) : Host.Outcome State Fault Refusal :=
  .next (
    match s.buses[b].state with
    | .stuck _ _ => s.setBus b (s.buses[b].wake s.now)
    | .off | .selftest _ | .waking _ _ | .rollcall | .polling | .failed _ => s)

/-- Whether the monitor watches: a frame is in progress in ROLLCALL or POLLING (R68). -/
def Bus.watched (b : Bus) : Bool := b.frame.isSome && (b.state == .rollcall || b.state == .polling)

/-- The bus goes STUCK; its string leaves POLLING if it was there, and the start-up record takes the entry (R41, R75,
R196). -/
def State.goStuck (s : State) (b : Fin 8) (level : Level) : State :=
  let s1 := (s.setBus b (s.buses[b].toStuck level s.now)).raise .bus
  let s2 := if s.buses[b].isPolling then s1.stringLeavesPolling b else s1
  s2.noteStartUp b fun x => { x with progress := .rollcall, stuckSeen := true }

/-- STUCK_LINE (R68, R75): acts where what the monitor has seen is a stuck line. -/
def execStuckLine (b : Fin 8) (watch : LineWatch) (s : State) : Host.Outcome State Fault Refusal :=
  .next (if s.buses[b].watched && LineWatch.isStuck watch then (s.goStuck b watch.level).settle else s)

/-- The values a TARGET frame carries: those built, or those of the string record while they are not built yet (R64). -/
def State.targetOfFrame (s : State) (b : Fin 8) (f : Frame) : Target := f.built.getD s.strings[b].target

/-- The bit the master drives at a position of the frame in progress, the delimiter being position 0 (R60). -/
def State.drivenBit (s : State) (b : Fin 8) (f : Frame) (position : Nat) : Option Bool :=
  (frameBits f.kind f.address (s.targetOfFrame b f))[position]?

/-- The level the master gives the line of a bus in a bit time of the frame in progress (R61). An abandoned frame has left
the line released (R60). -/
def State.masterLevel (s : State) (b : Fin 8) : Bool :=
  match s.buses[b].frame with
  | some f =>
    if f.gapEnd.isSome then true
    else ((frameLevels f.kind f.address (s.targetOfFrame b f))[(s.now - f.start) / Config.busBit]?).getD true
  | none =>
    match s.buses[b].state with
    | .waking (some _) _ => false
    | .waking none _ | .off | .selftest _ | .rollcall | .polling | .stuck _ _ | .failed _ => true

/-- ECHO_ERROR (R60): a read-back bit that differs from the bit driven abandons the frame; the idle gap begins. -/
def execEchoError (b : Fin 8) (position : Nat) (readBack : Samples) (s : State) : Host.Outcome State Fault Refusal :=
  .next (
    match s.buses[b].openExchange [.summary, .probe, .target] with
    | none => s
    | some f =>
      match s.drivenBit b f position with
      | none => s
      | some driven =>
        if majority readBack = driven then s
        else s.setBus b { s.buses[b] with frame := some { f with gapEnd := some (s.now + Config.idleGap) } })

/-- An abandoned frame ends at the end of its idle gap: a SUMMARY or PROBE is judged ECHO, a TARGET counts as not sent
(R60, R64, R67, R69). -/
def State.endGap (s : State) (b : Fin 8) (f : Frame) : State :=
  match f.kind with
  | .summary => s.failedExchange b .summary f.address .echo
  | .probe => s.failedExchange b .probe f.address .echo
  | .target => (s.setBus b (s.buses[b].fail .echo 0)).afterTarget b

/-- IDLE_GAP_END (R60). -/
def execIdleGapEnd (b : Fin 8) (s : State) : Host.Outcome State Fault Refusal :=
  .next (
    match s.buses[b].frame.filter (·.gapEnd.isSome) with
    | some f => (s.endGap b f).settle
    | none => s)

/-- POLL_ROUND_START (R93). -/
def execPollRoundStart (b : Fin 8) (s : State) : Host.Outcome State Fault Refusal :=
  .next (if s.buses[b].isPolling && s.buses[b].round.nextStart.isSome then (s.startRound b).settle else s)

/-- SUMMARY_ANSWER (R65, R84): the last expected character ends a SUMMARY exchange; with characters missing or a framing
error the frame goes on to the end of its window. -/
def execSummaryAnswer (b : Fin 8) (chars : List BusChar) (s : State) : Host.Outcome State Fault Refusal :=
  .next (if answerComplete .summary chars then s.endExchange b [.summary] chars else s)

/-- PROBE_ANSWER (R65, R88): the last expected character ends a PROBE exchange; with characters missing or a framing error
the frame goes on to the end of its window. -/
def execProbeAnswer (b : Fin 8) (chars : List BusChar) (s : State) : Host.Outcome State Fault Refusal :=
  .next (if answerComplete .probe chars then s.endExchange b [.probe] chars else s)

/-- RESPONSE_WINDOW_END (R65): the end of an exchange with the characters found in the window. -/
def execResponseWindowEnd (b : Fin 8) (chars : List BusChar) (s : State) : Host.Outcome State Fault Refusal :=
  .next (s.endExchange b [.summary, .probe] chars)

/-- A TARGET frame sent whole: the values sent become the last target sent (R64). -/
def State.endTarget (s : State) (b : Fin 8) (f : Frame) : State :=
  (s.setBus b { s.buses[b] with lastTarget := some (s.targetOfFrame b f) }).afterTarget b

/-- TARGET_FRAME_END (R64). -/
def execTargetFrameEnd (b : Fin 8) (s : State) : Host.Outcome State Fault Refusal :=
  .next (
    match s.buses[b].openExchange [.target] with
    | some f => (s.endTarget b f).settle
    | none => s)

/-- Whether a TARGET frame in progress is about to build its first data character: its header has ended and its values
are not built (R61, R64). -/
def Frame.buildsNow (f : Frame) (now : Nat) : Bool :=
  f.kind == .target && f.built.isNone && f.gapEnd.isNone && decide (f.start + Config.headerTime ≤ now)

/-- The values of a TARGET frame built from the string record (R64, log 25). -/
def Bus.build (b : Bus) (r : StringRec) (now : Nat) : Bus :=
  match b.frame with
  | some f => if f.buildsNow now then { b with frame := some { f with built := some r.target } } else b
  | none => b

/-- A quantum of time passes, and every TARGET frame whose header has ended is built (log 1, 25). -/
def State.tick (s : State) : State :=
  { s with now := s.now + 1, buses := tab8 fun b => s.buses[b].build s.strings[b] (s.now + 1) }

end Sys2Proof.Machine
end

