-- ==== Sys2Proof/Machine/ConnectionEvents.lean ====
section
/-! DEFINITION. The events of the Connection Sequencer (chapter 7): PRECHARGE_TIMEOUT, PRECHARGE_RETRY_END, DRAIN_END,
MAIN_FEEDBACK_CHANGE, CONTACTOR_FEEDBACK_TIMER_END, BREAKER_FEEDBACK_CHANGE, BREAKER_WINDOW_END,
BREAKER_FEEDBACK_TIMER_END, GRID_HEALTHY_CHANGE, GRID_HEALTHY_TAKEN and RECONNECT_DELAY_END. -/

namespace Sys2Proof.Machine

/-- A precharge timed out: the first two failures start the retry delay, the third leads to FAILED (R143). -/
def Contactor.timeOut (c : Contactor) (now : Nat) : Contactor :=
  if c.failures + 1 < 3 then
    Contactor.enter { c with failures := c.failures + 1, retryEnd := some (now + Config.prechargeRetry) } .opened now
  else Contactor.enter { c with failures := 3, retryEnd := none } (.failed .precharge) now

/-- A contactor replaced, with the CONNECTION flag on an entry to FAILED and the path freed where it left PRECHARGING
(R141, R147). -/
def State.replaceContactor (s : State) (i : Fin 8) (c : Contactor) : State :=
  ((s.setContactor i c).raiseIf (c.state.isFailed && !s.contactors[i].state.isFailed) .connection).freePath

/-- PRECHARGE_TIMEOUT (R143). -/
def execPrechargeTimeout (string : Fin 8) (s : State) : Host.Outcome State Fault Refusal :=
  .next (
    match s.contactors[string].state with
    | .precharging _ => (s.replaceContactor string (s.contactors[string].timeOut s.now)).settle
    | .opened | .queued | .closed | .draining _ | .failed _ => s)

/-- PRECHARGE_RETRY_END (R143). -/
def execPrechargeRetryEnd (string : Fin 8) (s : State) : Host.Outcome State Fault Refusal :=
  .next (
    if s.contactors[string].retryEnd.isSome then
      (s.setContactor string { s.contactors[string] with retryEnd := none }).settle
    else s)

/-- DRAIN_END (R145). -/
def execDrainEnd (string : Fin 8) (s : State) : Host.Outcome State Fault Refusal :=
  .next (
    match s.contactors[string].state with
    | .draining _ => (s.setContactor string (s.contactors[string].enter .opened s.now)).settle
    | .opened | .queued | .precharging _ | .closed | .failed _ => s)

/-- MAIN_FEEDBACK_CHANGE (R138, R147). -/
def execMainFeedbackChange (string : Fin 8) (closed : Bool) (s : State) : Host.Outcome State Fault Refusal :=
  .next (
    if closed = s.contactors[string].feedback then s
    else s.setContactor string (Contactor.supervise { s.contactors[string] with feedback := closed } s.now))

/-- A contactor FAILED for its feedback; a retry in progress ends (R147). -/
def Contactor.failFeedback (c : Contactor) (now : Nat) : Contactor :=
  Contactor.enter { c with retryEnd := none } (.failed .feedback) now

/-- CONTACTOR_FEEDBACK_TIMER_END (R147). -/
def execContactorFeedbackTimerEnd (string : Fin 8) (s : State) : Host.Outcome State Fault Refusal :=
  .next (
    if s.contactors[string].feedbackTimer.isSome then
      (s.replaceContactor string (s.contactors[string].failFeedback s.now)).settle
    else s)

/-- The breaker after a change of its feedback (R153, R154, R157). -/
def Breaker.takeFeedback (b : Breaker) (closed : Bool) (now : Nat) : Breaker :=
  let b1 := { b with feedback := closed }
  match b.state, closed with
  | .closing _, true => b1.enter .closed now
  | .opening k _, false => b1.enter k.target now
  | _, _ => b1.supervise now

/-- BREAKER_FEEDBACK_CHANGE (R153, R154, R157). -/
def execBreakerFeedbackChange (closed : Bool) (s : State) : Host.Outcome State Fault Refusal :=
  .next (
    if closed = s.breaker.feedback then s
    else s.setBreaker (s.breaker.takeFeedback closed s.now))

/-- BREAKER_WINDOW_END (R153, R154). -/
def execBreakerWindowEnd (s : State) : Host.Outcome State Fault Refusal :=
  .next (
    match s.breaker.state with
    | .closing _ => s.setBreaker (s.breaker.enter (.failed .close) s.now)
    | .opening _ _ => s.setBreaker (s.breaker.enter (.failed .opening) s.now)
    | .opened | .closed | .tripped | .failed _ => s)

/-- BREAKER_FEEDBACK_TIMER_END (R157). -/
def execBreakerFeedbackTimerEnd (s : State) : Host.Outcome State Fault Refusal :=
  .next (
    if s.breaker.feedbackTimer.isSome then s.setBreaker (s.breaker.enter (.failed .feedback) s.now) else s)

/-- The grid-healthy input after a change of its level: a return to the level taken removes the candidate (R152). -/
def gridChange (g : Conditioned Bool) (healthy : Bool) (now : Nat) : Conditioned Bool :=
  if healthy = g.taken then { g with candidate := none } else g.change healthy now

/-- The grid-healthy line of the Breaker Record replaced. -/
def State.setGrid (s : State) (g : Conditioned Bool) : State := { s with breaker := { s.breaker with grid := g } }

/-- GRID_HEALTHY_CHANGE (R152). -/
def execGridHealthyChange (healthy : Bool) (s : State) : Host.Outcome State Fault Refusal :=
  .next (
    if healthy = s.breaker.grid.level then s else s.setGrid (gridChange s.breaker.grid healthy s.now))

/-- The reconnect delay and grid available of the Breaker Record written. -/
def State.setReconnect (s : State) (reconnectEnd : Option Nat) (available : Bool) : State :=
  { s with breaker := { s.breaker with reconnectEnd := reconnectEnd, gridAvailable := available } }

/-- HEALTHY taken: the reconnect delay starts (R152). -/
def State.gridReturns (s : State) : State :=
  s.setReconnect (some (s.now + Config.sec s.unit.active.reconnectDelay)) s.breaker.gridAvailable

/-- UNHEALTHY taken: grid available is cleared, the breaker opens normally, and a LIVE CONNECT is suspended (R23, R152,
R154). -/
def State.gridFalls (s : State) : State := ((s.setReconnect none false).openBreaker).suspendConnect

/-- GRID_HEALTHY_TAKEN (R152): a candidate equal to the level taken, as a reset leaves one, changes nothing else. -/
def execGridHealthyTaken (s : State) : Host.Outcome State Fault Refusal :=
  .next (
    match s.breaker.grid.candidate with
    | none => s
    | some x =>
      let s1 := s.setGrid s.breaker.grid.take
      if x.level = s.breaker.grid.taken then s1
      else if x.level then s1.gridReturns
      else s1.gridFalls.settle)

/-- RECONNECT_DELAY_END (R152, R156). -/
def execReconnectDelayEnd (s : State) : Host.Outcome State Fault Refusal :=
  .next (
    if s.breaker.reconnectEnd.isSome then ((s.setReconnect none true).resumeConnect).settle else s)

end Sys2Proof.Machine
end

