-- ==== Sys2Proof/Machine/CoolingEvents.lean ====
section
/-! DEFINITION. The events of the Cooling Controller (chapter 6): RUN_ON_END, FLOW_SWITCH_CHANGE and FLOW_TIMER_END. -/

namespace Sys2Proof.Machine

/-- The running stage one step lower; a further run-on starts while the demand is still below (R128). -/
def CoolRec.stepDown (r : CoolRec) (now runOn : Nat) : CoolRec :=
  { r with
    running := r.running - 1
    runOnEnd := if r.demand < r.running - 1 then some (now + Config.sec runOn) else none }

/-- RUN_ON_END (R128). -/
def execRunOnEnd (bay : Fin 4) (s : State) : Host.Outcome State Fault Refusal :=
  .next (
    if s.cooling[bay].runOnEnd.isSome then
      (s.setCooling bay ((s.cooling[bay].stepDown s.now s.unit.active.runOn).drive s.now)).settle
    else s)

/-- FLOW_SWITCH_CHANGE (R132). -/
def execFlowSwitchChange (bay : Fin 4) (flow : Bool) (s : State) : Host.Outcome State Fault Refusal :=
  .next (
    if flow = s.cooling[bay].flow then s
    else s.setCooling bay (CoolRec.drive { s.cooling[bay] with flow := flow } s.now))

/-- The flow fault a goal leaves (R133). -/
def FlowGoal.leaves : FlowGoal → Bool
  | .fault => true
  | .clear => false

/-- FLOW_TIMER_END (R133, R135). -/
def execFlowTimerEnd (bay : Fin 4) (s : State) : Host.Outcome State Fault Refusal :=
  .next (
    match s.cooling[bay].flowTimer with
    | none => s
    | some t =>
      ((s.setCooling bay (CoolRec.drive { s.cooling[bay] with flowFault := t.goal.leaves } s.now)).raise
        .cooling).settle)

end Sys2Proof.Machine
end

