-- ==== Sys2Proof/Machine/PortOps.lean ====
section
/-! DEFINITION. The Station Port and the Chain Runner (chapter 9, 11.1): the window as the host reads it, slots taken,
orders gated, handed over and ended. -/

namespace Sys2Proof.Machine

/-! ### Orders by code -/

/-- The order a snapshot names (11.1.2, 11.1.4): the command its owner takes, or none for a code that names no order. -/
def Snapshot.order (x : Snapshot) : Option Instr :=
  match x.code.toNat with
  | 1 => some (.lookup x.op0)
  | 2 => some (.find x.op0 x.op1)
  | 3 => some .nextChanged
  | 4 => some (.readString x.op0 x.op1)
  | 5 => some (.readModule x.op0 x.op1 x.op2)
  | 6 => some (.readBay x.op0)
  | 7 => some (.readConnection x.op0)
  | 8 => some .readLink
  | 9 => some .readClock
  | 10 => some (.readProfile x.op0 x.op1)
  | 11 => some (.grant x.op0 x.op1 x.op2 x.op3 x.op4 x.op5)
  | 12 => some (.amend x.op0 x.op1 x.op2 x.op3 x.op4 x.op5)
  | 13 => some (.renew x.op0)
  | 14 => some (.revoke x.op0)
  | 15 => some (.retire x.op0)
  | 16 => some .closeBreaker
  | 17 => some .openBreaker
  | 18 => some .resetBreaker
  | 19 => some (.clearContactor x.op0)
  | 20 => some (.resetBay x.op0)
  | 21 => some (.releaseNow x.op0)
  | 22 => some (.rollcall x.op0)
  | 23 => some (.setClock x.op0 x.op1 x.op2)
  | 24 => some (.setMode x.op0)
  | 25 => some (.writeProfile x.op0 x.op1 x.op2 x.op3)
  | 26 => some .commitProfile
  | _ => none

/-- The classes of orders that the mode table tells apart (R187). -/
inductive OrderClass where
  /-- The read orders, allowed before start-up ends (R179). -/
  | read
  /-- Orders of every mode. -/
  | every
  /-- OPERATING alone: CLOSE-BREAKER. -/
  | operating
  /-- Not in COMMISSIONING: RESET-BREAKER. -/
  | service
  /-- Not in OPERATING: ROLLCALL. -/
  | idle
  /-- MAINTENANCE alone: CLEAR-CONTACTOR. -/
  | maintenance
  /-- COMMISSIONING alone: WRITE-PROFILE, COMMIT-PROFILE. -/
  | commissioning
deriving DecidableEq, Repr

/-- Whether a class is allowed in a mode (R187). -/
def OrderClass.allowed (c : OrderClass) (m : Mode) : Bool :=
  match c with
  | .read => true
  | .every => true
  | .operating => m == .operating
  | .service => m != .commissioning
  | .idle => m != .operating
  | .maintenance => m == .maintenance
  | .commissioning => m == .commissioning

/-- The class of an order; none for a command that is no order (R179, R187). -/
def orderClass : Instr → Option OrderClass
  | .lookup _ => some .read
  | .find _ _ => some .read
  | .nextChanged => some .read
  | .readString _ _ => some .read
  | .readModule _ _ _ => some .read
  | .readBay _ => some .read
  | .readConnection _ => some .read
  | .readLink => some .read
  | .readClock => some .read
  | .readProfile _ _ => some .read
  | .grant _ _ _ _ _ _ => some .every
  | .amend _ _ _ _ _ _ => some .every
  | .renew _ => some .every
  | .revoke _ => some .every
  | .retire _ => some .every
  | .closeBreaker => some .operating
  | .openBreaker => some .every
  | .resetBreaker => some .service
  | .clearContactor _ => some .maintenance
  | .resetBay _ => some .every
  | .releaseNow _ => some .every
  | .rollcall _ => some .idle
  | .setClock _ _ _ => some .every
  | .setMode _ => some .every
  | .writeProfile _ _ _ _ => some .commissioning
  | .commitProfile => some .commissioning
  | _ => none

/-- Whether start-up has ended (R196). -/
def State.started (s : State) : Bool :=
  match s.unit.startUp.phase with
  | .ended _ => true
  | .running _ => false

/-- The gate (R179): the refusal of an order, or none when it passes. `none` for the order is a code that names none. -/
def State.gate (s : State) (order : Option Instr) : Option RefCode :=
  match order.bind orderClass with
  | none => some .unknown
  | some c =>
    if !s.started && c != .read then some .notReady
    else if !c.allowed s.unit.mode then some .mode
    else none

/-! ### Slots -/

/-- The runner's copy of a slot's control, order code and operand words (R179). -/
def State.snapshotOf (s : State) (slot : BitVec 5) : Snapshot :=
  let w := fun n => Memory.readWord s.orderMemory (slotAddress slot n)
  ⟨w 0, w 1, w 2, w 3, w 4, w 5, w 6, w 7⟩

/-- The next value of a control word: a slot, or none for END (11.1.2). -/
def Snapshot.next (x : Snapshot) : Option (BitVec 5) :=
  if x.control.getLsbD 5 then none else some (x.control.extractLsb' 0 5)

/-- stop-on-refusal (11.1.2). -/
def Snapshot.stopOnRefusal (x : Snapshot) : Bool := x.control.getLsbD 6

/-- notify-on-done (11.1.2). -/
def Snapshot.notifyDone (x : Snapshot) : Bool := x.control.getLsbD 7

/-- notify-on-refusal (11.1.2). -/
def Snapshot.notifyRefusal (x : Snapshot) : Bool := x.control.getLsbD 8

/-- The outcome word of an answer: taken, outcome, refusal code (11.1.2). -/
def Answer.outcomeWord (a : Answer) : Word :=
  match a.refusal with
  | none => 0x8000
  | some r => 0xC000 ||| BitVec.ofNat 16 r.code

/-- Outcome and result words written as one write (R180). -/
def State.writeOutcome (s : State) (slot : BitVec 5) (a : Answer) : State :=
  { s with orderMemory :=
    Memory.writeWords s.orderMemory (slotAddress slot 8) (a.outcomeWord :: wordResults a.results) }

/-- The runner's state replaced. -/
def State.setRunner (s : State) (st : RunnerState) : State := { s with runner := { s.runner with state := st } }

/-- The end of an order (R180): outcome written, CHAIN set where due, and how the run goes on. The second part is the
slot to take next, none when the run stops here. -/
def State.endOrder (s : State) (slot : BitVec 5) (x : Snapshot) (stopRequested : Bool) (a : Answer) :
    State × Option (BitVec 5) :=
  let notify := if a.refusal.isSome then x.notifyRefusal else x.notifyDone
  let s1 := (s.writeOutcome slot a).raiseIf notify .chain
  if a.refusal.isSome && x.stopOnRefusal then ((s1.setRunner (.halted slot .refused)).raise .chain, none)
  else if stopRequested then ((s1.setRunner (.halted slot .stopped)).raise .chain, none)
  else
    match x.next with
    | none => ((s1.setRunner (.idle (some slot))).raise .chain, none)
    | some n => (s1, some n)

/-- A 33rd slot would be taken: the run halts (R181). -/
def State.chainLong (s : State) (slot : BitVec 5) : State := (s.setRunner (.halted slot .chainLong)).raise .chain

/-- Whether a snapshot names a time-taking order: COMMIT-PROFILE alone (R182). -/
def Snapshot.timeTaking (x : Snapshot) : Bool := x.order == some .commitProfile

/-- A slot snapshotted: it is the order in progress, and orders executed rises by 1 (R179). Waiting is set from here on for
a time-taking order (R176, R182). -/
def State.takeSnapshot (s : State) (slot : BitVec 5) : State :=
  { s with runner :=
    { s.runner with
      state := .running slot (s.snapshotOf slot) (s.snapshotOf slot).timeTaking false .handed
      executed := s.runner.executed + 1 } }

/-- Slots taken from `slot` on until an order passes the gate or the run stops (R179 to R181). Each slot taken counts, so
33 turns are enough. -/
def State.takeSlot : Nat → BitVec 5 → State → State
  | 0, slot, s => s.chainLong slot
  | n + 1, slot, s =>
    if 32 ≤ s.runner.executed then s.chainLong slot
    else
      match s.gate (s.snapshotOf slot).order with
      | none => s.takeSnapshot slot
      | some r =>
        match (s.takeSnapshot slot).endOrder slot (s.snapshotOf slot) false (refuse r) with
        | (s2, none) => s2
        | (s2, some next) => State.takeSlot n next s2

/-- The runner writes what the owner answered: the order in progress ends and the run goes on (R180). -/
def State.answerOrder (s : State) (slot : BitVec 5) (x : Snapshot) (stopRequested : Bool) (a : Answer) : State :=
  match s.endOrder slot x stopRequested a with
  | (s1, none) => s1
  | (s1, some next) => State.takeSlot 33 next s1

/-- The order that has been handed to its owner and not been taken yet (R179). -/
def State.handedOrder (s : State) : Option Instr :=
  match s.runner.state with
  | .running _ x _ _ .handed => x.order
  | _ => none

/-- Where an owner's answer goes: to the runner, when the order it was handed is this one, else to the model's own
`answer` (log 4). The owner's action and the runner's write are separate events (R180, log 5). -/
def State.deliver (s : State) (a : Answer) (order : Instr) : State :=
  match s.runner.state with
  | .running slot x waiting stopRequested .handed =>
    if x.order = some order then s.setRunner (.running slot x waiting stopRequested (.answered a))
    else { s with answer := some a }
  | _ => { s with answer := some a }

/-- The runner's write of an order that its owner has answered, none when there is no such order (R180, log 5). -/
def State.endAnswered (s : State) : Option State :=
  match s.runner.state with
  | .running slot x _ stopRequested (.answered a) => some (s.answerOrder slot x stopRequested a)
  | _ => none

/-- An order is taken by its owner. An order the runner handed over has passed the gate at its slot; any other is gated
here (R179, log 4). -/
def State.takeOrder (s : State) (order : Instr) (owner : State → State × Answer) : State :=
  if s.handedOrder = some order then (owner s).1.deliver (owner s).2 order
  else
    match s.gate (some order) with
    | some r => { s with answer := some (refuse r) }
    | none => (owner s).1.deliver (owner s).2 order

/-! ### The window -/

/-- Runner status words 0 and 1 (R176, 11.1.1). -/
def Runner.status (r : Runner) : Word × Word :=
  let code := match r.state with | .idle _ => 0 | .running _ _ _ _ _ => 1 | .halted _ _ => 2
  let slot : Option (BitVec 5) := match r.state with
    | .idle x => x
    | .running x _ _ _ _ => some x
    | .halted x _ => some x
  let w0 := code + 4 * slot.isSome.toNat + 8 * (slot.getD 0).toNat + 256 * r.executed
  let waiting := match r.state with | .running _ _ w _ _ => w | _ => false
  let stop := match r.state with | .running _ _ _ x _ => x | _ => false
  let reason := match r.state with
    | .halted _ .refused => 1
    | .halted _ .chainLong => 2
    | .halted _ .stopped => 3
    | _ => 0
  let w1 := waiting.toNat + 2 * stop.toNat + 4 * reason + 16 * r.runRefused.toNat
  (BitVec.ofNat 16 w0, BitVec.ofNat 16 w1)

/-- What the host reads at a window address (R174, 11.1.1). A read changes nothing. -/
def windowRead (s : State) (a : BitVec 10) : Word :=
  if a.toNat < 0x200 then Memory.readWord s.orderMemory a.toNat
  else if a = 0x201 then s.runner.status.1
  else if a = 0x202 then s.runner.status.2
  else if a = 0x203 then s.attention.flags.setWidth 16
  else if a = 0x204 then s.attention.enables.setWidth 16
  else 0

/-- The transaction after a data word written at an address: the address has advanced by one, wrapping (R197). -/
def State.wrote (s : State) (a : BitVec 10) : State := { s with transaction := .write (a + 1) [] }

/-- A RUN command (R177). -/
def State.runCommand (s : State) (slot : BitVec 5) : State :=
  match s.runner.state with
  | .running _ _ _ _ _ => { s with runner := { s.runner with runRefused := true } }
  | .idle x => State.takeSlot 33 slot { s with runner := ⟨.idle x, 0, false⟩ }
  | .halted x r => State.takeSlot 33 slot { s with runner := ⟨.halted x r, 0, false⟩ }

/-- A STOP command (R178). -/
def State.stopCommand (s : State) : State :=
  match s.runner.state with
  | .running slot x waiting _ progress => s.setRunner (.running slot x waiting true progress)
  | .idle _ => s
  | .halted _ _ => s

/-- A word of the window written, by area (R174, 11.1.1). An outcome word is stored as written, bit 15 included: R174 says
that the word is stored, and R175 that a host write of it clears taken. DESIGN CHOICE (log 40). -/
def State.windowWrite (s : State) (a : BitVec 10) (v : Word) : State :=
  if a.toNat < 0x200 then { s with orderMemory := Memory.writeWord s.orderMemory a.toNat v }
  else if a = 0x200 then
    if bitsOf v 14 2 = 1 then s.runCommand (v.extractLsb' 0 5)
    else if bitsOf v 14 2 = 2 then s.stopCommand
    else s
  else if a = 0x203 then { s with attention := s.attention.clear v }
  else if a = 0x204 then { s with attention := s.attention.enable v }
  else s

/-- The command a data word of a write transaction amounts to (R197, 11.1.1). -/
def writeCommand (a : BitVec 10) (v : Word) : Instr :=
  if a.toNat < 0x200 then .orderMemoryWrite (a.extractLsb' 4 5) (a.extractLsb' 0 4) v
  else if a = 0x200 then
    if bitsOf v 14 2 = 1 then .run (v.extractLsb' 0 5)
    else if bitsOf v 14 2 = 2 then .stop
    else .windowWriteOther a v
  else if a = 0x203 then .attentionSummaryWrite v
  else if a = 0x204 then .attentionEnableWrite v
  else .windowWriteOther a v

/-- The commands of the whole data words of a write transaction from an address on (R197). -/
def writeCommands : BitVec 10 → List Word → List Instr
  | _, [] => []
  | a, v :: vs => writeCommand a v :: writeCommands (a + 1) vs

/-- The commands that a transaction of a header and whole data words amounts to: none for a read (R197). -/
def transactionCommands (header : Word) (data : List Word) : List Instr :=
  if header.getLsbD 15 then writeCommands (header.extractLsb' 0 10) data else []

/-- The words a read transaction returns when no event comes between its words (R197). -/
def transactionReads (s : State) (header : Word) (count : Nat) : List Word :=
  (List.range count).map fun n => windowRead s (header.extractLsb' 0 10 + BitVec.ofNat 10 n)

end Sys2Proof.Machine
end

