-- ==== Sys2Proof/Machine/ReadOrders.lean ====
section
/-! DEFINITION. The read orders: LOOKUP, FIND, NEXT-CHANGED, READ-STRING, READ-MODULE, READ-BAY, READ-CONNECTION,
READ-LINK, READ-CLOCK and READ-PROFILE, with their results (11.1.5, 11.1.6). -/

namespace Sys2Proof.Machine

/-! ### Codes of results that have no code in 11.1.3: the position in the list of their rule, from 0 (11.1.6, log 18) -/

/-- Bus states (R70). -/
def BusState.code : BusState → Nat
  | .off => 0
  | .selftest _ => 1
  | .waking _ _ => 2
  | .rollcall => 3
  | .polling => 4
  | .stuck _ _ => 5
  | .failed _ => 6

/-- Stuck levels (R70). -/
def levelCode : Level → Nat
  | .low => 0
  | .high => 1

/-- Failure kinds (R67, R70). -/
def FailKind.code : FailKind → Nat
  | .echo => 0
  | .framing => 1
  | .noise => 2
  | .short => 3
  | .check => 4

/-- Module states (R81). -/
def ModuleState.code : ModuleState → Nat
  | .missing => 0
  | .online => 1
  | .silent => 2
  | .faulted _ => 3
  | .extra => 4

/-- Fault causes (R81). -/
def FaultCause.code : FaultCause → Nat
  | .cells => 0
  | .status => 1

/-- The "in progress" field as its rule gives it: 0, 1 or 255 (R87). -/
def CallProgress.code : CallProgress → Nat
  | .idle => 0
  | .running => 1
  | .abandoned => 255

/-- Smoke conditions (R100). -/
def SmokeCondition.code : SmokeCondition → Nat
  | .normal => 0
  | .active => 1
  | .fault => 2

/-- Module source conditions (R100). -/
def SourceCondition.code : SourceCondition → Nat
  | .clear => 0
  | .active => 1
  | .unavailable => 2

/-- Containment requests (R100). -/
def Containment.code : Containment → Nat
  | .none => 0
  | .bay => 1
  | .container => 2

/-- Flow timer goals (R122). -/
def FlowGoal.code : FlowGoal → Nat
  | .fault => 0
  | .clear => 1

/-- Contactor states (R138). -/
def ContactorState.code : ContactorState → Nat
  | .opened => 0
  | .queued => 1
  | .precharging _ => 2
  | .closed => 3
  | .draining _ => 4
  | .failed _ => 5

/-- Contactor fail reasons (R138). -/
def ContactorFail.code : ContactorFail → Nat
  | .feedback => 0
  | .precharge => 1

/-- Breaker fail reasons (R151). -/
def BreakerFail.code : BreakerFail → Nat
  | .close => 0
  | .opening => 1
  | .feedback => 2

/-- Opening kinds (R151). -/
def OpeningKind.code : OpeningKind → Nat
  | .normal => 0
  | .trip => 1

/-- Causes of a bad frame (R163, R164). -/
def BadCause.code : BadCause → Nat
  | .framing => 0
  | .noise => 1
  | .check => 2
  | .kind => 3
  | .broken => 4

/-- Transmitter states (R164). -/
def Transmitter.code : Transmitter → Nat
  | .idle => 0
  | .sending _ _ _ => 1
  | .gap _ => 2

/-- Link states (R164). -/
def LinkState.code : LinkState → Nat
  | .up _ => 0
  | .down => 1

/-- Bus progress (R196). -/
def BusProgress.code : BusProgress → Nat
  | .notFitted => 0
  | .selftest => 1
  | .rollcall => 2
  | .firstRound => 3
  | .polled => 4
  | .failed => 5

/-- The set of unmet conditions, one bit each in the order of R139. -/
def Unmet.bits (u : Unmet) : Nat :=
  u.fitted.toNat + 2 * u.isolate.toNat + 4 * u.fire.toNat + 8 * u.modules.toNat + 16 * u.band.toNat +
    32 * u.link.toNat + 64 * u.mode.toNat

/-- The set of manual causes, one bit each in the order of R100. -/
def Manual.bits (m : Manual) : Nat := m.entry.toNat + 2 * m.hold.toNat + 4 * m.profile.toNat

/-! ### LOOKUP, FIND, NEXT-CHANGED -/

/-- Result 1 of LOOKUP below the kind: the effective limit in PENDING and LIVE; in SUSPENDED and REVOKED the reason, with
restricting string and cause for ENVELOPE (11.1.5). -/
def Permit.lookupReason (p : Permit) : Nat :=
  match p.state with
  | .pending => p.effective
  | .live => p.effective
  | .suspended | .revoked =>
    match p.reason with
    | some (.envelope i c) => Report.envelope.code + 16 * i.val + 128 * c.code
    | some r => r.report.code
    | none => 0

/-- The pending rise of a record. -/
def Permit.rise (p : Permit) : Option Rise := p.limits.bind (·.rise)

/-- Result 3 of LOOKUP below the holder: the pending rise, or in REVOKED the revoked hold left (11.1.5). -/
def Permit.lookupRise (p : Permit) (now : Nat) : Nat :=
  match p.state with
  | .pending => 0
  | .live => (p.rise.map (·.value)).getD 0
  | .suspended => (p.rise.map (·.value)).getD 0
  | .revoked => (p.holdEnd.map (secondsLeft now)).getD 0

/-- Lease time left in whole seconds, 0 when no lease runs (R13). -/
def Permit.leaseLeft (p : Permit) (now : Nat) : Nat := (p.leaseEnd.map (secondsLeft now)).getD 0

/-- The seven result words of LOOKUP (11.1.5). -/
def Permit.lookupWords (p : Permit) (now : Nat) : List Word :=
  let second := match p.expiry with | some e => e.second | none => 131071
  let day := match p.expiry with | some e => e.day | none => 65535
  [ BitVec.ofNat 16 (p.scope.toNat + 256 * p.leasePeriod.getD 0 + 16384 * p.changed.toNat + 32768 * p.notice.toNat),
    BitVec.ofNat 16 (p.lookupReason + 8192 * p.kind.code),
    BitVec.ofNat 16 (p.requested + 8192 * p.state.code),
    BitVec.ofNat 16 (p.lookupRise now + 8192 * p.holder.code + 32768 * (second / 65536)),
    BitVec.ofNat 16 (p.leaseLeft now + 64 * (p.rise.map fun r => secondsLeft now r.holdEnd).getD 0 +
      4096 * p.autoReclose.toNat),
    BitVec.ofNat 16 day,
    BitVec.ofNat 16 second ]

/-- LOOKUP at its owner (R32). -/
def ownerLookup (handle : Word) (s : State) : State × Answer :=
  match s.resolve (Handle.ofWord handle) with
  | none => (s, refuse .stale)
  | some (i, p) => (s.setPermit i { p with changed := false }, done (p.lookupWords s.now))

/-- LOOKUP (R32). -/
def execLookup (handle : Word) (s : State) : Host.Outcome State Fault Refusal :=
  .next (s.takeOrder (.lookup handle) (ownerLookup handle))

/-- FIND at its owner (R33). -/
def ownerFind (kind string : Word) (s : State) : State × Answer :=
  match Kind.ofCode kind.toNat with
  | none => (s, refuse .field)
  | some .connect =>
    (s, done (wordResults [match s.findPermit (fun p => p.kind == .connect) with
      | some i => (s.handleOf i).word
      | none => noneWord]))
  | some k =>
    match stringOf string with
    | none => (s, refuse .field)
    | some j =>
      (s, done (wordResults [match s.findPermit (fun p => p.kind == k && inScope p.scope j) with
        | some i => (s.handleOf i).word
        | none => noneWord]))

/-- FIND (R33). -/
def execFind (kind string : Word) (s : State) : Host.Outcome State Fault Refusal :=
  .next (s.takeOrder (.find kind string) (ownerFind kind string))

/-- Handle, state and effective limit as results (R9, R34). The rules list the effective limit for CHARGE and DISCHARGE
alone: it has no presence bit and reads 0 for another kind (log 16). -/
def handleStateResults (h : Handle) (p : Permit) : List Word :=
  pack (fld 16 h.word.toNat ++ fld 3 p.state.code ++ fld 13 p.effective)

/-- NEXT-CHANGED at its owner (R34). -/
def ownerNextChanged (s : State) : State × Answer :=
  match s.findPermit (fun p => p.changed) with
  | none => (s, done (wordResults [noneWord]))
  | some i =>
    match s.slots[i].permit with
    | none => (s, done (wordResults [noneWord]))
    | some p => (s.setPermit i { p with changed := false }, done (handleStateResults (s.handleOf i) p))

/-- NEXT-CHANGED (R34). -/
def execNextChanged (s : State) : Host.Outcome State Fault Refusal :=
  .next (s.takeOrder .nextChanged ownerNextChanged)

/-! ### READ-STRING, READ-MODULE -/

/-- A cell location with its presence (R57). -/
def placeFields (x : Option CellPlace) : List Field :=
  match x with
  | some c => [⟨1, 1⟩, ⟨5, c.address⟩, ⟨5, c.position⟩]
  | none => [⟨1, 0⟩, ⟨5, 0⟩, ⟨5, 0⟩]

/-- Page 0 of READ-STRING (R57). In the order of R57 the packing of 11.1.6 would put band and band-changed mark into an
eighth word, and an order has seven result words (11.1.2). The model gives them the first bits that the fields before them
leave free, bits 5 to 7 and bit 8 of result 0; every other field stands where 11.1.6 puts it. DESIGN CHOICE (log 35). -/
def StringRec.page0 (r : StringRec) : List Word :=
  pack (fld 5 r.onlineCount ++ fld 3 r.band.val ++ bit r.bandChanged ++ fld 16 r.voltage ++ fld 16 r.minCell ++
    placeFields r.minPlace ++ fld 16 r.maxCell ++ placeFields r.maxPlace ++ sfld 8 r.minTemp ++ sfld 8 r.maxTemp)

/-- Page 1 of READ-STRING (R57). -/
def StringRec.page1 (r : StringRec) : List Word :=
  pack (bit r.fitted ++ fld 3 r.band.val ++ bit r.bandChanged ++ fld 10 r.chargeEnvelope ++ fld 10 r.dischargeEnvelope ++
    fld 4 r.cause.code ++ fld 16 r.bleedTarget ++ bit r.bleeding)

/-- READ-STRING at its owner (R57). -/
def ownerReadString (string page : Word) (s : State) : State × Answer :=
  match stringOf string with
  | none => (s, refuse .field)
  | some i =>
    if page = 0 then
      (s.setString i { s.strings[i] with bandChanged := false }, done s.strings[i].page0)
    else if page = 1 then
      (s.setString i { s.strings[i] with bandChanged := false }, done s.strings[i].page1)
    else (s, refuse .field)

/-- READ-STRING (R57). -/
def execReadString (string page : Word) (s : State) : Host.Outcome State Fault Refusal :=
  .next (s.takeOrder (.readString string page) (ownerReadString string page))

/-- The cell count field of READ-MODULE; a count that its 5 bits cannot hold is free (log 32). -/
def cellCountField (n : Nat) : Nat := if n < 32 then n else (Config.wideCellCount n).toNat

/-- The fault cause of a module state. -/
def ModuleState.faultCode : ModuleState → Option Nat
  | .faulted c => some c.code
  | _ => none

/-- Page 0 of an entry (R99). -/
def Entry.page0 (e : Entry) : List Word :=
  pack (bit e.expected ++ fld 3 e.state.code ++ opt 1 e.state.faultCode ++ fld 2 e.missCount ++ bit e.summary.isSome ++
    bit e.probe.isSome ++ fld 5 (cellCountField ((e.probe.map Probe.cellCount).getD 0)) ++
    fld 8 (((e.probe.map Probe.status).getD 0).toNat) ++ fld 8 (((e.summary.map Summary.status).getD 0).toNat) ++
    fld 8 ((e.summary.map Summary.gas).getD 0) ++ fld 8 ((e.summary.map Summary.bleedCount).getD 0))

/-- Page 1 of an entry (R99): the summary values behind one presence bit, which is clear, with 0 in their places, while the
entry holds none (11.1.6, log 16). -/
def Entry.page1 (e : Entry) : List Word :=
  match e.summary with
  | none => pack (bit false ++ fld 16 0 ++ fld 5 0 ++ fld 16 0 ++ fld 5 0 ++ fld 16 0 ++ sfld 8 0 ++ sfld 8 0)
  | some v =>
    pack (bit true ++ fld 16 v.minCell ++ fld 5 v.minPosition ++ fld 16 v.maxCell ++ fld 5 v.maxPosition ++
      fld 16 v.voltage ++ sfld 8 v.maxTemp ++ sfld 8 v.minTemp)

/-- "no entry" (R99): the word that 11.1.6 gives for "none", and nothing else. No entry's page begins with it. DESIGN CHOICE
(log 17). -/
def noEntry : List Word := wordResults [noneWord]

/-- The stuck level of a bus state. -/
def BusState.stuckLevel : BusState → Option Nat
  | .stuck l _ => some (levelCode l)
  | _ => none

/-- The self-test failure of a bus state: pattern 1 or pattern 2. -/
def BusState.failedPattern : BusState → Option Nat
  | .failed p => some p.toNat
  | _ => none

/-- The last failure, kind and address, with one presence bit (R99). -/
def failureFields (x : Option Failure) : List Field :=
  match x with
  | some f => [⟨1, 1⟩, ⟨3, f.kind.code⟩, ⟨5, f.address⟩]
  | none => [⟨1, 0⟩, ⟨3, 0⟩, ⟨5, 0⟩]

/-- The last target sent with its presence bit (R70, R99). -/
def targetFields (x : Option Target) : List Field :=
  match x with
  | some t => [⟨1, 1⟩, ⟨16, t.millivolts⟩, ⟨1, t.enable.toNat⟩]
  | none => [⟨1, 0⟩, ⟨16, 0⟩, ⟨1, 0⟩]

/-- Address 0, page 0 (R99). -/
def Bus.page0 (b : Bus) : List Word :=
  pack (fld 3 b.state.code ++ opt 1 b.state.stuckLevel ++ opt 1 b.state.failedPattern ++ failureFields b.lastFailure ++
    targetFields b.lastTarget)

/-- Address 0, page 1 (R99). -/
def Bus.page1 (b : Bus) : List Word :=
  pack (fld 8 b.rollCall.progress.code ++ fld 5 b.rollCall.found ++ fld 5 b.rollCall.extra ++ bit b.rollCall.requested ++
    fld 4 b.round.index)

/-- The results of READ-MODULE (R99). -/
def Bus.moduleResults (b : Bus) (address : Nat) (page1 : Bool) : List Word :=
  if address = 0 then (if page1 then b.page1 else b.page0)
  else
    match b.entry address with
    | none => noEntry
    | some e => if page1 then e.page1 else e.page0

/-- READ-MODULE at its owner (R99). -/
def ownerReadModule (bus address page : Word) (s : State) : State × Answer :=
  match stringOf bus with
  | none => (s, refuse .field)
  | some b =>
    if 24 < address.toNat ∨ 1 < page.toNat then (s, refuse .field)
    else (s, done (s.buses[b].moduleResults address.toNat (page == 1)))

/-- READ-MODULE (R99). -/
def execReadModule (bus address page : Word) (s : State) : Host.Outcome State Fault Refusal :=
  .next (s.takeOrder (.readModule bus address page) (ownerReadModule bus address page))

/-! ### READ-BAY -/

/-- The countdown of a bay state. -/
def FireState.countdownEnd : FireState → Option Nat
  | .countdown e => some e
  | _ => none

/-- The release pulse of a bay state. -/
def FireState.pulseEnd : FireState → Option Nat
  | .released e => e
  | _ => none

/-- The highest gas level with its place and one presence bit (R121). -/
def gasFields (x : Option GasItem) : List Field :=
  match x with
  | some it => [⟨1, 1⟩, ⟨8, it.level⟩, ⟨3, it.string.val⟩, ⟨5, it.address⟩]
  | none => [⟨1, 0⟩, ⟨8, 0⟩, ⟨3, 0⟩, ⟨5, 0⟩]

/-- The fire fields of READ-BAY (R121). -/
def FireRec.fields (r : FireRec) (now : Nat) : List Field :=
  fld 3 r.state.code ++ fld 2 r.smokeA.condition.code ++ fld 2 r.smokeB.condition.code ++ fld 2 r.gas.code ++
    fld 2 r.heat.code ++ fld 3 r.activeCount ++ fld 3 r.availableCount ++ bit r.degraded ++ fld 3 r.manual.bits ++
    opt 6 (r.state.countdownEnd.map (secondsLeft now)) ++ opt 2 (r.state.pulseEnd.map (secondsLeft now)) ++
    bit r.releaseOutput ++ fld 2 r.containment.code ++ fld 6 r.gasList.length ++ gasFields (highestGas r.gasList)

/-- The flow timer's goal and remaining time with one presence bit (R137). -/
def flowFields (x : Option FlowTimer) (now : Nat) : List Field :=
  match x with
  | some t => [⟨1, 1⟩, ⟨1, t.goal.code⟩, ⟨5, secondsLeft now t.endsAt⟩]
  | none => [⟨1, 0⟩, ⟨1, 0⟩, ⟨5, 0⟩]

/-- The cooling fields of READ-BAY (R137); FLOW is 0 and NO_FLOW is 1 (11.1.6). -/
def CoolRec.fields (r : CoolRec) (now : Nat) : List Field :=
  fld 2 r.demand ++ bit r.heaterDemand ++ fld 2 r.running ++ opt 10 (r.runOnEnd.map (secondsLeft now)) ++ bit (!r.flow) ++
    bit r.flowFault ++ flowFields r.flowTimer now ++ bit r.outputs.fanLow ++ bit r.outputs.fanHigh ++ bit r.outputs.pump ++
    bit r.outputs.chiller ++ bit r.outputs.heater ++ bit r.outputs.damper ++ bit r.even.complete ++ bit r.odd.complete

/-- READ-BAY at its owners (R121, R137). Each owner takes it as an event of its own (9.5), and the table has one row for it:
the model takes both parts in one event. DESIGN CHOICE (log 41). -/
def ownerReadBay (bay : Word) (s : State) : State × Answer :=
  match bayOfWord bay with
  | none => (s, refuse .field)
  | some k => (s, done (pack (s.fire[k].fields s.now ++ s.cooling[k].fields s.now)))

/-- READ-BAY (R121). -/
def execReadBay (bay : Word) (s : State) : Host.Outcome State Fault Refusal :=
  .next (s.takeOrder (.readBay bay) (ownerReadBay bay))

/-! ### READ-CONNECTION, READ-LINK -/

/-- The fail reason of a contactor state. -/
def ContactorState.failCode : ContactorState → Option Nat
  | .failed r => some r.code
  | _ => none

/-- The precharge limit of a contactor state. -/
def ContactorState.prechargeEnd : ContactorState → Option Nat
  | .precharging e => some e
  | _ => none

/-- The drain of a contactor state. -/
def ContactorState.drainEnd : ContactorState → Option Nat
  | .draining e => some e
  | _ => none

/-- READ-CONNECTION, selectors 0 to 7 (R159). -/
def Contactor.words (c : Contactor) (now : Nat) : List Word :=
  pack (bit c.fitted ++ fld 3 c.state.code ++ opt 1 c.state.failCode ++ fld 2 c.failures ++
    opt 4 (c.state.prechargeEnd.map (secondsLeft now)) ++ opt 4 (c.state.drainEnd.map (secondsLeft now)) ++
    opt 5 (c.retryEnd.map (secondsLeft now)) ++ bit c.unmet.isEmpty ++ fld 7 c.unmet.bits ++
    opt 16 (c.isolating.map fun h => h.word.toNat) ++ bit c.mainClosed ++ bit c.prechargeClosed ++ bit c.feedback ++
    opt 8 (c.feedbackTimer.map (millisLeft now)))

/-- The opening kind of a breaker state. -/
def BreakerState.openingCode : BreakerState → Option Nat
  | .opening k _ => some k.code
  | _ => none

/-- The fail reason of a breaker state. -/
def BreakerState.failCode : BreakerState → Option Nat
  | .failed r => some r.code
  | _ => none

/-- The window of a breaker state. -/
def BreakerState.windowEnd : BreakerState → Option Nat
  | .closing e => some e
  | .opening _ e => some e
  | _ => none

/-- The age of the DC-link value in units of 10 ms, rounded up, held at 65535 (11.1.6, log 20). -/
def ageUnits (now arrival : Nat) : Nat := min 65535 ((now - arrival + (Config.ms 10 - 1)) / Config.ms 10)

/-- READ-CONNECTION, selector 8 (R159); HEALTHY is 0 and UNHEALTHY is 1, FREE is 0 and BUSY is 1 (11.1.6). The serving
string, absent while the path is FREE (R141), has its presence bit behind the path. -/
def State.breakerWords (s : State) : List Word :=
  let b := s.breaker
  pack (fld 3 b.state.code ++ opt 1 b.state.openingCode ++ opt 2 b.state.failCode ++
    opt 9 (b.state.windowEnd.map (millisLeft s.now)) ++ opt 9 (b.feedbackTimer.map (millisLeft s.now)) ++
    bit b.commandedClosed ++ bit b.feedback ++ bit (!b.grid.taken) ++ bit b.gridAvailable ++
    opt 10 (b.reconnectEnd.map (secondsLeft s.now)) ++ bit b.armed ++ bit s.serving.isSome ++
    opt 3 (s.serving.map (·.val)) ++
    (match s.link.dc with
     | some d => [⟨1, 1⟩, ⟨16, d.voltage⟩, ⟨16, ageUnits s.now d.arrival⟩]
     | none => [⟨1, 0⟩, ⟨16, 0⟩, ⟨16, 0⟩]))

/-- READ-CONNECTION at its owner (R159). -/
def ownerReadConnection (selector : Word) (s : State) : State × Answer :=
  if selector = 8 then (s, done s.breakerWords)
  else
    match stringOf selector with
    | some i => (s, done (s.contactors[i].words s.now))
    | none => (s, refuse .field)

/-- READ-CONNECTION (R159). -/
def execReadConnection (selector : Word) (s : State) : Host.Outcome State Fault Refusal :=
  .next (s.takeOrder (.readConnection selector) (ownerReadConnection selector))

/-- The timeout of a link state. -/
def LinkState.timeoutEnd : LinkState → Option Nat
  | .up e => some e
  | .down => none

/-- READ-LINK's results (R173). The rate, absent until the start-up profile load (R164), has its presence bit (11.1.6). -/
def Link.words (l : Link) (now : Nat) : List Word :=
  pack (fld 1 l.state.code ++ opt 4 (l.state.timeoutEnd.map (secondsLeft now)) ++ opt 2 (l.rate.map (·.code)) ++
    fld 3 l.queue.length ++ fld 2 l.transmitter.code ++ bit l.overrun ++ opt 3 (l.lastBad.map (·.code)) ++
    (match l.dc with
     | some d => [⟨1, 1⟩, ⟨16, d.voltage⟩, ⟨16, ageUnits now d.arrival⟩, ⟨16, signed 16 d.current⟩]
     | none => [⟨1, 0⟩, ⟨16, 0⟩, ⟨16, 0⟩, ⟨16, 0⟩]) ++
    fld 8 l.noticeCount.toNat)

/-- READ-LINK at its owner: the overrun mark is returned and then cleared (R173). -/
def ownerReadLink (s : State) : State × Answer :=
  ({ s with link := { s.link with overrun := false } }, done (s.link.words s.now))

/-- READ-LINK (R173). -/
def execReadLink (s : State) : Host.Outcome State Fault Refusal := .next (s.takeOrder .readLink ownerReadLink)

/-! ### READ-CLOCK, READ-PROFILE -/

/-- Day and second of the day as results (R194). -/
def SiteTime.words (t : SiteTime) : List Word := pack (fld 16 t.day ++ fld 17 t.second)

/-- READ-CLOCK at its owner (R194). -/
def ownerReadClock (s : State) : State × Answer := (s, done s.unit.clock.words)

/-- READ-CLOCK (R194). -/
def execReadClock (s : State) : Host.Outcome State Fault Refusal := .next (s.takeOrder .readClock ownerReadClock)

/-- The start-up record as fields (R196, R191). -/
def StartUp.fields (u : StartUp) (now : Nat) : List Field :=
  (match u.phase with
   | .running e => fld 1 0 ++ opt 1 none ++ opt 5 (some (secondsLeft now e))
   | .ended .complete => fld 1 1 ++ opt 1 (some 0) ++ opt 5 none
   | .ended .timeLimit => fld 1 1 ++ opt 1 (some 1) ++ opt 5 none) ++
  u.buses.toList.flatMap fun b => fld 3 b.progress.code ++ bit b.stuckSeen

/-- The status of READ-PROFILE, field code 0 (R191); GOOD is 0 and BAD is 1, COMMITTED is 0 and UNCOMMITTED is 1
(11.1.6). An erased checksum reads as a free value (log 14). -/
def State.statusWords (s : State) : List Word :=
  pack (fld 2 s.unit.mode.code ++ bit (!s.unit.storedGood) ++ bit (!s.unit.committed) ++
    fld 16 (s.unit.stored.checksum.getD (Config.erasedChecksum s.draws)).toNat ++ s.unit.startUp.fields s.now)

/-- READ-PROFILE at its owner (R191): working value and stored value of a field. -/
def ownerReadProfile (field index : Word) (s : State) : State × Answer :=
  if field = 0 then (s, done s.statusWords)
  else
    match writableField field.toNat index.toNat with
    | none => (s, refuse .field)
    | some i =>
      let w := fieldWidth field.toNat
      (s, done (pack (fld w (fieldNat s.unit.working.words field.toNat i) ++
        fld w (fieldNat s.unit.stored.words field.toNat i))))

/-- READ-PROFILE (R191). -/
def execReadProfile (field index : Word) (s : State) : Host.Outcome State Fault Refusal :=
  .next (s.takeOrder (.readProfile field index) (ownerReadProfile field index))

end Sys2Proof.Machine
end

