-- ==== Sys2Proof/Machine/PlantOrders.lean ====
section
/-! DEFINITION. The plant orders: CLOSE-BREAKER, OPEN-BREAKER, RESET-BREAKER, CLEAR-CONTACTOR (chapter 7), RESET-BAY,
RELEASE-NOW (chapter 5) and ROLLCALL (chapter 4). -/

namespace Sys2Proof.Machine

/-- The breaker state as results (11.1.6). -/
def Breaker.stateWords (b : Breaker) : List Word := pack (fld 3 b.state.code)

/-- CLOSE-BREAKER at its owner (R153). Its result gives the state CLOSING. -/
def ownerCloseBreaker (s : State) : State × Answer :=
  match s.breaker.state with
  | .closing _ => (s, refuse .busy)
  | .opened =>
    if s.connectLive then (s.closeBreaker, done (pack (fld 3 (BreakerState.closing 0).code)))
    else (s, refuse .conflict)
  | .closed | .opening _ _ | .tripped | .failed _ => (s, refuse .state)

/-- CLOSE-BREAKER (R153). -/
def execCloseBreaker (s : State) : Host.Outcome State Fault Refusal :=
  .next (s.takeOrder .closeBreaker ownerCloseBreaker)

/-- OPEN-BREAKER at its owner (R154). -/
def ownerOpenBreaker (s : State) : State × Answer := (s.openBreaker, done s.openBreaker.breaker.stateWords)

/-- OPEN-BREAKER (R154). -/
def execOpenBreaker (s : State) : Host.Outcome State Fault Refusal := .next (s.takeOrder .openBreaker ownerOpenBreaker)

/-- RESET-BREAKER at its owner (R157). -/
def ownerResetBreaker (s : State) : State × Answer :=
  match s.breaker.state with
  | .tripped | .failed _ =>
    if s.breaker.feedback then (s, refuse .state)
    else
      let s1 := s.setBreaker (s.breaker.enter .opened s.now)
      (s1, done s1.breaker.stateWords)
  | .opened | .closing _ | .closed | .opening _ _ => (s, refuse .state)

/-- RESET-BREAKER (R157). -/
def execResetBreaker (s : State) : Host.Outcome State Fault Refusal :=
  .next (s.takeOrder .resetBreaker ownerResetBreaker)

/-- A FAILED contactor cleared (R148). -/
def Contactor.cleared (c : Contactor) (now : Nat) : Contactor :=
  Contactor.enter { c with failures := 0, retryEnd := none } .opened now

/-- The contactor state as results (11.1.6). -/
def Contactor.stateWords (c : Contactor) : List Word := pack (fld 3 c.state.code)

/-- CLEAR-CONTACTOR at its owner (R148). -/
def ownerClearContactor (string : Word) (s : State) : State × Answer :=
  match stringOf string with
  | none => (s, refuse .field)
  | some i =>
    if s.contactors[i].state.isFailed && !s.contactors[i].feedback then
      let s1 := (s.setContactor i (s.contactors[i].cleared s.now)).settle
      (s1, done s1.contactors[i].stateWords)
    else (s, refuseWith .state s.contactors[i].stateWords)

/-- CLEAR-CONTACTOR (R148). -/
def execClearContactor (string : Word) (s : State) : Host.Outcome State Fault Refusal :=
  .next (s.takeOrder (.clearContactor string) (ownerClearContactor string))

/-- The bay state as results (11.1.6). -/
def FireRec.stateWords (r : FireRec) : List Word := pack (fld 3 r.state.code)

/-- The active count and the four source conditions as results (R115). -/
def FireRec.activeWords (r : FireRec) : List Word :=
  pack (fld 3 r.activeCount ++ fld 2 r.smokeA.condition.code ++ fld 2 r.smokeB.condition.code ++ fld 2 r.gas.code ++
    fld 2 r.heat.code)

/-- A bay of the alarm class returned to QUIET (R115). -/
def State.quietBay (s : State) (k : Fin 4) : State := s.setFireTable (put s.fire k { s.fire[k] with state := .quiet })

/-- RESET-BAY at its owner (R115). -/
def ownerResetBay (bay : Word) (s : State) : State × Answer :=
  match bayOfWord bay with
  | none => (s, refuse .field)
  | some k =>
    match s.fire[k].state with
    | .quiet | .preAlarm => (s, done s.fire[k].stateWords)
    | .released (some _) => (s, refuse .busy)
    | .alarm | .countdown _ | .released none =>
      if 1 ≤ s.fire[k].activeCount then (s, refuseWith .active s.fire[k].activeWords)
      else
        let s1 := (s.quietBay k).settle
        (s1, done s1.fire[k].stateWords)

/-- RESET-BAY (R115). -/
def execResetBay (bay : Word) (s : State) : Host.Outcome State Fault Refusal :=
  .next (s.takeOrder (.resetBay bay) (ownerResetBay bay))

/-- A bay taken to RELEASED (R112, R114). -/
def State.releaseBay (s : State) (k : Fin 4) : State := s.setFireTable (put s.fire k (s.fire[k].release s.now))

/-- RELEASE-NOW at its owner (R114). -/
def ownerReleaseNow (bay : Word) (s : State) : State × Answer :=
  match bayOfWord bay with
  | none => (s, refuse .field)
  | some k =>
    match s.fire[k].state with
    | .alarm | .countdown _ =>
      let s1 := (s.releaseBay k).settle
      (s1, done s1.fire[k].stateWords)
    | .released _ => (s, done s.fire[k].stateWords)
    | .quiet | .preAlarm => (s, refuseWith .state s.fire[k].stateWords)

/-- RELEASE-NOW (R114). -/
def execReleaseNow (bay : Word) (s : State) : Host.Outcome State Fault Refusal :=
  .next (s.takeOrder (.releaseNow bay) (ownerReleaseNow bay))

/-- The bus with its requested field set (R91). -/
def Bus.request (b : Bus) : Bus := { b with rollCall := { b.rollCall with requested := true } }

/-- A roll call of a bus in POLLING: at the end of the frame in progress, or at once when there is none (R77, R92). -/
def State.switchToRollCall (s : State) (b : Fin 8) : State :=
  if s.buses[b].frame.isSome then s.setBus b { s.buses[b] with switchPending := true } else s.toRollCall b

/-- The answers of ROLLCALL by their places: "started", "already in progress" (R91, 11.1.6). -/
def startedWords : List Word := pack (fld 1 0)

/-- "already in progress" (R91). -/
def inProgressWords : List Word := pack (fld 1 1)

/-- ROLLCALL at its owner (R79, R91). -/
def ownerRollcall (bus : Word) (s : State) : State × Answer :=
  match stringOf bus with
  | none => (s, refuse .field)
  | some b =>
    match s.buses[b].state with
    | .polling => (((s.setBus b s.buses[b].request).switchToRollCall b).settle, done startedWords)
    | .rollcall | .selftest _ | .waking _ _ => (s.setBus b s.buses[b].request, done inProgressWords)
    | .off => (s, refuse .scope)
    | .stuck _ _ | .failed _ => (s, refuse .state)

/-- ROLLCALL (R91). -/
def execRollcall (bus : Word) (s : State) : Host.Outcome State Fault Refusal :=
  .next (s.takeOrder (.rollcall bus) (ownerRollcall bus))

end Sys2Proof.Machine
end

