-- ==== Sys2Proof/Machine/FireEvents.lean ====
section
/-! DEFINITION. The events of the Fire Controller (chapter 5): SMOKE_LINE_CHANGE, SMOKE_CONDITION_TAKEN,
HOLD_BUTTON_CHANGE, HOLD_BUTTON_TAKEN, COUNTDOWN_END and RELEASE_PULSE_END. -/

namespace Sys2Proof.Machine

/-- A smoke line of a bay (R102). -/
def FireRec.line (r : FireRec) (l : SmokeId) : SmokeLine :=
  match l with
  | .a => r.smokeA
  | .b => r.smokeB

/-- A smoke line of a bay replaced. -/
def FireRec.setLine (r : FireRec) (l : SmokeId) (x : SmokeLine) : FireRec :=
  match l with
  | .a => { r with smokeA := x }
  | .b => { r with smokeB := x }

/-- SMOKE_LINE_CHANGE (R102): the new combination becomes the candidate. -/
def execSmokeLineChange (bay : Fin 4) (line : SmokeId) (pair : SmokePair) (s : State) :
    Host.Outcome State Fault Refusal :=
  .next (
    let x := s.fire[bay].line line
    if pair = x.level then s
    else s.setFire bay (s.fire[bay].setLine line { x with candidate := some ⟨pair, s.now⟩ }))

/-- SMOKE_CONDITION_TAKEN (R102). The candidate is absent once taken: R100 lists it as part of a field that is present
always, and no rule says what becomes of it. DESIGN CHOICE (log 45). -/
def execSmokeConditionTaken (bay : Fin 4) (line : SmokeId) (s : State) : Host.Outcome State Fault Refusal :=
  .next (
    match (s.fire[bay].line line).candidate with
    | none => s
    | some x =>
      (s.setFire bay (s.fire[bay].setLine line ⟨SmokePair.condition x.level, x.level, none⟩)).settle)

/-- HOLD_BUTTON_CHANGE (R110): the new level becomes the candidate. -/
def execHoldButtonChange (bay : Fin 4) (pressed : Bool) (s : State) : Host.Outcome State Fault Refusal :=
  .next (
    if pressed = s.fire[bay].hold.level then s
    else s.setFire bay { s.fire[bay] with hold := s.fire[bay].hold.change pressed s.now })

/-- HOLD_BUTTON_TAKEN (R110); the candidate is absent once taken. DESIGN CHOICE (log 45). -/
def execHoldButtonTaken (bay : Fin 4) (s : State) : Host.Outcome State Fault Refusal :=
  .next (
    if s.fire[bay].hold.candidate.isSome then
      (s.setFire bay { s.fire[bay] with hold := s.fire[bay].hold.take }).settle
    else s)

/-- COUNTDOWN_END (R112). -/
def execCountdownEnd (bay : Fin 4) (s : State) : Host.Outcome State Fault Refusal :=
  .next (
    match s.fire[bay].state with
    | .countdown _ => (s.releaseBay bay).settle
    | .quiet | .preAlarm | .alarm | .released _ => s)

/-- RELEASE_PULSE_END (R113). -/
def execReleasePulseEnd (bay : Fin 4) (s : State) : Host.Outcome State Fault Refusal :=
  .next (
    match s.fire[bay].state with
    | .released (some _) => s.setFire bay { s.fire[bay] with state := .released none, releaseOutput := false }
    | .released none | .quiet | .preAlarm | .alarm | .countdown _ => s)

end Sys2Proof.Machine
end

