-- ==== Sys2Proof/Machine/PermitOrders.lean ====
section
/-! DEFINITION. The permit orders: GRANT, AMEND, RENEW, REVOKE and RETIRE (chapter 1). -/

namespace Sys2Proof.Machine

/-! ### GRANT (R4 to R9) -/

/-- A first failing check: the refusal of a condition, else of the rest. -/
def orElse (a b : Option RefCode) : Option RefCode :=
  match a with
  | some r => some r
  | none => b

/-- A check that refuses with a code while a condition holds. -/
def refuseWhen (c : Bool) (code : RefCode) : Option RefCode := if c then some code else none

/-- Whether a kind draws on envelopes. -/
def Kind.hasLimit : Kind → Bool
  | .charge => true
  | .discharge => true
  | _ => false

/-- Whether a kind may be granted in a mode (R5). -/
def Kind.allowedIn (k : Kind) (m : Mode) : Bool :=
  match k with
  | .connect => m == .operating
  | .charge => m == .operating
  | .discharge => m == .operating
  | .isolate => true
  | .entry => true

/-- Whether a kind accepts a holder (R5). -/
def Kind.accepts : Kind → Holder → Bool
  | .connect, .station => true
  | .charge, .station => true
  | .charge, .converter => true
  | .discharge, .station => true
  | .discharge, .converter => true
  | .isolate, .station => true
  | .entry, .crew => true
  | _, _ => false

/-- Whether a scope is refused SCOPE (R5). -/
def scopeRefused (kind : Kind) (scope fitted : BitVec 8) : Bool :=
  (scope &&& ~~~fitted) != 0 || (if kind == .connect then scope != 0 else scope == 0)

/-- Whether an expiry is out of range or not ahead of the clock (R6). -/
def expiryRefused (e : Option SiteTime) (clock : SiteTime) : Bool :=
  match e with
  | none => false
  | some t => decide (86399 < t.second) || t.atOrBefore clock

/-- Whether an optional number lies outside a range. -/
def outside (x : Option Nat) (low high : Nat) : Bool :=
  match x with
  | none => false
  | some v => decide (v < low) || decide (high < v)

/-- Whether a grant is refused FIELD (R6). -/
def grantFieldRefused (kind : Kind) (holder : Holder) (o : GrantOps) (clock : SiteTime) : Bool :=
  (kind.hasLimit && o.limit.isNone) || (!kind.hasLimit && o.limit.isSome) || outside o.limit 1 8000 ||
  (holder == .crew && o.lease.isSome) || outside o.lease 1 60 ||
  ((kind == .isolate || kind == .entry) && o.expiry.isSome) || expiryRefused o.expiry clock ||
  (o.autoReclose && kind != .connect)

/-- Whether some bay in an alarm state meets a grant (R7). -/
def State.fireMeets (s : State) (kind : Kind) (scope : BitVec 8) : Bool :=
  allBays.any fun k => s.fire[k].state.inAlarm &&
    (match kind with
     | .connect => true
     | .isolate => false
     | .charge => meetsBay scope k
     | .discharge => meetsBay scope k
     | .entry => meetsBay scope k)

/-- Whether a grant clashes with a standing permit (R8). -/
def State.clashes (s : State) (kind : Kind) (scope : BitVec 8) : Bool :=
  s.anyPermit fun p => p.kind == kind && p.standing &&
    (match kind with
     | .connect => true
     | .entry => false
     | .charge => (p.scope &&& scope) != 0
     | .discharge => (p.scope &&& scope) != 0
     | .isolate => (p.scope &&& scope) != 0)

/-- The checks of a GRANT in their order (R4 to R8). -/
def State.grantRefusal (s : State) (kind : Kind) (holder : Holder) (o : GrantOps) : Option RefCode :=
  orElse (refuseWhen (!kind.allowedIn s.unit.mode) .mode) <|
  orElse (refuseWhen (!kind.accepts holder) .holder) <|
  orElse (refuseWhen (scopeRefused kind o.scope s.unit.active.fitted) .scope) <|
  orElse (refuseWhen (grantFieldRefused kind holder o s.unit.clock) .field) <|
  orElse (refuseWhen (holder == .converter && o.lease.isNone) .lease) <|
  orElse (refuseWhen (kind == .entry && !s.crewKey) .key) <|
  orElse (refuseWhen (s.fireMeets kind o.scope) .fire) <|
  orElse (refuseWhen (s.clashes kind o.scope) .conflict) <|
  refuseWhen s.freeSlot.isNone .full

/-- The state and reason a grant enters (R9). -/
def State.grantEntry (s : State) (kind : Kind) (scope : BitVec 8) (target : Nat) : PermitState × Option Reason :=
  match kind with
  | .connect => if s.breaker.gridAvailable then (.live, none) else (.suspended, some .grid)
  | .isolate => (.pending, none)
  | .entry => (.live, none)
  | .charge | .discharge =>
    if 0 < target then (.live, none)
    else (.suspended, some (.envelope (s.restricting scope).1 (s.restricting scope).2))

/-- The record a grant writes (R9). -/
def State.grantedPermit (s : State) (kind : Kind) (holder : Holder) (o : GrantOps) : Permit :=
  let requested := o.limit.getD 0
  let target := min requested (s.envelopeSum kind o.scope)
  { kind := kind
    holder := holder
    state := (s.grantEntry kind o.scope target).1
    scope := o.scope
    limits := if kind.hasLimit then some ⟨requested, target, none⟩ else none
    leasePeriod := o.lease
    leaseEnd := o.lease.map fun p => s.now + Config.sec p
    expiry := o.expiry
    autoReclose := o.autoReclose
    reason := (s.grantEntry kind o.scope target).2
    changed := false
    holdEnd := none
    notice := holder == .converter }

/-- A grant completed in a slot, with its hand-offs (R9, R24, R25, R156). -/
def State.completeGrant (s : State) (i : Fin 48) (kind : Kind) (holder : Holder) (o : GrantOps) : State :=
  let s1 := s.setPermit i (s.grantedPermit kind holder o)
  let s2 := if kind == .connect then s1.arm o.autoReclose else s1
  s2.settleWith (some i)

/-- State and effective limit of a slot as results (11.1.6). The effective limit has no presence bit and reads 0 for a kind
without one (log 16). -/
def State.slotFields (s : State) (i : Fin 48) : List Field :=
  match s.slots[i].permit with
  | some p => fld 3 p.state.code ++ fld 13 p.effective
  | none => fld 3 0 ++ fld 13 0

/-- GRANT at its owner (R4). -/
def ownerGrant (op0 op1 op2 op3 op4 op5 : Word) (s : State) : State × Answer :=
  let o := GrantOps.decode op0 op1 op2 op3 op4 op5
  match Kind.ofCode o.kindCode, Holder.ofCode o.holderCode with
  | some kind, some holder =>
    match s.grantRefusal kind holder o, s.freeSlot with
    | some r, _ => (s, refuse r)
    | none, none => (s, refuse .full)
    | none, some i =>
      let s1 := s.completeGrant i kind holder o
      (s1, done (pack (fld 16 (s1.handleOf i).word.toNat ++ s1.slotFields i)))
  | _, _ => (s, refuse .field)

/-- GRANT (R4). -/
def execGrant (op0 op1 op2 op3 op4 op5 : Word) (s : State) : Host.Outcome State Fault Refusal :=
  .next (s.takeOrder (.grant op0 op1 op2 op3 op4 op5) (ownerGrant op0 op1 op2 op3 op4 op5))

/-! ### AMEND (R26) -/

/-- Whether an AMEND names any change. -/
def AmendOps.anyChange (o : AmendOps) : Bool :=
  o.limit.isSome || o.leaseSet.isSome || o.leaseRemove || o.expirySet.isSome || o.expiryRemove || o.autoReclose.isSome

/-- Whether an AMEND sets and removes the same thing (R198). -/
def AmendOps.contradicts (o : AmendOps) : Bool :=
  (o.leaseSet.isSome && o.leaseRemove) || (o.expirySet.isSome && o.expiryRemove)

/-- The checks of an AMEND on a resolved permit, in their order (R26, R198). The model reads "Lease period for a CREW
holder" as a lease set: removing the lease that a CREW holder cannot have is allowed and has no effect. DEDUCED (log 22). -/
def Permit.amendRefusal (p : Permit) (o : AmendOps) (clock : SiteTime) : Option RefCode :=
  orElse (refuseWhen (p.state == .revoked) .state) <|
  orElse (refuseWhen (o.fixedNamed || o.contradicts) .field) <|
  orElse (refuseWhen (!o.anyChange) .field) <|
  orElse (refuseWhen ((o.limit.isSome && !p.kind.hasLimit) || outside o.limit 1 8000) .field) <|
  orElse (refuseWhen ((o.leaseSet.isSome && p.holder == .crew) || outside o.leaseSet 1 60) .field) <|
  orElse (refuseWhen (o.leaseRemove && p.holder == .converter) .lease) <|
  orElse (refuseWhen ((o.expirySet.isSome && (p.kind == .isolate || p.kind == .entry)) ||
    expiryRefused o.expirySet clock) .field) <|
  refuseWhen (o.autoReclose.isSome && p.kind != .connect) .field

/-- The record with the changes of an AMEND (R26). -/
def Permit.amended (p : Permit) (o : AmendOps) (now : Nat) : Permit :=
  { p with
    limits := p.limits.map fun l => ⟨o.limit.getD l.requested, l.effective, l.rise⟩
    leasePeriod := if o.leaseRemove then none else o.leaseSet.or p.leasePeriod
    leaseEnd := if o.leaseRemove then none else (o.leaseSet.map fun x => now + Config.sec x).or p.leaseEnd
    expiry := if o.expiryRemove then none else o.expirySet.or p.expiry
    autoReclose := o.autoReclose.getD p.autoReclose }

/-- AMEND at its owner (R26). -/
def ownerAmend (handle change op2 op3 op4 op5 : Word) (s : State) : State × Answer :=
  match s.resolve (Handle.ofWord handle) with
  | none => (s, refuse .stale)
  | some (i, p) =>
    let o := AmendOps.decode change op2 op3 op4 op5
    match p.amendRefusal o s.unit.clock with
    | some r => (s, refuse r)
    | none =>
      let s1 := s.setPermit i (p.amended o s.now)
      let s2 := (if o.limit.isSome then s1.retargetSlot .amend i else s1).settle
      (s2, done (pack (s2.slotFields i)))

/-- AMEND (R26). -/
def execAmend (handle change op2 op3 op4 op5 : Word) (s : State) : Host.Outcome State Fault Refusal :=
  .next (s.takeOrder (.amend handle change op2 op3 op4 op5) (ownerAmend handle change op2 op3 op4 op5))

/-! ### RENEW, REVOKE, RETIRE -/

/-- State and stored reason as results (R14, R22). -/
def Permit.stateReason (p : Permit) : List Word :=
  pack (fld 3 p.state.code ++ fld 4 ((p.reason.map Reason.report).getD .none).code)

/-- The record with its lease restarted (R13). -/
def Permit.renewed (p : Permit) (now : Nat) : Permit :=
  { p with leaseEnd := p.leasePeriod.map fun x => now + Config.sec x }

/-- RENEW at its owner (R14). Its effective limit has no presence bit and reads 0 for a kind without one, so lease remaining
always stands at bits 0 to 5 of result 1 (log 16). -/
def ownerRenew (handle : Word) (s : State) : State × Answer :=
  match s.resolve (Handle.ofWord handle) with
  | none => (s, refuse .stale)
  | some (i, p) =>
    if p.holder ≠ .station then (s, refuse .holder)
    else if p.leasePeriod.isNone then (s, refuse .field)
    else if p.state = .revoked then (s, refuseWith .state p.stateReason)
    else
      let p1 := p.renewed s.now
      (s.setPermit i p1,
        done (pack (fld 3 p1.state.code ++ fld 13 p1.effective ++ fld 6 (p1.leaseLeft s.now))))

/-- RENEW (R14). -/
def execRenew (handle : Word) (s : State) : Host.Outcome State Fault Refusal :=
  .next (s.takeOrder (.renew handle) (ownerRenew handle))

/-- REVOKE at its owner (R22). -/
def ownerRevoke (handle : Word) (s : State) : State × Answer :=
  match s.resolve (Handle.ofWord handle) with
  | none => (s, refuse .stale)
  | some (i, p) =>
    if p.state = .revoked then (s, refuseWith .state p.stateReason)
    else
      let s1 := (s.revokeSlot .station true i).settle
      (s1, done (match s1.slots[i].permit with
        | some q => q.stateReason
        | none => noResults))

/-- REVOKE (R22). -/
def execRevoke (handle : Word) (s : State) : Host.Outcome State Fault Refusal :=
  .next (s.takeOrder (.revoke handle) (ownerRevoke handle))

/-- RETIRE at its owner (R29). -/
def ownerRetire (handle : Word) (s : State) : State × Answer :=
  match s.resolve (Handle.ofWord handle) with
  | none => (s, refuse .stale)
  | some (i, _) =>
    let s1 := (s.retireSlot i).settle
    (s1, done (pack (fld 8 s1.slots[i].generation.toNat)))

/-- RETIRE (R29). -/
def execRetire (handle : Word) (s : State) : Host.Outcome State Fault Refusal :=
  .next (s.takeOrder (.retire handle) (ownerRetire handle))

end Sys2Proof.Machine
end

