-- ==== Sys2Proof/Machine/LinkEvents.lean ====
section
/-! DEFINITION. The events of the Converter Link (chapter 8): RENEW_FRAME, REDUCE_FRAME, HANDBACK_FRAME, QUERY_FRAME,
BAD_FRAME, LINK_CHARACTER_TAKEN, LINK_TIMEOUT, FRAME_SENT and TRANSMIT_GAP_END. -/

namespace Sys2Proof.Machine

/-- The link record replaced. -/
def State.setLink (s : State) (l : Link) : State := { s with link := l }

/-! ### What the Permit Manager answers (R15, R28, R30) -/

/-- The Permit Manager's answer to a frame: state code, effective limit and report value (R165). -/
structure FrameAnswer where
  stateCode : Nat
  limit : Nat
  report : Report
deriving DecidableEq, Repr

/-- The answer that a permit as it stands gives with a report value (R165). -/
def Permit.answerWith (p : Permit) (r : Report) : FrameAnswer := ⟨p.state.code, p.effective, r⟩

/-- The answer of one slot's permit as it stands, with its reported reason. -/
def State.answerOf (s : State) (i : Fin 48) : FrameAnswer :=
  match s.slots[i].permit with
  | some p => p.answerWith p.reported
  | none => ⟨0, 0, .none⟩

/-- A new limit of a REDUCE applied, with its recomputation of the target (R10, R28). -/
def State.reduceSlot (s : State) (i : Fin 48) (p : Permit) (limit : Nat) : State :=
  (s.setPermit i { p with limits := p.limits.map fun l => ⟨limit, l.effective, l.rise⟩ }).retargetSlot .reduce i

/-- REDUCE of a standing permit of the converter (R28). -/
def State.takeReduce (s : State) (i : Fin 48) (p : Permit) (limit : Nat) : State × FrameAnswer :=
  if limit = 0 then (s, p.answerWith .field)
  else if p.requested < limit then (s, p.answerWith .raise)
  else (s.reduceSlot i p limit, (s.reduceSlot i p limit).answerOf i)

/-- The Permit Manager takes a valid frame (R15, R28, R30). -/
def State.permitFrame (s : State) (kind : InKind) (h : Handle) (valueA : Word) : State × FrameAnswer :=
  match s.resolve h with
  | none => (s, ⟨0, 0, .stale⟩)
  | some (i, p) =>
    if p.holder ≠ .converter then (s, p.answerWith .holder)
    else
      match kind with
      | .handback => ((s.retireSlot i).raise .permit, ⟨0, 0, .handback⟩)
      | .query => (s, p.answerWith p.reported)
      | .renew =>
        if p.state = .revoked then (s, p.answerWith p.reported)
        else (s.setPermit i (p.renewed s.now), p.answerWith p.reported)
      | .reduce =>
        if p.state = .revoked then (s, p.answerWith p.reported) else s.takeReduce i p valueA.toNat

/-! ### Valid frames (R165) -/

/-- Step 1: the timeout restarts, and a link that was DOWN goes UP with the LINK flag (R165, R171). -/
def State.linkAlive (s : State) : State :=
  (s.setLink { s.link with state := .up (s.now + Config.ms (100 * s.unit.active.linkTimeout)), buffer := [] }).raiseIf
    (s.link.state == .down) .link

/-- Step 2: a RENEW stores the DC-link value with its arrival and the present current, and the match is checked (R142,
R170). -/
def State.storeDc (s : State) (f : InFrame) : State :=
  match f.kind with
  | .renew =>
    State.checkMatch (s.setLink { s.link with dc := some ⟨f.valueA.toNat, s.now, f.valueB.toInt⟩ })
  | .reduce | .handback | .query => s

/-- The STATE reply to a frame (R165, 8.2). -/
def FrameAnswer.reply (a : FrameAnswer) (f : InFrame) : OutFrame where
  kind := .state
  handle := f.handle
  limit := a.limit
  stateCode := BitVec.ofNat 8 a.stateCode
  report := BitVec.ofNat 8 a.report.code
  tag := f.tag

/-- Step 4: a reply placed at the tail of the queue (R166). -/
def State.enqueue (s : State) (r : OutFrame) : State := s.setLink { s.link with queue := s.link.queue ++ [r] }

/-- An overrun: step 1 alone, the overrun mark and the LINK flag (R165). -/
def State.overrun (s : State) : State :=
  (s.linkAlive.setLink { s.linkAlive.link with overrun := true }).raise .link

/-- Steps 2 to 4 of a frame that finds room in the reply queue (R165). -/
def State.serveFrame (s : State) (f : InFrame) : State :=
  let x := (s.storeDc f).permitFrame f.kind f.handle f.valueA
  x.1.enqueue (x.2.reply f)

/-- A valid frame taken (R165). Before the start-up profile load the link receives nothing (R160). -/
def State.takeFrame (s : State) (f : InFrame) : State :=
  if s.link.rate.isNone then s
  else if 4 ≤ s.link.queue.length then s.overrun.settle
  else (s.linkAlive.serveFrame f).settle

/-- RENEW_FRAME (R15). -/
def execRenewFrame (slot generation : Byte) (dcLink current : Word) (tag : Byte) (s : State) :
    Host.Outcome State Fault Refusal :=
  .next (s.takeFrame ⟨.renew, ⟨slot, generation⟩, dcLink, current, tag⟩)

/-- REDUCE_FRAME (R28). Value B is not used. -/
def execReduceFrame (slot generation : Byte) (limit : Word) (tag : Byte) (s : State) : Host.Outcome State Fault Refusal :=
  .next (s.takeFrame ⟨.reduce, ⟨slot, generation⟩, limit, 0, tag⟩)

/-- HANDBACK_FRAME (R30). Values A and B are not used. -/
def execHandbackFrame (slot generation tag : Byte) (s : State) : Host.Outcome State Fault Refusal :=
  .next (s.takeFrame ⟨.handback, ⟨slot, generation⟩, 0, 0, tag⟩)

/-- QUERY_FRAME (R15). Values A and B are not used. -/
def execQueryFrame (slot generation tag : Byte) (s : State) : Host.Outcome State Fault Refusal :=
  .next (s.takeFrame ⟨.query, ⟨slot, generation⟩, 0, 0, tag⟩)

/-! ### Bad frames and characters (R162, R163) -/

/-- A bad frame judged: its cause is recorded and the LINK flag set; the buffer holds what is left (R163). -/
def State.badFrame (s : State) (cause : BadCause) (buffer : List RxChar) : State :=
  (s.setLink { s.link with lastBad := some cause, buffer := buffer }).raise .link

/-- The cause a BAD_FRAME names. -/
def badCause : BadEnd → BadCause
  | .framing => .framing
  | .noise => .noise
  | .check => .check
  | .kind => .kind
  | .broken _ => .broken

/-- What a BAD_FRAME leaves in the buffer: nothing after a complete frame, the new mark after a broken one (R162). -/
def badBuffer : BadEnd → List RxChar
  | .broken mark => (linkReceive mark).toList.filter RxChar.isMark
  | .framing => []
  | .noise => []
  | .check => []
  | .kind => []

/-- BAD_FRAME (R163). -/
def execBadFrame (cause : BadEnd) (s : State) : Host.Outcome State Fault Refusal :=
  .next (if s.link.rate.isNone then s else s.badFrame (badCause cause) (badBuffer cause))

/-- A complete frame judged (R163): a valid frame is taken, any other is bad. -/
def State.judgeNine (s : State) (cs : List RxChar) : State :=
  match judgeFrame cs with
  | .ok f => s.takeFrame f
  | .error cause => s.badFrame cause []

/-- A character that joins the frame in progress; the ninth completes it (R162). -/
def State.joinFrame (s : State) (c : RxChar) : State :=
  if s.link.buffer.length + 1 < 9 then s.setLink { s.link with buffer := s.link.buffer ++ [c] }
  else s.judgeNine (s.link.buffer ++ [c])

/-- A character taken by the receiver (R162). -/
def State.takeCharacter (s : State) (c : RxChar) : State :=
  match s.link.buffer, c.isMark with
  | [], true => s.setLink { s.link with buffer := [c] }
  | [], false => s
  | _ :: _, true => s.badFrame .broken [c]
  | _ :: _, false => s.joinFrame c

/-- LINK_CHARACTER_TAKEN (R161, R162). A fall whose start bit reads high is a glitch. -/
def execLinkCharacterTaken (character : LinkChar) (s : State) : Host.Outcome State Fault Refusal :=
  .next (
    match s.link.rate, linkReceive character with
    | some _, some c => s.takeCharacter c
    | _, _ => s)

/-! ### Timeout and transmitter -/

/-- LINK_TIMEOUT (R171). -/
def execLinkTimeout (s : State) : Host.Outcome State Fault Refusal :=
  .next (
    match s.link.state with
    | .up _ => ((s.setLink { s.link with state := .down }).raise .link).settle
    | .down => s)

/-- FRAME_SENT (R167): a gap of two character times follows, at the frame's rate (R172). -/
def execFrameSent (s : State) : Host.Outcome State Fault Refusal :=
  .next (
    match s.link.transmitter with
    | .sending _ rate _ => s.setLink { s.link with transmitter := .gap (s.now + 2 * rate.charTime) }
    | .idle | .gap _ => s)

/-- TRANSMIT_GAP_END (R167): the transmitter is IDLE and begins its next frame, if any. -/
def execTransmitGapEnd (s : State) : Host.Outcome State Fault Refusal :=
  .next (
    match s.link.transmitter with
    | .gap _ => State.linkStage (s.setLink { s.link with transmitter := .idle })
    | .idle | .sending _ _ _ => s)

end Sys2Proof.Machine
end

