-- ==== Sys2Proof/Machine/PermitEvents.lean ====
section
/-! DEFINITION. Permit timers, the crew key line and the door contact: LEASE_LAPSE, RISE_HOLD_END, REVOKED_HOLD_END
(chapter 1), CREW_KEY_CHANGE (R21), DOOR_CONTACT_CHANGE and DOOR_TAKEN (R48). -/

namespace Sys2Proof.Machine

/-- LEASE_LAPSE (R13): a permit whose lease runs becomes REVOKED with reason LEASE. -/
def execLeaseLapse (slot : Fin 48) (s : State) : Host.Outcome State Fault Refusal :=
  .next (
    match s.slots[slot].permit with
    | some p => if p.standing && p.leaseEnd.isSome then (s.revokeSlot .lease false slot).settle else s
    | none => s)

/-- A pending rise applied (R12). -/
def Permit.applyPending (p : Permit) (l : Limits) (r : Rise) : Permit :=
  let p1 := { p with limits := some ⟨l.requested, r.value, none⟩, changed := true }
  match p.state, p.reason with
  | .suspended, some (.envelope _ _) => { p1 with state := .live, reason := none }
  | _, _ => p1

/-- The rise hold of a slot's permit ends: the pending value becomes the effective limit, and the target is recomputed
(R10, R12). -/
def State.endRise (s : State) (slot : Fin 48) (p : Permit) (l : Limits) (r : Rise) : State :=
  ((s.setPermit slot (p.applyPending l r)).raise .permit).retargetSlot .other slot

/-- RISE_HOLD_END (R12). -/
def execRiseHoldEnd (slot : Fin 48) (s : State) : Host.Outcome State Fault Refusal :=
  .next (
    match s.slots[slot].permit with
    | none => s
    | some p =>
      match p.limits with
      | none => s
      | some l =>
        match l.rise with
        | none => s
        | some r => if p.liveOrSuspended then (s.endRise slot p l r).settle else s)

/-- REVOKED_HOLD_END (R31): a REVOKED permit is retired, and the PERMIT flag set. -/
def execRevokedHoldEnd (slot : Fin 48) (s : State) : Host.Outcome State Fault Refusal :=
  .next (
    match s.slots[slot].permit with
    | some p =>
      if p.state == .revoked && p.holdEnd.isSome then ((s.retireSlot slot).raise .permit).settle else s
    | none => s)

/-- The crew key line as read (R7, R21). -/
def State.setKey (s : State) (on : Bool) : State := { s with crewKey := on }

/-- CREW_KEY_CHANGE (R21): turning off revokes every LIVE ENTRY with reason KEY; a level the line already has is no
change. -/
def execCrewKeyChange (on : Bool) (s : State) : Host.Outcome State Fault Refusal :=
  .next (
    if on = s.crewKey then s
    else if on then s.setKey true
    else ((s.setKey false).revokeWhere (fun p => p.kind == .entry && p.state == .live) .key).settle)

/-- DOOR_CONTACT_CHANGE (R48): the new level becomes the candidate. -/
def execDoorContactChange (isOpen : Bool) (s : State) : Host.Outcome State Fault Refusal :=
  .next (if isOpen = s.door.level then s else { s with door := s.door.change isOpen s.now })

/-- DOOR_TAKEN (R48). -/
def execDoorTaken (s : State) : Host.Outcome State Fault Refusal :=
  .next (if s.door.candidate.isSome then State.settle { s with door := s.door.take } else s)

end Sys2Proof.Machine
end

