-- ==== Sys2Proof/Machine/PortCommands.lean ====
section
/-! DEFINITION. Window writes as commands: RUN, STOP, ORDER_MEMORY_WRITE, ATTENTION_SUMMARY_WRITE,
ATTENTION_ENABLE_WRITE and WINDOW_WRITE_OTHER (chapter 9, R197). -/

namespace Sys2Proof.Machine

/-- RUN (R177). -/
def execRun (slot : BitVec 5) (s : State) : Host.Outcome State Fault Refusal :=
  .next ((s.runCommand slot).wrote 0x200)

/-- STOP (R178). -/
def execStop (s : State) : Host.Outcome State Fault Refusal := .next (s.stopCommand.wrote 0x200)

/-- The window address of a word of a slot as ten bits (11.1.1). -/
def slotWordAddress (slot : BitVec 5) (word : BitVec 4) : BitVec 10 := (0#1 ++ slot) ++ word

/-- ORDER_MEMORY_WRITE (R174, R183). -/
def execOrderMemoryWrite (slot : BitVec 5) (word : BitVec 4) (value : Word) (s : State) :
    Host.Outcome State Fault Refusal :=
  .next ((s.windowWrite (slotWordAddress slot word) value).wrote (slotWordAddress slot word))

/-- ATTENTION_SUMMARY_WRITE (R185). -/
def execAttentionSummaryWrite (value : Word) (s : State) : Host.Outcome State Fault Refusal :=
  .next ((s.windowWrite 0x203 value).wrote 0x203)

/-- ATTENTION_ENABLE_WRITE (R186). -/
def execAttentionEnableWrite (value : Word) (s : State) : Host.Outcome State Fault Refusal :=
  .next ((s.windowWrite 0x204 value).wrote 0x204)

/-- WINDOW_WRITE_OTHER (R174): a write to any window address, taken by its area; an address of no writable area has no
effect. -/
def execWindowWriteOther (address : BitVec 10) (value : Word) (s : State) : Host.Outcome State Fault Refusal :=
  .next ((s.windowWrite address value).wrote address)

end Sys2Proof.Machine
end

