-- ==== Sys2Proof/Machine/SiteOrders.lean ====
section
/-! DEFINITION. The site orders: SET-CLOCK, SET-MODE, WRITE-PROFILE, COMMIT-PROFILE, and the completion of a commit with
its hand-offs (chapter 10; R44, R78, R92, R120, R136, R150, R172). -/

namespace Sys2Proof.Machine

/-- The Mode and Profile Unit replaced. -/
def State.setUnit (s : State) (u : ProfileUnit) : State := { s with unit := u }

/-- The clock takes two values, and the second in progress is discarded (R194). -/
def State.takeClock (s : State) (t : SiteTime) : State :=
  s.setUnit { s.unit with clock := t, nextSecond := s.now + Config.sec 1 }

/-- SET-CLOCK at its owner (R194). -/
def ownerSetClock (day second secondHigh : Word) (s : State) : State × Answer :=
  let sec := secondOf second (bitsOf secondHigh 0 1)
  if 86399 < sec then (s, refuseWith .field s.unit.clock.words)
  else
    let s1 := ((s.takeClock ⟨day.toNat, sec⟩).expiryCheck).settle
    (s1, done s1.unit.clock.words)

/-- SET-CLOCK (R194). -/
def execSetClock (day second secondHigh : Word) (s : State) : Host.Outcome State Fault Refusal :=
  .next (s.takeOrder (.setClock day second secondHigh) (ownerSetClock day second secondHigh))

/-- The mode as results (11.1.6). -/
def Mode.words (m : Mode) : List Word := pack (fld 2 m.code)

/-- The refusal of a SET-MODE to a mode other than the present one (R188). -/
def State.modeRefusal (s : State) (m : Mode) : Option RefCode :=
  match s.unit.mode, m with
  | .operating, .commissioning => some .state
  | .operating, .maintenance => if s.crewKey then none else some .key
  | _, .operating => if s.unit.valid then none else some .profile
  | _, _ => none

/-- What leaving OPERATING revokes (R20). -/
def Permit.endsWithOperating (p : Permit) : Bool :=
  (p.kind == .connect || p.kind == .charge || p.kind == .discharge) && p.liveOrSuspended

/-- The new mode written and handed on (R189). -/
def State.changeMode (s : State) (m : Mode) : State :=
  let s1 := s.setUnit { s.unit with mode := m }
  (if s.unit.mode == .operating && m == .maintenance then s1.revokeWhere Permit.endsWithOperating .mode else s1).settle

/-- SET-MODE at its owner (R188). -/
def ownerSetMode (mode : Word) (s : State) : State × Answer :=
  match Mode.ofCode mode.toNat with
  | none => (s, refuseWith .field s.unit.mode.words)
  | some m =>
    if m = s.unit.mode then (s, done s.unit.mode.words)
    else
      match s.modeRefusal m with
      | some r => (s, refuseWith r s.unit.mode.words)
      | none => (s.changeMode m, done m.words)

/-- SET-MODE (R188). -/
def execSetMode (mode : Word) (s : State) : Host.Outcome State Fault Refusal :=
  .next (s.takeOrder (.setMode mode) (ownerSetMode mode))

/-- The working value of a field as results (R191). -/
def State.fieldWords (s : State) (code : Nat) (i : Fin 8) : List Word :=
  pack (fld (fieldWidth code) (fieldNat s.unit.working.words code i))

/-- WRITE-PROFILE at its owner (R191). Bits 23 to 16 of the value are bits 7 to 0 of operand word 3, and its bits 15 to 8 are
ignored: 11.1.4 names no place in that word (R198). DEDUCED (log 43). -/
def ownerWriteProfile (field index valueLow valueHigh : Word) (s : State) : State × Answer :=
  let v := valueLow.toNat + 65536 * bitsOf valueHigh 0 8
  match writableField field.toNat index.toNat with
  | none => (s, refuse .field)
  | some i =>
    if inRange field.toNat v then
      let s1 := s.setUnit { s.unit with working := s.unit.working.write field.toNat i v, committed := false }
      (s1, done (s1.fieldWords field.toNat i))
    else (s, refuseWith .field (s.fieldWords field.toNat i))

/-- WRITE-PROFILE (R191). -/
def execWriteProfile (field index valueLow valueHigh : Word) (s : State) : Host.Outcome State Fault Refusal :=
  .next (s.takeOrder (.writeProfile field index valueLow valueHigh)
    (ownerWriteProfile field index valueLow valueHigh))

/-! ### COMMIT-PROFILE (R192) -/

/-- The commit taken: the stored checksum is erased and the stored check BAD, and the writing begins (R192). -/
def State.beginCommit (s : State) : State :=
  s.setUnit { s.unit with
    stored := ⟨s.unit.stored.words, none⟩
    storedGood := false
    writing := some (s.unit.writing.getD s.now) }

/-- The order in progress has been taken by its owner, which answers later; the runner waits for it (R182). -/
def State.setWaiting (s : State) : State :=
  match s.runner.state with
  | .running slot x _ stopRequested _ => s.setRunner (.running slot x true stopRequested .taken)
  | .idle _ => s
  | .halted _ _ => s

/-- COMMIT-PROFILE (R192): a time-taking order, answered when the commit completes. The runner waits for one that it handed
over; any other is gated here (log 4). -/
def execCommitProfile (s : State) : Host.Outcome State Fault Refusal :=
  .next (
    if s.handedOrder = some .commitProfile then s.beginCommit.setWaiting
    else
      match s.gate (some .commitProfile) with
      | some r => { s with answer := some (refuse r) }
      | none => s.beginCommit)

/-! #### Hand-offs of a commit -/

/-- A string record under a committed fitted bit, before its evaluation (R44). The envelopes and the cause of before the
event are left for the comparison of R54; the evaluation that follows computes them anew. -/
def StringRec.refit (r : StringRec) (p : Profile) (fitted : Bool) : StringRec :=
  if r.fitted = fitted then
    if fitted && decide (0 < r.onlineCount) then r.setBand (bandOf p r.minTemp r.maxTemp) else r
  else
    { StringRec.atReset with
      fitted := fitted
      chargeEnvelope := r.chargeEnvelope
      dischargeEnvelope := r.dischargeEnvelope
      cause := r.cause }

/-- The String Table under a committed profile; a band computed anew that differs sets the BAND flag (R43, R44). -/
def State.refitStrings (s : State) (p : Profile) : State :=
  let new := tab8 fun i => s.strings[i].refit p (p.isFitted i)
  ({ s with strings := new }).raiseIf
    (allStrings.any fun i => s.strings[i].fitted == p.isFitted i && s.strings[i].band != new[i].band) .band

/-- A bus in POLLING whose expected module mask a commit changes: its string is not complete from the commit on (R92, R120,
R136, log 38). -/
def Bus.takeMask (b : Bus) (changed : Bool) : Bus := { b with maskChanged := b.maskChanged || changed }

/-- One bus at a commit (R78, R92). With a frame in progress the bus stays in POLLING until the frame ends: R92's table and
R77 say so, and R92's last paragraph that no POLLING bus has a changed mask or cell count. A changed mask makes the string
incomplete till then; a commit that changes its cells per module alone leaves it complete. DESIGN CHOICE (log 38). -/
def refitBus (s : State) (old new : Profile) (b : Fin 8) : State :=
  let bus := s.buses[b]
  match old.isFitted b, new.isFitted b, bus.state with
  | _, _, .failed _ => s
  | false, true, .off => s.setBus b (bus.toSelfTest s.now)
  | true, false, .off => s
  | true, false, _ => s.setBus b bus.toOff
  | true, true, .polling =>
    if old.expected[b] = new.expected[b] ∧ old.cells[b] = new.cells[b] then s
    else (s.setBus b (bus.takeMask (old.expected[b] != new.expected[b]))).switchToRollCall b
  | _, _, _ => s

/-- All buses at a commit. -/
def State.refitBuses (s : State) (old new : Profile) : State := allStrings.foldl (fun t b => refitBus t old new b) s

/-- A string contactor under a fitted bit (R150): a string newly fitted is supervised from its feedback as it stands; a
string no longer fitted returns to reset values but for its feedback. -/
def Contactor.refit (c : Contactor) (fitted : Bool) (now : Nat) : Contactor :=
  if c.fitted = fitted then c
  else if fitted then Contactor.supervise { c with fitted := true } now
  else Contactor.atReset c.feedback

/-- The String Contactor Table under a profile; a path whose string is no longer PRECHARGING is free (R150). -/
def State.refitContactors (s : State) (p : Profile) : State :=
  ({ s with contactors := tab8 fun i => s.contactors[i].refit (p.isFitted i) s.now }).freePath

/-- Whether no string of a bay is fitted. -/
def bayEmpty (p : Profile) (k : Fin 4) : Bool := !p.isFitted (evenOf k) && !p.isFitted (oddOf k)

/-- A bay that a commit leaves with no fitted string has its flow fault cleared (R136). -/
def State.refitCooling (s : State) (p : Profile) : State :=
  ({ s with cooling := tab4 fun k =>
    if bayEmpty p k && s.cooling[k].flowFault then { s.cooling[k] with flowFault := false } else s.cooling[k] }).raiseIf
      (allBays.any fun k => bayEmpty p k && s.cooling[k].flowFault) .cooling

/-- The link takes the rate; a change of rate discards the frame in progress in the buffer (R172). -/
def Link.refit (l : Link) (rate : Rate) : Link :=
  if l.rate = some rate then l else { l with rate := some rate, buffer := [] }

/-- The committed profile handed to every block (R192; the order among the blocks is log 29). -/
def State.handOut (s : State) (p : Profile) : State :=
  let old := s.unit.active
  let s1 := s.refitStrings p
  let s2 := s1.setUnit { s1.unit with active := p }
  let s3 := s2.refitBuses old p
  let s4 := (s3.refitContactors p).refitCooling p
  { s4 with link := s4.link.refit p.linkRate }

/-- The stored copy whole again, and the profile valid (R192). -/
def State.endCommit (s : State) : State :=
  let ws := s.unit.working.words
  s.setUnit { s.unit with stored := ⟨ws, some (checksum ws)⟩, storedGood := true, committed := true, writing := none }

/-- The commit's answer ends the order of the runner that waits for it, in the same event (R182, R192, log 5); without one
it goes to the model's own `answer` (log 4). -/
def State.answerCommit (s : State) (a : Answer) : State :=
  match s.runner.state with
  | .running slot x _ stopRequested .taken => s.answerOrder slot x stopRequested a
  | .running _ _ _ _ .handed => { s with answer := some a }
  | .running _ _ _ _ (.answered _) => { s with answer := some a }
  | .idle _ => { s with answer := some a }
  | .halted _ _ => { s with answer := some a }

/-- COMMIT_COMPLETE (R192): with no writing in progress there is nothing to complete. -/
def execCommitComplete (s : State) : Host.Outcome State Fault Refusal :=
  .next (
    match s.unit.writing with
    | none => s
    | some _ =>
      let s1 := (s.endCommit.handOut s.unit.working).settle
      s1.answerCommit (done (wordResults [checksum s.unit.working.words])))

end Sys2Proof.Machine
end

