-- ==== Sys2Proof/Machine/ResetCommands.lean ====
section
/-! DEFINITION. Reset, start-up and the site clock: POWER_ON, RESET_LINE, START_UP_PROFILE_LOAD, START_UP_TIME_LIMIT and
SITE_CLOCK_ADVANCE (chapter 10; the "At reset" parts of R2, R38, R70, R100, R123, R138, R141, R151, R164, R175, R176,
R185, R186). -/

namespace Sys2Proof.Machine

/-- The stored words after a commit that a reset cut: free values (R192, log 11). -/
def tornWords (draws : Nat) : List Word := (List.range 65).map (Config.tornWord draws)

/-- The Mode and Profile Unit at a reset: the stored copy survives, and a commit in progress leaves its checksum erased
(R190, R192). The working copy and the two indications stand until the load (log 10); the blocks' copy is the default
profile until then (log 9). -/
def ProfileUnit.atReset (u : ProfileUnit) (draws now : Nat) (clock : SiteTime) (nextSecond : Nat) : ProfileUnit where
  mode := .commissioning
  working := u.working
  active := Profile.default
  stored := if u.writing.isSome then ⟨tornWords draws, none⟩ else u.stored
  storedGood := u.storedGood
  committed := u.committed
  writing := none
  clock := clock
  nextSecond := nextSecond
  startUp := StartUp.atReset now

/-- Every record at its reset value; the levels of the input lines are those read at the reset (log 7, 26). -/
def State.afterReset (s : State) (clock : SiteTime) (nextSecond : Nat) : State :=
  { State.reset with
    crewKey := s.crewKey
    door := ⟨true, some ⟨s.door.level, s.now⟩⟩
    fire := tab4 fun k => FireRec.atReset s.fire[k].smokeA.level s.fire[k].smokeB.level s.fire[k].hold.level s.now
    cooling := tab4 fun k => CoolRec.atReset s.cooling[k].flow
    contactors := tab8 fun i => Contactor.atReset s.contactors[i].feedback
    breaker := Breaker.atReset s.breaker.feedback s.breaker.grid.level s.now
    unit := s.unit.atReset s.draws s.now clock nextSecond
    now := s.now
    answer := s.answer
    draws := if s.unit.writing.isSome then s.draws + 1 else s.draws
    pending := s.pending }

/-- POWER_ON (R193): the clock starts at day 0, second 0. -/
def execPowerOn (s : State) : Host.Outcome State Fault Refusal :=
  .next (s.afterReset ⟨0, 0⟩ (s.now + Config.sec 1))

/-- The reset line asserted (R184, R193): the clock keeps its day and second and goes on advancing, and the Station Port
takes no transaction (R197). -/
def State.assertReset (s : State) : State :=
  { s.afterReset s.unit.clock s.unit.nextSecond with transaction := .resetHeld }

/-- The reset line released: the Station Port takes transactions again (R197). -/
def State.releaseReset (s : State) : State :=
  match s.transaction with
  | .resetHeld => { s with transaction := .released }
  | .released | .header _ | .write _ _ | .read _ _ _ => s

/-- RESET_LINE (R184, R193): the line is asserted and released in one event (log 26). -/
def execResetLine (s : State) : Host.Outcome State Fault Refusal := .next s.assertReset.releaseReset

/-- Whether the stored copy agrees with its checksum; one that was erased is a mismatch (R195). -/
def Stored.agrees (x : Stored) : Bool := x.checksum == some (Machine.checksum x.words)

/-- The profile a start-up load takes (R195). -/
def Stored.loaded (x : Stored) : Profile := if x.agrees then Profile.ofWords x.words else Profile.default

/-- The Mode and Profile Unit after the load (R195). -/
def ProfileUnit.load (u : ProfileUnit) : ProfileUnit :=
  { u with
    working := u.stored.loaded
    active := u.stored.loaded
    storedGood := u.stored.agrees
    committed := u.stored.agrees
    mode := if u.stored.agrees then u.stored.loaded.startMode else .commissioning }

/-- A fitted bus at the load goes to SELFTEST, in its record and in the start-up record (R71, R196). -/
def loadBus (p : Profile) (s : State) (b : Fin 8) : State :=
  if p.isFitted b then
    (s.setBus b (s.buses[b].toSelfTest s.now)).noteStartUp b fun x => { x with progress := .selftest }
  else s

/-- The profile handed to every block at the load (R38, R71, R150, R172, R195). -/
def State.handLoaded (s : State) (p : Profile) : State :=
  let s1 := { s with strings := tab8 fun i => { s.strings[i] with fitted := p.isFitted i } }
  let s2 := allStrings.foldl (loadBus p) s1
  let s3 := { s2 with contactors := tab8 fun i => s2.contactors[i].refit (p.isFitted i) s2.now }
  { s3 with link := { s3.link with rate := some p.linkRate, buffer := [] }, loaded := true }

/-- START_UP_PROFILE_LOAD (R195): the first event after a reset; one that is not the first has no effect (log 27). -/
def execStartUpProfileLoad (s : State) : Host.Outcome State Fault Refusal :=
  .next (
    if s.loaded then s
    else
      (((s.setUnit s.unit.load).raiseIf (!s.unit.stored.agrees) .profile).handLoaded s.unit.stored.loaded).settle)

/-- START_UP_TIME_LIMIT (R196). -/
def execStartUpTimeLimit (s : State) : Host.Outcome State Fault Refusal :=
  .next (
    match s.unit.startUp.phase with
    | .running _ => s.endStartUp .timeLimit
    | .ended _ => s)

/-- The clock one second later (R193). -/
def SiteTime.advance (t : SiteTime) : SiteTime :=
  if t.second < 86399 then { t with second := t.second + 1 }
  else ⟨if t.day < 65535 then t.day + 1 else 0, 0⟩

/-- SITE_CLOCK_ADVANCE (R193), with the expiry check (R17). -/
def execSiteClockAdvance (s : State) : Host.Outcome State Fault Refusal :=
  .next ((s.takeClock s.unit.clock.advance).expiryCheck).settle

end Sys2Proof.Machine
end

