-- ==== Sys2Proof/Machine/Dispatch.lean ====
section
/-! DEFINITION. The dispatch: one arm per command. -/

namespace Sys2Proof.Machine

def exec (i : Instr) (s : State) : Host.Outcome State Fault Refusal :=
  match i with
  | .powerOn => Sys2Proof.Machine.execPowerOn s
  | .resetLine => Sys2Proof.Machine.execResetLine s
  | .startUpProfileLoad => Sys2Proof.Machine.execStartUpProfileLoad s
  | .startUpTimeLimit => Sys2Proof.Machine.execStartUpTimeLimit s
  | .siteClockAdvance => Sys2Proof.Machine.execSiteClockAdvance s
  | .run slot => Sys2Proof.Machine.execRun slot s
  | .stop => Sys2Proof.Machine.execStop s
  | .orderMemoryWrite slot word value => Sys2Proof.Machine.execOrderMemoryWrite slot word value s
  | .attentionSummaryWrite value => Sys2Proof.Machine.execAttentionSummaryWrite value s
  | .attentionEnableWrite value => Sys2Proof.Machine.execAttentionEnableWrite value s
  | .windowWriteOther address value => Sys2Proof.Machine.execWindowWriteOther address value s
  | .lookup handle => Sys2Proof.Machine.execLookup handle s
  | .find kind string => Sys2Proof.Machine.execFind kind string s
  | .nextChanged => Sys2Proof.Machine.execNextChanged s
  | .readString string page => Sys2Proof.Machine.execReadString string page s
  | .readModule bus address page => Sys2Proof.Machine.execReadModule bus address page s
  | .readBay bay => Sys2Proof.Machine.execReadBay bay s
  | .readConnection selector => Sys2Proof.Machine.execReadConnection selector s
  | .readLink => Sys2Proof.Machine.execReadLink s
  | .readClock => Sys2Proof.Machine.execReadClock s
  | .readProfile field index => Sys2Proof.Machine.execReadProfile field index s
  | .grant op0 op1 op2 op3 op4 op5 => Sys2Proof.Machine.execGrant op0 op1 op2 op3 op4 op5 s
  | .amend handle change op2 op3 op4 op5 => Sys2Proof.Machine.execAmend handle change op2 op3 op4 op5 s
  | .renew handle => Sys2Proof.Machine.execRenew handle s
  | .revoke handle => Sys2Proof.Machine.execRevoke handle s
  | .retire handle => Sys2Proof.Machine.execRetire handle s
  | .closeBreaker => Sys2Proof.Machine.execCloseBreaker s
  | .openBreaker => Sys2Proof.Machine.execOpenBreaker s
  | .resetBreaker => Sys2Proof.Machine.execResetBreaker s
  | .clearContactor string => Sys2Proof.Machine.execClearContactor string s
  | .resetBay bay => Sys2Proof.Machine.execResetBay bay s
  | .releaseNow bay => Sys2Proof.Machine.execReleaseNow bay s
  | .rollcall bus => Sys2Proof.Machine.execRollcall bus s
  | .setClock day second secondHigh => Sys2Proof.Machine.execSetClock day second secondHigh s
  | .setMode mode => Sys2Proof.Machine.execSetMode mode s
  | .writeProfile field index valueLow valueHigh => Sys2Proof.Machine.execWriteProfile field index valueLow valueHigh s
  | .commitProfile => Sys2Proof.Machine.execCommitProfile s
  | .commitComplete => Sys2Proof.Machine.execCommitComplete s
  | .leaseLapse slot => Sys2Proof.Machine.execLeaseLapse slot s
  | .riseHoldEnd slot => Sys2Proof.Machine.execRiseHoldEnd slot s
  | .revokedHoldEnd slot => Sys2Proof.Machine.execRevokedHoldEnd slot s
  | .crewKeyChange on => Sys2Proof.Machine.execCrewKeyChange on s
  | .doorContactChange isOpen => Sys2Proof.Machine.execDoorContactChange isOpen s
  | .doorTaken => Sys2Proof.Machine.execDoorTaken s
  | .selftestEnd bus pattern1 pattern2 => Sys2Proof.Machine.execSelftestEnd bus pattern1 pattern2 s
  | .wakeEnd bus => Sys2Proof.Machine.execWakeEnd bus s
  | .stuckRetryEnd bus => Sys2Proof.Machine.execStuckRetryEnd bus s
  | .stuckLine bus watch => Sys2Proof.Machine.execStuckLine bus watch s
  | .echoError bus position readBack => Sys2Proof.Machine.execEchoError bus position readBack s
  | .idleGapEnd bus => Sys2Proof.Machine.execIdleGapEnd bus s
  | .pollRoundStart bus => Sys2Proof.Machine.execPollRoundStart bus s
  | .summaryAnswer bus chars => Sys2Proof.Machine.execSummaryAnswer bus chars s
  | .probeAnswer bus chars => Sys2Proof.Machine.execProbeAnswer bus chars s
  | .responseWindowEnd bus chars => Sys2Proof.Machine.execResponseWindowEnd bus chars s
  | .targetFrameEnd bus => Sys2Proof.Machine.execTargetFrameEnd bus s
  | .smokeLineChange bay line pair => Sys2Proof.Machine.execSmokeLineChange bay line pair s
  | .smokeConditionTaken bay line => Sys2Proof.Machine.execSmokeConditionTaken bay line s
  | .holdButtonChange bay pressed => Sys2Proof.Machine.execHoldButtonChange bay pressed s
  | .holdButtonTaken bay => Sys2Proof.Machine.execHoldButtonTaken bay s
  | .countdownEnd bay => Sys2Proof.Machine.execCountdownEnd bay s
  | .releasePulseEnd bay => Sys2Proof.Machine.execReleasePulseEnd bay s
  | .runOnEnd bay => Sys2Proof.Machine.execRunOnEnd bay s
  | .flowSwitchChange bay flow => Sys2Proof.Machine.execFlowSwitchChange bay flow s
  | .flowTimerEnd bay => Sys2Proof.Machine.execFlowTimerEnd bay s
  | .prechargeTimeout string => Sys2Proof.Machine.execPrechargeTimeout string s
  | .prechargeRetryEnd string => Sys2Proof.Machine.execPrechargeRetryEnd string s
  | .drainEnd string => Sys2Proof.Machine.execDrainEnd string s
  | .mainFeedbackChange string closed => Sys2Proof.Machine.execMainFeedbackChange string closed s
  | .contactorFeedbackTimerEnd string => Sys2Proof.Machine.execContactorFeedbackTimerEnd string s
  | .breakerFeedbackChange closed => Sys2Proof.Machine.execBreakerFeedbackChange closed s
  | .breakerWindowEnd => Sys2Proof.Machine.execBreakerWindowEnd s
  | .breakerFeedbackTimerEnd => Sys2Proof.Machine.execBreakerFeedbackTimerEnd s
  | .gridHealthyChange healthy => Sys2Proof.Machine.execGridHealthyChange healthy s
  | .gridHealthyTaken => Sys2Proof.Machine.execGridHealthyTaken s
  | .reconnectDelayEnd => Sys2Proof.Machine.execReconnectDelayEnd s
  | .renewFrame slot generation dcLink current tag => Sys2Proof.Machine.execRenewFrame slot generation dcLink current tag s
  | .reduceFrame slot generation limit tag => Sys2Proof.Machine.execReduceFrame slot generation limit tag s
  | .handbackFrame slot generation tag => Sys2Proof.Machine.execHandbackFrame slot generation tag s
  | .queryFrame slot generation tag => Sys2Proof.Machine.execQueryFrame slot generation tag s
  | .badFrame cause => Sys2Proof.Machine.execBadFrame cause s
  | .linkTimeout => Sys2Proof.Machine.execLinkTimeout s
  | .frameSent => Sys2Proof.Machine.execFrameSent s
  | .transmitGapEnd => Sys2Proof.Machine.execTransmitGapEnd s
  | .linkCharacterTaken character => Sys2Proof.Machine.execLinkCharacterTaken character s
  | .wakePulseEnd bus => Sys2Proof.Machine.execWakePulseEnd bus s

end Sys2Proof.Machine
end

