-- ==== Sys2Proof/Machine/Step.lean ====
section
/-! DEFINITION. One step of the part: the command at the front of the queue, or, on an empty queue, the runner's write of
an answered order, an order handed to its owner, or a quantum of time. -/

namespace Sys2Proof.Machine

/-- What happens on an empty queue: the runner writes what an owner has answered (R180, log 5); else an order that the
runner has handed over is taken by its owner (R179, log 3); else a quantum of time passes (log 1). -/
def State.idle (s : State) : Host.Outcome State Fault Refusal :=
  match s.endAnswered, s.handedOrder with
  | some t, _ => .next t
  | none, some order => exec order s
  | none, none => .next s.tick

/-- One step. -/
def step (s : State) : Host.Outcome State Fault Refusal :=
  match s.pending with
  | c :: rest => exec c { s with pending := rest }
  | [] => s.idle

/-- The state with the command that a word spells put at the front of its queue. -/
def State.withFetchWord (s : State) (nbits w : Nat) : State :=
  match decodeTableWord nbits w with
  | some c => { s with pending := c :: s.pending }
  | none => s

end Sys2Proof.Machine
end

