-- ==== Sys2Proof/Machine/SerialPort.lean ====
section
/-! DEFINITION. The SPI target edge by edge (R197, 11.1). The table has no row for an edge: its rows are whole data words, and
`State.wrote` leaves the port as the 16th edge of that word does. These functions say how a word comes about, what a read
shifts out, and what becomes of a word that is cut. -/

namespace Sys2Proof.Machine

/-- The bits of a word in the order they are sent, the most significant first. -/
def wordBits (v : Word) : List Bool :=
  [v.getLsbD 15, v.getLsbD 14, v.getLsbD 13, v.getLsbD 12, v.getLsbD 11, v.getLsbD 10, v.getLsbD 9, v.getLsbD 8,
   v.getLsbD 7, v.getLsbD 6, v.getLsbD 5, v.getLsbD 4, v.getLsbD 3, v.getLsbD 2, v.getLsbD 1, v.getLsbD 0]

/-- The word that bits make, the most significant first. -/
def wordOfBits (bits : List Bool) : Word := bits.foldl (fun w b => (w <<< 1) ||| BitVec.ofNat 16 b.toNat) 0

/-- Select asserted: a transaction begins, unless the reset line is asserted. -/
def State.select (s : State) : State :=
  match s.transaction with
  | .resetHeld => s
  | .released | .header _ | .write _ _ | .read _ _ _ => { s with transaction := .header [] }

/-- Select released: the transaction ends, and a word with fewer than 16 edges is discarded. -/
def State.deselect (s : State) : State :=
  match s.transaction with
  | .resetHeld => s
  | .released | .header _ | .write _ _ | .read _ _ _ => { s with transaction := .released }

/-- A header word: direction in bit 15, address of the first data word in bits 9 to 0. -/
def headerPhase (v : Word) : Transaction :=
  if v.getLsbD 15 then .write (v.extractLsb' 0 10) [] else .read (v.extractLsb' 0 10) none []

/-- A rising edge of the clock: the part takes a bit, and the 16th completes the word. A data word of a write transaction is
one write; a data word of a read transaction moves the address on. -/
def State.clockRise (s : State) (dataIn : Bool) : State :=
  match s.transaction with
  | .resetHeld | .released => s
  | .header bits =>
    if bits.length < 15 then { s with transaction := .header (bits ++ [dataIn]) }
    else { s with transaction := headerPhase (wordOfBits (bits ++ [dataIn])) }
  | .write a bits =>
    if bits.length < 15 then { s with transaction := .write a (bits ++ [dataIn]) }
    else (s.windowWrite a (wordOfBits (bits ++ [dataIn]))).wrote a
  | .read a out bits =>
    if bits.length < 15 then { s with transaction := .read a out (bits ++ [dataIn]) }
    else { s with transaction := .read (a + 1) out [] }

/-- A falling edge of the clock: in a read transaction the first of a data word captures the word at the current address, and
each brings the next bit of the captured word to data out. -/
def State.clockFall (s : State) : State :=
  match s.transaction with
  | .read a _ [] =>
    { s with transaction := .read a (some ⟨windowRead s a, (windowRead s a).getLsbD 15⟩) [] }
  | .read a (some x) (b :: bits) =>
    { s with transaction := .read a (some ⟨x.word, x.word.getLsbD (14 - bits.length)⟩) (b :: bits) }
  | .read _ none (_ :: _) | .resetHeld | .released | .header _ | .write _ _ => s

/-- The level the part drives on data out, none while data out floats: it is driven in a read transaction alone, from the
first falling edge of its first data word on (log 28). -/
def State.dataOut (s : State) : Option Bool :=
  match s.transaction with
  | .read _ (some x) _ => some x.level
  | .read _ none _ | .resetHeld | .released | .header _ | .write _ _ => none

/-- The rising edges of bits, one after the other; in a write transaction the falling edges between them change nothing. -/
def State.clockIn (s : State) (bits : List Bool) : State := bits.foldl State.clockRise s

end Sys2Proof.Machine
end

