-- ==== Sys2Proof/Safety.lean ====
section
/-! DEFINITION. What a safe state is: the twelve site laws of the spec as predicates on a state (site law 12 is about
single commands and stands among the statements), and the conditions that outputs and derived fields meet. -/

namespace Sys2Proof.Safety

open Sys2Proof.Machine

/-- A slot holds a permit record. -/
def Holds (s : State) (i : Fin 48) (p : Permit) : Prop := s.slots[i].permit = some p

/-- Only CHARGE and DISCHARGE records hold limits (R1). -/
def LimitsFollowKind (s : State) : Prop := ∀ i p, Holds s i p → p.limits.isSome = p.kind.hasLimit

/-- Site law 1 (R8): for each string and each of CHARGE and DISCHARGE at most one standing permit of that kind. -/
def OneLimitPermitPerString (s : State) : Prop :=
  ∀ i j p q (n : Fin 8), Holds s i p → Holds s j q → p.kind = q.kind → p.kind.hasLimit = true →
    p.standing = true → q.standing = true → inScope p.scope n = true → inScope q.scope n = true → i = j

/-- Site law 2 (R8): at most one standing CONNECT. -/
def OneConnect (s : State) : Prop :=
  ∀ i j p q, Holds s i p → Holds s j q → p.kind = .connect → q.kind = .connect →
    p.standing = true → q.standing = true → i = j

/-- Site law 3 (R10): the effective limit of a CHARGE or DISCHARGE permit is above zero exactly when it is LIVE, and
exceeds neither the requested limit nor the envelopes of its scope. -/
def EffectiveWithinTarget (s : State) : Prop :=
  ∀ i p, Holds s i p → p.kind.hasLimit = true →
    (0 < p.effective ↔ p.state = .live) ∧ p.effective ≤ p.requested ∧ p.effective ≤ s.envelopeSum p.kind p.scope

/-- What CHARGE and DISCHARGE records meet besides site law 3: never PENDING, SUSPENDED for an envelope alone, and a
pending rise above 0 (R1, R9, R11). -/
def LimitRecordsSound (s : State) : Prop :=
  ∀ i p, Holds s i p → p.kind.hasLimit = true →
    p.state ≠ .pending ∧
    (p.state = .suspended → ∃ n c, p.reason = some (.envelope n c)) ∧
    (∀ l r, p.limits = some l → l.rise = some r → 0 < r.value)

/-- The breaker's command and pulse outputs follow its state (R151). -/
def BreakerOutputsFollowState (s : State) : Prop :=
  s.breaker.commandedClosed = s.breaker.state.commandsClosed ∧
  (s.breaker.closePulse = true ↔ ∃ e, s.breaker.state = .closing e) ∧
  (s.breaker.openPulse = true ↔ ∃ k e, s.breaker.state = .opening k e)

/-- Site law 4 (R151): the breaker is in CLOSING or CLOSED only while a CONNECT is LIVE. -/
def ClosedUnderLiveConnect (s : State) : Prop := s.breaker.state.commandsClosed = true → s.connectLive = true

/-- The contactor outputs of every string follow its state (R140). -/
def ContactorOutputsFollowState (s : State) : Prop :=
  ∀ i : Fin 8, s.contactors[i].mainClosed = s.contactors[i].state.main ∧
    s.contactors[i].prechargeClosed = s.contactors[i].state.precharge

/-- An unfitted string's contactor is OPEN and not supervised (R138, R147, R150). -/
def UnfittedOpen (s : State) : Prop :=
  ∀ i : Fin 8, s.contactors[i].fitted = false →
    s.contactors[i].state = .opened ∧ s.contactors[i].feedbackTimer = none

/-- A contactor that is OPEN or FAILED. -/
def AtRest (c : Contactor) : Prop := c.state = .opened ∨ ∃ r, c.state = .failed r

/-- Site law 5 (R140): under a LIVE ISOLATE a string's contactor is OPEN or FAILED. -/
def IsolatedAtRest (s : State) : Prop :=
  ∀ i p (n : Fin 8), Holds s i p → p.kind = .isolate → p.state = .live → inScope p.scope n = true →
    AtRest s.contactors[n]

/-- Site law 6 on permits (R19): no CHARGE, DISCHARGE or CONNECT stands where a bay in an alarm state meets it. -/
def AlarmRevokes (s : State) : Prop :=
  ∀ (k : Fin 4) i p, s.fire[k].state.inAlarm = true → Holds s i p → p.standing = true →
    p.kind ≠ .connect ∧ (p.kind.hasLimit = true → meetsBay p.scope k = false)

/-- Site law 6 on contactors (R146): the contactors of a bay in an alarm state are OPEN or FAILED. -/
def AlarmOpens (s : State) : Prop :=
  ∀ i : Fin 8, s.fire[bayOf i].state.inAlarm = true → AtRest s.contactors[i]

/-- The containment requests are those of R117, and the Cooling Controller holds them (R131). -/
def ContainmentHeld (s : State) : Prop :=
  ∀ k : Fin 4, s.fire[k].containment = containmentOf s.fire k ∧ s.cooling[k].containment = s.fire[k].containment

/-- The outputs and the flow timer of every bay follow running stage, heater demand, containment, flow fault and flow
switch (R130 to R132). -/
def CoolingFollows (s : State) : Prop :=
  ∀ k : Fin 4,
    s.cooling[k].outputs =
      outputsOf s.cooling[k].running s.cooling[k].heaterDemand s.cooling[k].containment ∧
    s.cooling[k].flowTimer.map (·.goal) =
      flowGoal s.cooling[k].outputs.pump s.cooling[k].flowFault s.cooling[k].flow

/-- Site law 6 on cooling (R131): the fans of a bay in an alarm state are off. -/
def AlarmStopsFans (s : State) : Prop :=
  ∀ k : Fin 4, s.fire[k].state.inAlarm = true →
    s.cooling[k].outputs.fanLow = false ∧ s.cooling[k].outputs.fanHigh = false

/-- Site law 7, first half (R113): a release output is active exactly while its bay is RELEASED with its pulse running. -/
def ReleaseOnlyInPulse (s : State) : Prop :=
  ∀ k : Fin 4, s.fire[k].releaseOutput = true ↔ ∃ e, s.fire[k].state = .released (some e)

/-- Site law 7, second half (R113): a bay is in COUNTDOWN only while no LIVE ENTRY covers it, its hold button is not
taken as pressed, and the loaded profile does not mark it manual. -/
def CountdownUnattended (s : State) : Prop :=
  ∀ (k : Fin 4) e, s.fire[k].state = .countdown e →
    s.entryCovers k = false ∧ s.fire[k].hold.taken = false ∧ (s.loaded && s.unit.active.isManual k) = false

/-- Site law 8 (R141): the strings in PRECHARGING are exactly the one the path serves. -/
def PathServesOne (s : State) : Prop :=
  ∀ i : Fin 8, s.contactors[i].state.isPrecharging = true ↔ s.serving = some i

/-- Site law 9 (R49): a string's envelopes are both zero while it is not fitted, its contactor is not CLOSED, or MODULES
holds; and before the start-up profile load (R38). -/
def EnvelopesZero (s : State) : Prop :=
  ∀ i : Fin 8,
    (s.loaded = false ∨ s.strings[i].fitted = false ∨ s.contactors[i].state ≠ .closed ∨ s.modulesHold i = true) →
    s.strings[i].chargeEnvelope = 0 ∧ s.strings[i].dischargeEnvelope = 0

/-- Site law 10 (R181): at most 32 orders in one run. -/
def RunBounded (s : State) : Prop := s.runner.executed ≤ 32

/-- Site law 11 (R81): every roster holds its entries in rising address order, addresses 1 to 24, at most 24 of them. -/
def RostersOrdered (s : State) : Prop :=
  ∀ b : Fin 8, (s.buses[b].roster.map (·.address)).Pairwise (· < ·) ∧
    (∀ e ∈ s.buses[b].roster, 1 ≤ e.address ∧ e.address ≤ 24) ∧ s.buses[b].roster.length ≤ 24

/-- The attention line follows the set flags that are enabled (R186). -/
def LineFollowsFlags (s : State) : Prop :=
  s.attention.line = ((s.attention.flags &&& s.attention.enables) != 0)

/-- The door lock is released exactly while an ENTRY permit is LIVE (R25). -/
def DoorFollowsEntry (s : State) : Prop := s.doorReleased = s.entryLive

/-- The unmet conditions and the isolating permit of every string are those that hold (R139, R149). -/
def ServiceFollowsConditions (s : State) : Prop :=
  ∀ i : Fin 8, s.contactors[i].unmet = s.unmetOf i ∧
    s.contactors[i].isolating = if s.contactors[i].fitted then s.isolatingOf i else none

/-- Order memory keeps its canonical form and lists no byte beyond its 512 words (R174, R175). -/
def MemoryCanonical (s : State) : Prop := Memory.wf s.orderMemory = true ∧ ∀ c ∈ s.orderMemory, c.1 < 1024

/-- At most four replies wait, and the receive buffer holds at most eight characters (R162, R166). -/
def LinkBounded (s : State) : Prop := s.link.queue.length ≤ 4 ∧ s.link.buffer.length ≤ 8

end Sys2Proof.Safety
end

