-- ==== Sys2Proof/WellFormed.lean ====
section
/-! DEFINITION. Well-formed commands: the operands of an event say something that can happen at that row of the table.
Orders and frames are well-formed with any operand words, because their owners judge them (R198). -/

namespace Sys2Proof

/-- An address of WINDOW_WRITE_OTHER: runner control with a word that names no command, runner status, or an unmapped
word (R174, 11.1.1). -/
def otherAddress (address : BitVec 10) (value : Word) : Bool :=
  decide (0x200 < address.toNat) && address != 0x203 && address != 0x204 ||
    address == 0x200 && (value.getLsbD 15 == value.getLsbD 14)

/-- A self-test sends pattern 2 only when pattern 1 has passed (R72). -/
def patternsInOrder (pattern1 pattern2 : Option BusChar) : Bool :=
  Machine.patternPasses 0x55 pattern1 || pattern2.isNone

/-- A complete answer: the expected characters were found and none of them has a framing error (R65). -/
def completeAnswer (kind : Machine.FrameKind) (chars : List BusChar) : Bool :=
  (Machine.answerOf kind chars).length == kind.expected && (Machine.answerOf kind chars).all (!·.framing)

/-- The bits of the longest frame the master sends: the delimiter, and a TARGET frame's characters (R60, R61, R64). -/
def longestFrameBits : Nat := 61

/-- Well-formed commands. -/
def wellFormed : Instr → Bool
  | .windowWriteOther address value => otherAddress address value
  | .selftestEnd _ pattern1 pattern2 => patternsInOrder pattern1 pattern2
  | .stuckLine _ watch => Machine.LineWatch.isStuck watch
  | .echoError _ position _ => decide (position < longestFrameBits)
  | .summaryAnswer _ chars => completeAnswer .summary chars
  | .probeAnswer _ chars => completeAnswer .probe chars
  | .responseWindowEnd _ chars => !completeAnswer .summary chars
  | .badFrame (.broken mark) => (Machine.linkReceive mark).any Machine.RxChar.isMark
  | .linkCharacterTaken character => (Machine.linkReceive character).isSome
  | .powerOn | .resetLine | .startUpProfileLoad | .startUpTimeLimit | .siteClockAdvance | .run .. | .stop
  | .orderMemoryWrite .. | .attentionSummaryWrite .. | .attentionEnableWrite .. | .lookup .. | .find ..
  | .nextChanged | .readString .. | .readModule .. | .readBay .. | .readConnection .. | .readLink | .readClock
  | .readProfile .. | .grant .. | .amend .. | .renew .. | .revoke .. | .retire .. | .closeBreaker | .openBreaker
  | .resetBreaker | .clearContactor .. | .resetBay .. | .releaseNow .. | .rollcall .. | .setClock .. | .setMode ..
  | .writeProfile .. | .commitProfile | .commitComplete | .leaseLapse .. | .riseHoldEnd .. | .revokedHoldEnd ..
  | .crewKeyChange .. | .doorContactChange .. | .doorTaken | .wakeEnd .. | .stuckRetryEnd .. | .idleGapEnd ..
  | .pollRoundStart .. | .targetFrameEnd .. | .smokeLineChange .. | .smokeConditionTaken .. | .holdButtonChange ..
  | .holdButtonTaken .. | .countdownEnd .. | .releasePulseEnd .. | .runOnEnd .. | .flowSwitchChange ..
  | .flowTimerEnd .. | .prechargeTimeout .. | .prechargeRetryEnd .. | .drainEnd .. | .mainFeedbackChange ..
  | .contactorFeedbackTimerEnd .. | .breakerFeedbackChange .. | .breakerWindowEnd | .breakerFeedbackTimerEnd
  | .gridHealthyChange .. | .gridHealthyTaken | .reconnectDelayEnd | .renewFrame .. | .reduceFrame ..
  | .handbackFrame .. | .queryFrame .. | .linkTimeout | .frameSent | .transmitGapEnd | .wakePulseEnd ..
  | .badFrame .framing | .badFrame .noise | .badFrame .check | .badFrame .kind => true

end Sys2Proof
end

