-- ==== Sys2Proof/Certificates/Slice0/Obligations.lean ====
section
/-! DEFINITION. The statements for the provers. The predicates of the first section say what the statements share: how an
order reaches its owner, what a handle names, what the settling of an event leaves alone. -/

namespace Sys2Proof.Claims

open Sys2Proof.Machine Sys2Proof.Safety

/-- Order `c` is in progress at `slot`: the runner has handed it over and its owner has not taken it (R179). -/
def Handed (s : State) (c : Instr) (slot : BitVec 5) (x : Snapshot) (wait stop : Bool) : Prop :=
  s.runner.state = .running slot x wait stop .handed ∧ x.order = some c

/-- Order `c` is answered `a`, its owner having taken the state to `t`: for an order the runner handed over, the runner
holds the answer, for every slot, snapshot, wait and stop request, and writes it in an event of its own (R180); an order given
directly passes the gate first, and its answer is the model's own field (log 4). -/
def Answers (c : Instr) (s t : State) (a : Answer) : Prop :=
  (∀ slot x wait stop, Handed s c slot x wait stop → exec c s = .next
      { t with runner := { t.runner with state := .running slot x wait stop (.answered a) } }) ∧
    (s.handedOrder ≠ some c → s.gate (some c) = none → exec c s = .next { t with answer := some a })

/-- Order `c` is refused with a code and results, and nothing else happens at its owner. -/
def RefusedWith (c : Instr) (s : State) (code : RefCode) (results : List Word) : Prop :=
  Answers c s s ⟨some code, results⟩

/-- Order `c` is refused with a code and no results. -/
def Refused (c : Instr) (s : State) (code : RefCode) : Prop := RefusedWith c s code (List.replicate 7 0)

/-- A handle word names the record of a slot: its slot number and the slot's present generation (R3). -/
def Names (s : State) (h : Word) (i : Fin 48) (p : Permit) : Prop :=
  (h.extractLsb' 0 8).toNat = i.val ∧ s.slots[i].permit = some p ∧ s.slots[i].generation = h.extractLsb' 8 8

/-- A handle word is stale (R3). -/
def Stale (s : State) (h : Word) : Prop := ∀ i p, ¬Names s h i p

/-- What no event changes but by its own effect, settled or not: the levels of key and door, order memory, the
transaction, the runner, the clock, mode and profiles, time and the model's own fields, and what the buses hold. -/
def SettledFrom (s t : State) : Prop :=
  t.crewKey = s.crewKey ∧ t.door = s.door ∧ t.buses = s.buses ∧ t.orderMemory = s.orderMemory ∧
  t.transaction = s.transaction ∧ t.runner = s.runner ∧ t.now = s.now ∧ t.loaded = s.loaded ∧ t.answer = s.answer ∧
  t.draws = s.draws ∧ t.pending = s.pending ∧ t.unit = { s.unit with startUp := t.unit.startUp }

/-- What a grant, an amendment and a revocation leave of a record: the fields that no later claim changes, and REVOKED
with its reason (R1, R18). -/
def Stands (p q : Permit) : Prop :=
  q.kind = p.kind ∧ q.holder = p.holder ∧ q.scope = p.scope ∧
    (p.state = .revoked → q.state = .revoked ∧ q.reason = p.reason ∧ q.holdEnd = p.holdEnd)

/-- The profile's hold times lie in their ranges (R190). -/
def HoldsInRange (p : Profile) : Prop := p.riseHold ≤ 60 ∧ p.revokedHold ≤ 3600

/-- The hold times of the blocks' copy, of the working copy and of a stored copy that a load would take lie in their
ranges (R190, R191). -/
def ProfilesInRange (s : State) : Prop :=
  HoldsInRange s.unit.active ∧ HoldsInRange s.unit.working ∧
    (s.unit.stored.agrees = true → HoldsInRange (Profile.ofWords s.unit.stored.words))

/-- The numbers of a record lie in their fields' ranges (R1, R6, R12, R18). -/
def InRanges (s : State) (p : Permit) : Prop :=
  p.effective ≤ 8000 ∧ p.requested ≤ 8000 ∧ (∀ l, p.leasePeriod = some l → l ≤ 60) ∧
  (∀ e, p.leaseEnd = some e → e ≤ s.now + Config.sec 60) ∧
  (∀ l r, p.limits = some l → l.rise = some r → r.value ≤ 8000 ∧ r.holdEnd ≤ s.now + Config.sec 60) ∧
  (∀ e, p.holdEnd = some e → e ≤ s.now + Config.sec 3600) ∧
  ∀ e, p.expiry = some e → e.day ≤ 65535 ∧ e.second ≤ 86399

/-- The numbers of every record lie in their fields' ranges. -/
def RecordsInRange (s : State) : Prop := ∀ i p, Holds s i p → InRanges s p

/-- Command `c` answers the settling of `u`, which the hand-offs of the event leave as they leave any state. -/
def Settles (c : Instr) (s u : State) : Prop := exec c s = .next u.settle ∧ SettledFrom u u.settle

/-- A frame is taken: the link is alive, its reply waits at the tail of the queue, and besides slots, breaker and
contactors nothing else has changed before the event settles (R165). -/
def Replied (c : Instr) (s u : State) (r : OutFrame) : Prop :=
  Settles c s u ∧
  u = { s with
    slots := u.slots, breaker := u.breaker, contactors := u.contactors, serving := u.serving, link := u.link
    attention := u.attention } ∧
  u.link = { s.link with
    state := .up (s.now + Config.ms (100 * s.unit.active.linkTimeout)), buffer := [], dc := u.link.dc
    queue := s.link.queue ++ [r] } ∧
  (s.link.state = .down → u.flagged .link = true)

/-- The `n` bits of a result from bit `pos` on, counted from bit 0 of result 0 and within one word, hold a value (11.1.6). -/
def Shows (results : List Word) (pos n v : Nat) : Prop :=
  ((results.getD (pos / 16) 0).extractLsb' (pos % 16) n).toNat = v % 2 ^ n

/-- An optional field: its presence bit at `flag`, and at `pos` its value, 0 while it is absent (11.1.6, log 16). -/
def ShowsOpt (results : List Word) (flag pos n : Nat) (x : Option Nat) : Prop :=
  Shows results flag 1 x.isSome.toNat ∧ Shows results pos n (x.getD 0)

/-- The time left until `e` in units of `unit` quanta, rounded up (11.1.6). -/
def timeLeft (unit now e : Nat) : Nat := (e - now + (unit - 1)) / unit

/-- A signed value in two's complement of `n` bits. -/
def twos (n : Nat) (x : Int) : Nat := (x % (2 ^ n : Nat)).toNat

/-- `n` clock periods of the serial port, each a falling and then a rising edge, with the bits `d` on data in. -/
def clocked (d : Nat → Bool) : Nat → State → State
  | 0, s => s
  | n + 1, s => (clocked d n s).clockFall.clockRise (d n)

end Sys2Proof.Claims

open Sys2Proof Sys2Proof.Machine Sys2Proof.Safety Sys2Proof.Claims

/-! ### The queue and the step -/

/-- A step runs the command at the front of the queue with the queue's rest. -/
def Obligations.StepRunsFrontOfQueue : Prop :=
  ∀ (c : Instr) (rest : List Instr) (s : State), s.pending = c :: rest → step s = exec c { s with pending := rest }

/-- On an empty queue the runner writes what an owner answered, and the order in progress ends; else an order that the
runner handed over is taken by its owner; with none, a quantum of time passes, and nothing else changes but a TARGET frame
whose header has ended: its values are built from the string record, once (the model's choices: log 1, 3, 5, 25). -/
def Obligations.EmptyQueueServesOrderOrTime : Prop :=
  ∀ s : State, s.pending = [] →
    (∀ slot x w stop a, s.runner.state = .running slot x w stop (.answered a) →
      step s = .next (match s.endOrder slot x stop a with
        | (t, none) => t
        | (t, some n) => State.takeSlot 33 n t)) ∧
    (∀ c slot x w stop, Handed s c slot x w stop → step s = exec c s) ∧
    ((∀ slot x w stop a, s.runner.state ≠ .running slot x w stop (.answered a)) → s.handedOrder = none →
      ∃ t, step s = .next t ∧ t.now = s.now + 1 ∧ t = { s with now := t.now, buses := t.buses } ∧
      ∀ b : Fin 8, t.buses[b] = { s.buses[b] with frame := t.buses[b].frame } ∧
        (s.buses[b].frame = none → t.buses[b].frame = none) ∧
        ∀ f, s.buses[b].frame = some f → t.buses[b].frame = some { f with
          built := (if f.kind = .target ∧ f.gapEnd = none ∧ f.built = none ∧ f.start + 34 * 3750 ≤ s.now + 1 then
            some ⟨s.strings[b].bleedTarget, s.strings[b].bleeding⟩ else f.built) })

/-! ### Reset and start-up -/

/-- What a reset leaves, and what it keeps. That the levels the lines read carry over, and that a reset is one event, is the
model's choice (log 26); the working copy and the two checks stand until the load (log 10). -/
def Obligations.ResetLeavesResetValues : Prop :=
  ∀ (s : State) (c : Instr), c = .powerOn ∨ c = .resetLine → ∃ t, exec c s = .next t ∧
    (∀ i : Fin 48, t.slots[i] = ⟨0, none⟩) ∧ t.doorReleased = false ∧ t.crewKey = s.crewKey ∧
    t.door = ⟨true, some ⟨s.door.level, s.now⟩⟩ ∧
    (∀ i : Fin 8, t.strings[i] =
      { fitted := false, onlineCount := 0, voltage := 0, minCell := 0, minPlace := none, maxCell := 0, maxPlace := none
        minTemp := 0, maxTemp := 0, band := 3, bandChanged := false, chargeEnvelope := 0, dischargeEnvelope := 0
        cause := .outOfService, bleedTarget := 0, bleeding := false }) ∧
    (∀ b : Fin 8, t.buses[b] =
      { state := .off, frame := none, lastFailure := none, lastTarget := none, roster := []
        rollCall := ⟨.idle, 0, 0, false, []⟩, round := ⟨0, none, none, none⟩
        switchPending := false, maskChanged := false }) ∧
    (∀ k : Fin 4, t.fire[k].state = .quiet ∧
      t.fire[k].smokeA.condition = .fault ∧ t.fire[k].smokeA.candidate = some ⟨s.fire[k].smokeA.level, s.now⟩ ∧
      t.fire[k].smokeB.condition = .fault ∧ t.fire[k].smokeB.candidate = some ⟨s.fire[k].smokeB.level, s.now⟩ ∧
      t.fire[k].gas = .unavailable ∧ t.fire[k].heat = .unavailable ∧ t.fire[k].activeCount = 0 ∧
      t.fire[k].availableCount = 0 ∧ t.fire[k].degraded = true ∧ t.fire[k].manual = ⟨false, false, false⟩ ∧
      t.fire[k].releaseOutput = false ∧ t.fire[k].containment = .none ∧ t.fire[k].gasList = [] ∧
      t.fire[k].band7Even = false ∧ t.fire[k].band7Odd = false ∧
      t.fire[k].hold = ⟨false, some ⟨s.fire[k].hold.level, s.now⟩⟩) ∧
    (∀ k : Fin 4, t.cooling[k] =
      { even := ⟨false, 3, false⟩, odd := ⟨false, 3, false⟩, demand := 0, heaterDemand := false, running := 0
        runOnEnd := none, containment := .none, flow := s.cooling[k].flow, flowFault := false, flowTimer := none
        outputs := ⟨false, false, false, false, false, false⟩ }) ∧
    (∀ i : Fin 8, t.contactors[i].unmet.isEmpty = false ∧ t.contactors[i] =
      { fitted := false, state := .opened, failures := 0, retryEnd := none, unmet := t.contactors[i].unmet
        isolating := none, mainClosed := false, prechargeClosed := false, feedback := s.contactors[i].feedback
        feedbackTimer := none }) ∧
    t.serving = none ∧
    t.breaker =
      { state := .opened
        feedbackTimer := if s.breaker.feedback then some (s.now + Config.ms 300) else none
        commandedClosed := false, closePulse := false, openPulse := false, feedback := s.breaker.feedback
        grid := ⟨false, some ⟨s.breaker.grid.level, s.now⟩⟩
        reconnectEnd := none, gridAvailable := false, armed := false } ∧
    t.link = ⟨.down, [], .idle, false, none, none, 0, none, []⟩ ∧ t.orderMemory = [] ∧ t.transaction = .released ∧
    t.runner = ⟨.idle none, 0, false⟩ ∧ t.attention = ⟨0, 0, false⟩ ∧
    t.unit.mode = .commissioning ∧ t.unit.working = s.unit.working ∧ t.unit.storedGood = s.unit.storedGood ∧
    t.unit.committed = s.unit.committed ∧ t.unit.startUp.phase = .running (s.now + Config.sec 20) ∧
    t.unit.writing = none ∧ (∀ b : Fin 8, t.unit.startUp.buses[b] = ⟨.notFitted, false⟩) ∧
    (s.unit.writing = none → t.unit.stored = s.unit.stored) ∧
    (s.unit.writing.isSome = true → t.unit.stored.checksum = none) ∧
    (c = .powerOn → t.unit.clock = ⟨0, 0⟩ ∧ t.unit.nextSecond = s.now + Config.sec 1) ∧
    (c = .resetLine → t.unit.clock = s.unit.clock ∧ t.unit.nextSecond = s.unit.nextSecond) ∧
    t.now = s.now ∧ t.loaded = false ∧ t.pending = s.pending

/-- The start-up load takes mode, working copy and checks by the comparison of the stored checksum, and hands the profile to
every block; the start-up limit ends start-up while it runs, with the START flag and no other effect. From the load on, the
settling of an event ends start-up with cause COMPLETE exactly when every bus reads NOT_FITTED, POLLED or FAILED, and an ended
start-up stands (order of hand-offs: log 6; before the load: log 27). -/
def Obligations.StartUpLoadAndTimeLimit : Prop :=
  (∀ s : State, s.loaded = false →
     ∃ t, exec .startUpProfileLoad s = .next t ∧ t.loaded = true ∧ t.unit.stored = s.unit.stored ∧
       t.unit.active = t.unit.working ∧ t.link.rate = some t.unit.working.linkRate ∧ t.link.buffer = [] ∧
       (s.unit.stored.checksum = some (~~~(s.unit.stored.words.foldl (· + ·) 0)) →
         t.unit.working = Profile.ofWords s.unit.stored.words ∧ t.unit.storedGood = true ∧ t.unit.committed = true ∧
           t.unit.mode = t.unit.working.startMode) ∧
       (s.unit.stored.checksum ≠ some (~~~(s.unit.stored.words.foldl (· + ·) 0)) →
         t.unit.working = Profile.default ∧ t.unit.storedGood = false ∧ t.unit.committed = false ∧
           t.unit.mode = .commissioning ∧ t.flagged .profile = true) ∧
       (∀ i : Fin 8, t.strings[i].fitted = t.unit.working.isFitted i ∧
         t.contactors[i].fitted = t.unit.working.isFitted i ∧
         t.buses[i].state = if t.unit.working.isFitted i then .selftest (s.now + Config.selfTestTime)
           else s.buses[i].state) ∧
       t.orderMemory = s.orderMemory ∧ t.runner = s.runner ∧ t.unit.clock = s.unit.clock ∧ t.crewKey = s.crewKey) ∧
  (∀ (s : State) (e : Nat), s.unit.startUp.phase = .running e →
    exec .startUpTimeLimit s = .next
      { s with
        unit := { s.unit with startUp := { s.unit.startUp with phase := .ended .timeLimit } }
        attention :=
          { flags := s.attention.flags ||| 1#10, enables := s.attention.enables
            line := ((s.attention.flags ||| 1#10) &&& s.attention.enables) != 0 } }) ∧
  ∀ (s : State) (t : State), t = s.settle →
    let there := s.loaded = true ∧ ∀ b : Fin 8,
      let read := s.unit.startUp.buses[b].progress
      read = .notFitted ∨ read = .polled ∨ read = .failed
    t.unit.startUp.buses = s.unit.startUp.buses ∧
    (∀ e, s.unit.startUp.phase = .running e →
      (there → t.unit.startUp.phase = .ended .complete ∧ t.flagged .start = true) ∧
      (¬there → t.unit.startUp.phase = .running e)) ∧
    ∀ c, s.unit.startUp.phase = .ended c → t.unit.startUp.phase = .ended c

/-- The reset state meets the invariants. -/
def Obligations.ResetStateIsSafe : Prop :=
  MemoryCanonical State.reset ∧ LineFollowsFlags State.reset ∧ BreakerOutputsFollowState State.reset ∧
  LimitsFollowKind State.reset ∧ ClosedUnderLiveConnect State.reset ∧ OneLimitPermitPerString State.reset ∧
  OneConnect State.reset ∧ LimitRecordsSound State.reset ∧ EffectiveWithinTarget State.reset ∧
  ContactorOutputsFollowState State.reset ∧ UnfittedOpen State.reset ∧ IsolatedAtRest State.reset ∧
  PathServesOne State.reset ∧ AlarmRevokes State.reset ∧ AlarmOpens State.reset ∧ ContainmentHeld State.reset ∧
  CoolingFollows State.reset ∧ ReleaseOnlyInPulse State.reset ∧ CountdownUnattended State.reset ∧
  EnvelopesZero State.reset ∧ RunBounded State.reset ∧ RostersOrdered State.reset ∧ DoorFollowsEntry State.reset ∧
  ServiceFollowsConditions State.reset ∧ LinkBounded State.reset ∧ ProfilesInRange State.reset ∧
  RecordsInRange State.reset

/-! ### The window and the runner -/

/-- A word written to order memory is stored: its two bytes, low half first (the order of bytes is log 31), and every
other byte of order memory stands. An outcome word too is stored as written, with bit 15 set as with bit 15 clear: the model's
choice between R174 and R175 (log 40). A write to the Attention Summary clears the flags written with a 1 and no other, and a
write to the enable word is stored; the line follows. A write outside the areas that take one, or a runner control word that
names no command, has no effect on the part; WINDOW_WRITE_OTHER at any other address is the command of its area (the model's
choice: log 28). Each leaves the transaction as the 16th edge of its data word does, and sixteen rising edges of a data word
are that command (the rows are whole words: log 28). -/
def Obligations.WindowWritesByArea : Prop :=
  (∀ (s : State) (slot : BitVec 5) (word : BitVec 4) (v : Word), Memory.wf s.orderMemory = true →
    ∃ m, exec (.orderMemoryWrite slot word v) s = .next
        { s with orderMemory := m, transaction := .write (slotWordAddress slot word + 1) [] } ∧
      Memory.read m (2 * slotAddress slot word.toNat) = v.extractLsb' 0 8 ∧
      Memory.read m (2 * slotAddress slot word.toNat + 1) = v.extractLsb' 8 8 ∧
      Memory.readWord m (slotAddress slot word.toNat) = v ∧
      ∀ a, a ≠ 2 * slotAddress slot word.toNat → a ≠ 2 * slotAddress slot word.toNat + 1 →
        Memory.read m a = Memory.read s.orderMemory a) ∧
  (∀ (s : State) (v : Word),
     (∃ a, exec (.attentionSummaryWrite v) s = .next { s with attention := a, transaction := .write 0x204 [] } ∧
       a.enables = s.attention.enables ∧ (a.line = true ↔ ∃ n < 10, (a.flags &&& a.enables).getLsbD n = true) ∧
       ∀ n < 10, a.flags.getLsbD n = (s.attention.flags.getLsbD n && !v.getLsbD n)) ∧
     (∃ a, exec (.attentionEnableWrite v) s = .next { s with attention := a, transaction := .write 0x205 [] } ∧
       a.flags = s.attention.flags ∧ (a.line = true ↔ ∃ n < 10, (a.flags &&& a.enables).getLsbD n = true) ∧
       ∀ n < 10, a.enables.getLsbD n = v.getLsbD n)) ∧
  (∀ (s : State) (a : BitVec 10) (v : Word),
    (wellFormed (.windowWriteOther a v) = true →
      exec (.windowWriteOther a v) s = .next { s with transaction := .write (a + 1) [] }) ∧
    (a.toNat < 0x200 →
      exec (.windowWriteOther a v) s = exec (.orderMemoryWrite (a.extractLsb' 4 5) (a.extractLsb' 0 4) v) s) ∧
    (a = 0x200 → v.extractLsb' 14 2 = 1#2 → exec (.windowWriteOther a v) s = exec (.run (v.extractLsb' 0 5)) s) ∧
    (a = 0x200 → v.extractLsb' 14 2 = 2#2 → exec (.windowWriteOther a v) s = exec .stop s) ∧
    (a = 0x203 → exec (.windowWriteOther a v) s = exec (.attentionSummaryWrite v) s) ∧
    (a = 0x204 → exec (.windowWriteOther a v) s = exec (.attentionEnableWrite v) s)) ∧
  ∀ (s : State) (a : BitVec 10) (v : Word), s.transaction = .write a [] →
    exec (writeCommand a v) s = .next (s.clockIn (wordBits v)) ∧
    ∀ n < 16, s.clockIn ((wordBits v).take n) = { s with transaction := .write a ((wordBits v).take n) } ∧
      (s.clockIn ((wordBits v).take n)).deselect = { s with transaction := .released }

/-- The phases of a transaction of the serial port. Select begins it at the header and its release ends it, a word with fewer
than 16 edges being dropped; the 16 bits of a header set direction and address; a read transaction captures the word at the
address at its first falling edge and shifts it out, the most significant bit first, whatever happens to the window meanwhile,
and then stands at the next address; under the reset line nothing is taken. Every read word is that of its area, the two runner
status words among them, and a read changes nothing but the transaction (the phases and when data out floats: log 28). -/
def Obligations.TransactionsSelectHeaderAndRead : Prop :=
  (∀ s : State, s.transaction = .resetHeld → ∀ d,
    s.select = s ∧ s.deselect = s ∧ s.clockRise d = s ∧ s.clockFall = s ∧ s.dataOut = none) ∧
  (∀ s : State, s.transaction ≠ .resetHeld →
    s.select = { s with transaction := .header [] } ∧ s.deselect = { s with transaction := .released } ∧
    s.select.dataOut = none ∧ s.deselect.dataOut = none ∧ ∀ d, s.deselect.clockRise d = s.deselect) ∧
  (∀ (s : State) (v : Word), s.transaction = .header [] →
    (v.getLsbD 15 = true → s.clockIn (wordBits v) = { s with transaction := .write (v.extractLsb' 0 10) [] }) ∧
    (v.getLsbD 15 = false → s.clockIn (wordBits v) = { s with transaction := .read (v.extractLsb' 0 10) none [] }) ∧
    (∀ n < 16, s.clockIn ((wordBits v).take n) = { s with transaction := .header ((wordBits v).take n) }) ∧
    (s.clockIn (wordBits v)).dataOut = none) ∧
  (∀ (s : State) (a : BitVec 10) (x : Option DataOut) (d : Nat → Bool), s.transaction = .read a x [] →
    let w := windowRead s a
    (∀ n < 16, ∀ t : State, t.transaction = (clocked d n s).transaction → (1 ≤ n ∨ t = s) →
      t.clockFall.dataOut = some (w.getLsbD (15 - n))) ∧
    (∀ n, clocked d n s = { s with transaction := (clocked d n s).transaction }) ∧
    clocked d 16 s = { s with transaction := .read (a + 1) (some ⟨w, w.getLsbD 0⟩) [] }) ∧
  ∀ (s : State) (a : BitVec 10),
    let w := windowRead s a
    let flag := fun (b : Bool) (n : Nat) => w.getLsbD n = b
    (a.toNat < 0x200 → w = Memory.readWord s.orderMemory a.toNat) ∧ (a = 0x200 ∨ 0x205 ≤ a.toNat → w = 0) ∧
    (a = 0x203 → ∀ n, w.getLsbD n = s.attention.flags.getLsbD n) ∧
    (a = 0x204 → ∀ n, w.getLsbD n = s.attention.enables.getLsbD n) ∧
    (a = 0x201 → s.runner.executed < 64 →
      (w.extractLsb' 8 8).toNat = s.runner.executed ∧
      (s.runner.state = .idle none → w.extractLsb' 0 8 = 0) ∧
      (∀ n, s.runner.state = .idle (some n) →
        w.extractLsb' 0 2 = 0 ∧ flag true 2 ∧ w.extractLsb' 3 5 = n) ∧
      (∀ n y b q p, s.runner.state = .running n y b q p →
        w.extractLsb' 0 2 = 1 ∧ flag true 2 ∧ w.extractLsb' 3 5 = n) ∧
      ∀ n r, s.runner.state = .halted n r → w.extractLsb' 0 2 = 2 ∧ flag true 2 ∧ w.extractLsb' 3 5 = n) ∧
    (a = 0x202 → flag s.runner.runRefused 4 ∧ w.extractLsb' 5 11 = 0 ∧
      (∀ n y b q p, s.runner.state = .running n y b q p → flag b 0 ∧ flag q 1 ∧ w.extractLsb' 2 2 = 0) ∧
      (∀ x, s.runner.state = .idle x → w.extractLsb' 0 4 = 0) ∧
      ∀ n r, s.runner.state = .halted n r → w.extractLsb' 0 2 = 0 ∧
        w.extractLsb' 2 2 = (match r with
          | .refused => 1
          | .chainLong => 2
          | .stopped => 3))

/-- A RUN begins a run in IDLE and HALTED, its first slot taken in the same event, and is refused in RUNNING; a STOP sets
stop requested in RUNNING, and takes no action in IDLE and HALTED. A slot taken: the order limit, the snapshot, the gate and the
hand-off, in this order; waiting is set from the snapshot on for COMMIT-PROFILE (code 26), the time-taking order. -/
def Obligations.RunsStopAndTakeSlots : Prop :=
  (∀ (s : State) (slot : BitVec 5),
     (∀ x, s.runner.state = .idle x →
       exec (.run slot) s = .next { State.takeSlot 33 slot { s with runner := ⟨.idle x, 0, false⟩ } with
         transaction := .write 0x201 [] }) ∧
     (∀ x r, s.runner.state = .halted x r →
       exec (.run slot) s = .next { State.takeSlot 33 slot { s with runner := ⟨.halted x r, 0, false⟩ } with
         transaction := .write 0x201 [] }) ∧
     (∀ x y w q a, s.runner.state = .running x y w q a →
       exec (.run slot) s = .next { s with
         runner := { s.runner with runRefused := true }, transaction := .write 0x201 [] } ∧
       exec .stop s = .next { s with
         runner := { s.runner with state := .running x y w true a }, transaction := .write 0x201 [] }) ∧
     ((∀ x y w q a, s.runner.state ≠ .running x y w q a) →
       exec .stop s = .next { s with transaction := .write 0x201 [] })) ∧
  ∀ (s : State) (slot : BitVec 5) (n : Nat),
    (32 ≤ s.runner.executed → ∃ t, State.takeSlot (n + 1) slot s = t ∧
      t.runner = { s.runner with state := .halted slot .chainLong } ∧ t.flagged .chain = true ∧
      t = { s with runner := t.runner, attention := t.attention }) ∧
    (s.runner.executed < 32 →
      (s.gate (s.snapshotOf slot).order = none →
        State.takeSlot (n + 1) slot s = { s with runner :=
          { s.runner with
            state := .running slot (s.snapshotOf slot) ((s.snapshotOf slot).code.toNat == 26) false .handed
            executed := s.runner.executed + 1 } }) ∧
      (∀ r, s.gate (s.snapshotOf slot).order = some r →
        ∃ t next, (s.takeSnapshot slot).endOrder slot (s.snapshotOf slot) false ⟨some r, List.replicate 7 0⟩ = (t, next) ∧
          State.takeSlot (n + 1) slot s = match next with
            | none => t
            | some m => State.takeSlot n m t))

/-- The gate: UNKNOWN for a code that names no order, NOT_READY before start-up ends for an order that is no read order,
MODE for an order whose class the mode does not allow. An order given directly that the gate refuses is answered with the
gate's code, and nothing else happens (the direct way is the model's choice: log 4). -/
def Obligations.GateChecksInOrder : Prop :=
  (∀ (s : State) (x : Snapshot),
     (x.code.toNat = 0 ∨ 26 < x.code.toNat → s.gate x.order = some .unknown) ∧
     (1 ≤ x.code.toNat ∧ x.code.toNat ≤ 10 → s.gate x.order = none) ∧
     (11 ≤ x.code.toNat ∧ x.code.toNat ≤ 26 →
       ((∃ e, s.unit.startUp.phase = .running e) → s.gate x.order = some .notReady) ∧
       ((∃ c, s.unit.startUp.phase = .ended c) →
         s.gate x.order =
           if (x.code.toNat = 16 ∧ s.unit.mode ≠ .operating) ∨ (x.code.toNat = 18 ∧ s.unit.mode = .commissioning) ∨
               (x.code.toNat = 19 ∧ s.unit.mode ≠ .maintenance) ∨ (x.code.toNat = 22 ∧ s.unit.mode = .operating) ∨
               ((x.code.toNat = 25 ∨ x.code.toNat = 26) ∧ s.unit.mode ≠ .commissioning) then some .mode
           else none))) ∧
  ∀ (s : State) (c : Instr) (r : RefCode), (orderClass c).isSome = true → s.handedOrder ≠ some c →
    s.gate (some c) = some r → exec c s = .next { s with answer := some ⟨some r, List.replicate 7 0⟩ }

/-- The end of an order: outcome and results written as one write of the slot's words 8 to 15, CHAIN by the notify marks
and at every halt and end, and how the run goes on. -/
def Obligations.OrderEndWritesOutcomeAndGoesOn : Prop :=
  ∀ (s : State) (slot : BitVec 5) (x : Snapshot) (stop : Bool) (code : Option RefCode) (results : List Word),
    results.length = 7 → Memory.wf s.orderMemory = true →
    ∃ t next, s.endOrder slot x stop ⟨code, results⟩ = (t, next) ∧
      t = { s with orderMemory := t.orderMemory, attention := t.attention, runner := t.runner } ∧
      Memory.readWord t.orderMemory (slotAddress slot 8) =
        (match code with
          | none => 0x8000
          | some r => BitVec.ofNat 16 (0xC000 + r.code)) ∧
      (∀ n < 7, Memory.readWord t.orderMemory (slotAddress slot (9 + n)) = results.getD n 0) ∧
      (∀ a, a < 2 * slotAddress slot 8 ∨ 2 * slotAddress slot 16 ≤ a →
        Memory.read t.orderMemory a = Memory.read s.orderMemory a) ∧
      (t.flagged .chain = true ↔ s.flagged .chain = true ∨ next = none ∨
        x.control.getLsbD (if code.isSome then 8 else 7) = true) ∧
      (code.isSome = true ∧ x.control.getLsbD 6 = true →
        next = none ∧ t.runner.state = .halted slot .refused) ∧
      (¬(code.isSome = true ∧ x.control.getLsbD 6 = true) → stop = true →
        next = none ∧ t.runner.state = .halted slot .stopped) ∧
      (¬(code.isSome = true ∧ x.control.getLsbD 6 = true) → stop = false → x.control.getLsbD 5 = true →
        next = none ∧ t.runner.state = .idle (some slot)) ∧
      (¬(code.isSome = true ∧ x.control.getLsbD 6 = true) → stop = false → x.control.getLsbD 5 = false →
        next = some (x.control.extractLsb' 0 5) ∧ t.runner = s.runner) ∧
      t.runner.executed = s.runner.executed ∧ t.runner.runRefused = s.runner.runRefused

/-! ### Read orders -/

/-- LOOKUP of a valid handle returns the record and clears its changed mark, and nothing else changes; a stale handle
is refused. The words are those of 11.1.5, absent fields reading as 0, for a record whose fields are in their ranges
(model's choices: given directly: log 4). -/
def Obligations.LookupReturnsRecordAndClearsMark : Prop :=
  ∀ (s : State) (h : Word),
    (Stale s h → Refused (.lookup h) s .stale) ∧
    ∀ i p, Names s h i p → ∃ r0 r1 r2 r3 r4 r5 r6 : Word,
      Answers (.lookup h) s (s.setPermit i { p with changed := false }) ⟨none, [r0, r1, r2, r3, r4, r5, r6]⟩ ∧
      (InRanges s p →
        r0.extractLsb' 0 8 = p.scope ∧ (r0.extractLsb' 8 6).toNat = p.leasePeriod.getD 0 ∧
        r0.getLsbD 14 = p.changed ∧ r0.getLsbD 15 = p.notice ∧
        (r1.extractLsb' 13 3).toNat = p.kind.code ∧
        (p.state = .live ∨ p.state = .pending → (r1.extractLsb' 0 13).toNat = p.effective) ∧
        (∀ r, p.state = .suspended ∨ p.state = .revoked → p.reason = some r →
          (r1.extractLsb' 0 4).toNat = r.report.code ∧
          (∀ n c, r = .envelope n c → (r1.extractLsb' 4 3).toNat = n.val ∧ (r1.extractLsb' 7 4).toNat = c.code) ∧
          ((∀ n c, r ≠ .envelope n c) → r1.extractLsb' 4 7 = 0)) ∧
        (r2.extractLsb' 0 13).toNat = p.requested ∧ (r2.extractLsb' 13 3).toNat = p.state.code ∧
        (∀ l r, p.state = .live ∨ p.state = .suspended → p.limits = some l → l.rise = some r →
          (r3.extractLsb' 0 13).toNat = r.value ∧
          (r4.extractLsb' 6 6).toNat = (r.holdEnd - s.now + 71999999) / 72000000) ∧
        ((∀ l, p.limits = some l → l.rise = none) →
          r4.extractLsb' 6 6 = 0 ∧ (p.state ≠ .revoked → r3.extractLsb' 0 13 = 0)) ∧
        (∀ e, p.state = .revoked → p.holdEnd = some e →
          (r3.extractLsb' 0 13).toNat = (e - s.now + 71999999) / 72000000) ∧
        (r3.extractLsb' 13 2).toNat = p.holder.code ∧
        (∀ e, p.leaseEnd = some e → (r4.extractLsb' 0 6).toNat = (e - s.now + 71999999) / 72000000) ∧
        (p.leaseEnd = none → r4.extractLsb' 0 6 = 0) ∧
        r4.getLsbD 12 = p.autoReclose ∧
        (∀ e, p.expiry = some e →
          r5.toNat = e.day ∧ r6.toNat + 65536 * (r3.getLsbD 15).toNat = e.second) ∧
        (p.expiry = none → r5 = 0xFFFF ∧ r6 = 0xFFFF ∧ r3.getLsbD 15 = true))

/-- FIND returns the handle of the lowest-numbered slot that holds a permit of the kind whose scope holds the string,
of any state, or "none"; it changes nothing, and a code or a string that names nothing is refused FIELD. NEXT-CHANGED clears
the changed mark of the lowest-numbered slot that has one and of no other, and returns its handle, state and effective limit
(no presence bit: log 16); with no mark it returns "none" and changes nothing (model's choices: given directly: log 4). -/
def Obligations.FindAndNextChangedByLowestSlot : Prop :=
  (∀ (s : State) (kind string : Word),
      (kind = 0 ∨ 5 < kind.toNat → Refused (.find kind string) s .field) ∧
      (2 ≤ kind.toNat ∧ kind.toNat ≤ 5 → 7 < string.toNat → Refused (.find kind string) s .field) ∧
      (1 ≤ kind.toNat ∧ kind.toNat ≤ 5 → kind = 1 ∨ string.toNat ≤ 7 →
        let hit := fun (i : Fin 48) => ∃ p, s.slots[i].permit = some p ∧ p.kind.code = kind.toNat ∧
          (kind ≠ 1 → p.scope.getLsbD string.toNat = true)
        ((∀ i, ¬hit i) → Answers (.find kind string) s s ⟨none, 0xFFFF :: List.replicate 6 0⟩) ∧
        ∀ i, hit i → (∀ j, j < i → ¬hit j) →
          Answers (.find kind string) s s
            ⟨none, (s.slots[i].generation ++ BitVec.ofNat 8 i.val) :: List.replicate 6 0⟩)) ∧
  ∀ s : State,
    ((∀ i p, Holds s i p → p.changed = false) → Answers .nextChanged s s ⟨none, 0xFFFF :: List.replicate 6 0⟩) ∧
    ∀ i p, Holds s i p → p.changed = true → (∀ j q, j < i → Holds s j q → q.changed = false) →
      Answers .nextChanged s (s.setPermit i { p with changed := false })
        ⟨none, (s.slots[i].generation ++ BitVec.ofNat 8 i.val) ::
          BitVec.ofNat 16 (p.state.code + 8 * p.effective) :: List.replicate 5 0⟩

/-- READ-STRING clears the band-changed mark of its string and changes nothing else, on either page; its words are those of
R57 (the places of band and mark on page 0 are log 35). READ-MODULE, READ-BAY, READ-CONNECTION, READ-CLOCK and READ-PROFILE
change nothing; operands outside the ranges of their rules are refused FIELD. READ-MODULE's words are those of R99: of the bus
for address 0, of the entry, or "no entry" (its word is log 17); the summary values of page 1 stand behind their presence bit
(log 16), and a cell count above 31 is free (log 32). READ-CLOCK returns day and second, bit 16 of the second at bit 0 of the
third result word (log 15). READ-LINK clears the overrun mark and changes nothing else (model's choices: given directly: log
4; codes and the polarity of flags and presence bits: log 18). -/
def Obligations.ReadOrdersChangeMarksAlone : Prop :=
  (∀ (s : State) (string page : Word),
      (7 < string.toNat ∨ 1 < page.toNat → Refused (.readString string page) s .field) ∧
      ∀ i : Fin 8, string.toNat = i.val → page.toNat ≤ 1 → ∃ results : List Word, results.length = 7 ∧
        Answers (.readString string page) s (s.setString i { s.strings[i] with bandChanged := false }) ⟨none, results⟩ ∧
        let r := s.strings[i]
        let place := fun (pos : Nat) (x : Option CellPlace) => Shows results pos 1 x.isSome.toNat ∧
          Shows results (pos + 1) 5 ((x.map (·.address)).getD 0) ∧ Shows results (pos + 6) 5 ((x.map (·.position)).getD 0)
        (page = 0 →
          Shows results 0 5 r.onlineCount ∧ Shows results 5 3 r.band.val ∧ Shows results 8 1 r.bandChanged.toNat ∧
          Shows results 16 16 r.voltage ∧ Shows results 32 16 r.minCell ∧ place 48 r.minPlace ∧
          Shows results 64 16 r.maxCell ∧ place 80 r.maxPlace ∧ Shows results 96 8 (twos 8 r.minTemp) ∧
          Shows results 104 8 (twos 8 r.maxTemp)) ∧
        (page = 1 →
          Shows results 0 1 r.fitted.toNat ∧ Shows results 1 3 r.band.val ∧ Shows results 4 1 r.bandChanged.toNat ∧
          Shows results 5 10 r.chargeEnvelope ∧ Shows results 16 10 r.dischargeEnvelope ∧
          Shows results 26 4 r.cause.code ∧ Shows results 32 16 r.bleedTarget ∧ Shows results 48 1 r.bleeding.toNat)) ∧
  (∀ (s : State) (a b c : Word),
     (if 7 < a.toNat ∨ 24 < b.toNat ∨ 1 < c.toNat then Refused (.readModule a b c) s .field
       else ∃ results, Answers (.readModule a b c) s s ⟨none, results⟩) ∧
     (∀ bus : Fin 8, a.toNat = bus.val → 1 ≤ b.toNat → b.toNat ≤ 24 → c.toNat ≤ 1 →
       s.buses[bus].entry b.toNat = none → Answers (.readModule a b c) s s ⟨none, 0xFFFF :: List.replicate 6 0⟩) ∧
     (∀ bus : Fin 8, a.toNat = bus.val → b = 0 → c.toNat ≤ 1 → ∃ r : List Word, r.length = 7 ∧
       Answers (.readModule a b c) s s ⟨none, r⟩ ∧
       let x := s.buses[bus]
       (c = 0 →
         Shows r 0 3 (match x.state with
           | .off => 0
           | .selftest _ => 1
           | .waking _ _ => 2
           | .rollcall => 3
           | .polling => 4
           | .stuck _ _ => 5
           | .failed _ => 6) ∧
         ShowsOpt r 3 4 1 (match x.state with
           | .stuck .low _ => some 0
           | .stuck .high _ => some 1
           | _ => none) ∧
         ShowsOpt r 5 6 1 (match x.state with
           | .failed second => some second.toNat
           | _ => none) ∧
         ShowsOpt r 7 8 3 (x.lastFailure.map fun f => match f.kind with
           | .echo => 0
           | .framing => 1
           | .noise => 2
           | .short => 3
           | .check => 4) ∧
         Shows r 11 5 ((x.lastFailure.map (·.address)).getD 0) ∧
         ShowsOpt r 16 32 16 (x.lastTarget.map (·.millivolts)) ∧
         Shows r 48 1 ((x.lastTarget.map (·.enable.toNat)).getD 0)) ∧
       (c = 1 →
         Shows r 0 8 (match x.rollCall.progress with
           | .idle => 0
           | .running => 1
           | .abandoned => 255) ∧
         Shows r 8 5 x.rollCall.found ∧ Shows r 16 5 x.rollCall.extra ∧ Shows r 21 1 x.rollCall.requested.toNat ∧
         Shows r 22 4 x.round.index)) ∧
     (∀ (bus : Fin 8) (e : Entry), a.toNat = bus.val → 1 ≤ b.toNat → b.toNat ≤ 24 → c.toNat ≤ 1 →
       s.buses[bus].entry b.toNat = some e → ∃ r : List Word, r.length = 7 ∧ Answers (.readModule a b c) s s ⟨none, r⟩ ∧
         (c = 0 →
           Shows r 0 1 e.expected.toNat ∧
           Shows r 1 3 (match e.state with
             | .missing => 0
             | .online => 1
             | .silent => 2
             | .faulted _ => 3
             | .extra => 4) ∧
           ShowsOpt r 4 5 1 (match e.state with
             | .faulted .cells => some 0
             | .faulted .status => some 1
             | _ => none) ∧
           Shows r 6 2 e.missCount ∧ Shows r 8 1 e.summary.isSome.toNat ∧ Shows r 9 1 e.probe.isSome.toNat ∧
           (∀ x, e.probe = some x → x.cellCount < 32 → Shows r 10 5 x.cellCount) ∧
           Shows r 16 8 ((e.probe.map (·.status.toNat)).getD 0) ∧
           Shows r 24 8 ((e.summary.map (·.status.toNat)).getD 0) ∧
           Shows r 32 8 ((e.summary.map (·.gas)).getD 0) ∧ Shows r 40 8 ((e.summary.map (·.bleedCount)).getD 0)) ∧
         (c = 1 →
           Shows r 0 1 e.summary.isSome.toNat ∧ (e.summary = none → r = List.replicate 7 0) ∧
           ∀ v, e.summary = some v → Shows r 16 16 v.minCell ∧ Shows r 32 5 v.minPosition ∧ Shows r 48 16 v.maxCell ∧
             Shows r 64 5 v.maxPosition ∧ Shows r 80 16 v.voltage ∧ Shows r 96 8 (twos 8 v.maxTemp) ∧
             Shows r 104 8 (twos 8 v.minTemp))) ∧
     (if 3 < a.toNat then Refused (.readBay a) s .field else ∃ results, Answers (.readBay a) s s ⟨none, results⟩) ∧
     (if 8 < a.toNat then Refused (.readConnection a) s .field
       else ∃ results, Answers (.readConnection a) s s ⟨none, results⟩) ∧
     (∃ r0 r1 r2 : Word, Answers .readClock s s ⟨none, r0 :: r1 :: r2 :: List.replicate 4 0⟩ ∧
       r0.toNat = s.unit.clock.day % 65536 ∧
       r1.toNat + 65536 * r2.toNat = s.unit.clock.second % 131072) ∧
     (if 29 < a.toNat ∨ (2 ≤ a.toNat ∧ a.toNat ≤ 5 ∧ 7 < b.toNat) then Refused (.readProfile a b) s .field
       else ∃ results, Answers (.readProfile a b) s s ⟨none, results⟩)) ∧
  ∀ s : State, ∃ results : List Word,
    Answers .readLink s { s with link := { s.link with overrun := false } } ⟨none, results⟩ ∧
    ((results.getD 0 0).getLsbD 0 = true ↔ s.link.state = .down)

/-- READ-BAY returns the fire record and then the cooling record of its bay, in the fields of R121 and R137, both of one
moment (log 41), and READ-CONNECTION the record of a string, or breaker and precharge path, in the fields of R159 (model's
choices: given directly: log 4; absent fields: log 16; codes and the polarity of flags and
presence bits: log 18; the age: log 20). -/
def Obligations.ReadBayAndConnectionWords : Prop :=
  (∀ (s : State) (bay : Word) (k : Fin 4), bay.toNat = k.val →
    let f := s.fire[k]
    let c := s.cooling[k]
    let smoke := fun (x : SmokeCondition) => match x with
      | .normal => 0
      | .active => 1
      | .fault => 2
    let source := fun (x : SourceCondition) => match x with
      | .clear => 0
      | .active => 1
      | .unavailable => 2
    ∃ r : List Word, r.length = 7 ∧ Answers (.readBay bay) s s ⟨none, r⟩ ∧
      Shows r 0 3 (match f.state with
        | .quiet => 0
        | .preAlarm => 1
        | .alarm => 2
        | .countdown _ => 3
        | .released _ => 4) ∧
      Shows r 3 2 (smoke f.smokeA.condition) ∧ Shows r 5 2 (smoke f.smokeB.condition) ∧ Shows r 7 2 (source f.gas) ∧
      Shows r 9 2 (source f.heat) ∧ Shows r 11 3 f.activeCount ∧ Shows r 16 3 f.availableCount ∧
      Shows r 19 1 f.degraded.toNat ∧ Shows r 20 1 f.manual.entry.toNat ∧ Shows r 21 1 f.manual.hold.toNat ∧
      Shows r 22 1 f.manual.profile.toNat ∧
      ShowsOpt r 23 24 6 (match f.state with
        | .countdown e => some (timeLeft 72000000 s.now e)
        | _ => none) ∧
      ShowsOpt r 30 32 2 (match f.state with
        | .released (some e) => some (timeLeft 72000000 s.now e)
        | _ => none) ∧
      Shows r 34 1 f.releaseOutput.toNat ∧
      Shows r 35 2 (match f.containment with
        | .none => 0
        | .bay => 1
        | .container => 2) ∧
      Shows r 37 6 f.gasList.length ∧ (f.gasList = [] → Shows r 43 1 0 ∧ Shows r 48 16 0) ∧
      (∀ before it after, f.gasList = before ++ it :: after → (∀ x ∈ before, x.level < it.level) →
        (∀ x ∈ after, x.level ≤ it.level) →
        Shows r 43 1 1 ∧ Shows r 48 8 it.level ∧ Shows r 56 3 it.string.val ∧ Shows r 59 5 it.address) ∧
      Shows r 64 2 c.demand ∧ Shows r 66 1 c.heaterDemand.toNat ∧ Shows r 67 2 c.running ∧
      ShowsOpt r 69 70 10 (c.runOnEnd.map (timeLeft 72000000 s.now)) ∧ Shows r 80 1 (!c.flow).toNat ∧
      Shows r 81 1 c.flowFault.toNat ∧
      ShowsOpt r 82 83 1 (c.flowTimer.map fun g => match g.goal with
        | .fault => 0
        | .clear => 1) ∧
      Shows r 84 5 ((c.flowTimer.map fun g => timeLeft 72000000 s.now g.endsAt).getD 0) ∧
      Shows r 89 1 c.outputs.fanLow.toNat ∧ Shows r 90 1 c.outputs.fanHigh.toNat ∧ Shows r 91 1 c.outputs.pump.toNat ∧
      Shows r 92 1 c.outputs.chiller.toNat ∧ Shows r 93 1 c.outputs.heater.toNat ∧
      Shows r 94 1 c.outputs.damper.toNat ∧ Shows r 95 1 c.even.complete.toNat ∧ Shows r 96 1 c.odd.complete.toNat) ∧
  (∀ (s : State) (string : Word) (i : Fin 8), string.toNat = i.val →
    let c := s.contactors[i]
    ∃ r : List Word, r.length = 7 ∧ Answers (.readConnection string) s s ⟨none, r⟩ ∧
      Shows r 0 1 c.fitted.toNat ∧
      Shows r 1 3 (match c.state with
        | .opened => 0
        | .queued => 1
        | .precharging _ => 2
        | .closed => 3
        | .draining _ => 4
        | .failed _ => 5) ∧
      ShowsOpt r 4 5 1 (match c.state with
        | .failed .feedback => some 0
        | .failed .precharge => some 1
        | _ => none) ∧
      Shows r 6 2 c.failures ∧
      ShowsOpt r 8 9 4 (match c.state with
        | .precharging e => some (timeLeft 72000000 s.now e)
        | _ => none) ∧
      ShowsOpt r 13 16 4 (match c.state with
        | .draining e => some (timeLeft 72000000 s.now e)
        | _ => none) ∧
      ShowsOpt r 20 21 5 (c.retryEnd.map (timeLeft 72000000 s.now)) ∧
      (Shows r 26 1 1 ↔ c.unmet = ⟨false, false, false, false, false, false, false⟩) ∧
      Shows r 32 1 c.unmet.fitted.toNat ∧ Shows r 33 1 c.unmet.isolate.toNat ∧ Shows r 34 1 c.unmet.fire.toNat ∧
      Shows r 35 1 c.unmet.modules.toNat ∧ Shows r 36 1 c.unmet.band.toNat ∧ Shows r 37 1 c.unmet.link.toNat ∧
      Shows r 38 1 c.unmet.mode.toNat ∧
      ShowsOpt r 39 48 16 (c.isolating.map fun h => h.slot.toNat + 256 * h.generation.toNat) ∧
      Shows r 64 1 c.mainClosed.toNat ∧ Shows r 65 1 c.prechargeClosed.toNat ∧ Shows r 66 1 c.feedback.toNat ∧
      ShowsOpt r 67 68 8 (c.feedbackTimer.map (timeLeft 72000 s.now))) ∧
  ∀ s : State,
    let b := s.breaker
    ∃ r : List Word, r.length = 7 ∧ Answers (.readConnection 8) s s ⟨none, r⟩ ∧
      Shows r 0 3 (match b.state with
        | .opened => 0
        | .closing _ => 1
        | .closed => 2
        | .opening _ _ => 3
        | .tripped => 4
        | .failed _ => 5) ∧
      ShowsOpt r 3 4 1 (match b.state with
        | .opening .normal _ => some 0
        | .opening .trip _ => some 1
        | _ => none) ∧
      ShowsOpt r 5 6 2 (match b.state with
        | .failed .close => some 0
        | .failed .opening => some 1
        | .failed .feedback => some 2
        | _ => none) ∧
      ShowsOpt r 8 16 9 (match b.state with
        | .closing e => some (timeLeft 72000 s.now e)
        | .opening _ e => some (timeLeft 72000 s.now e)
        | _ => none) ∧
      ShowsOpt r 25 32 9 (b.feedbackTimer.map (timeLeft 72000 s.now)) ∧ Shows r 41 1 b.commandedClosed.toNat ∧
      Shows r 42 1 b.feedback.toNat ∧ Shows r 43 1 (!b.grid.taken).toNat ∧ Shows r 44 1 b.gridAvailable.toNat ∧
      ShowsOpt r 45 48 10 (b.reconnectEnd.map (timeLeft 72000000 s.now)) ∧ Shows r 58 1 b.armed.toNat ∧
      Shows r 59 1 s.serving.isSome.toNat ∧ ShowsOpt r 60 61 3 (s.serving.map (·.val)) ∧
      ShowsOpt r 64 80 16 (s.link.dc.map (·.voltage)) ∧
      Shows r 96 16 ((s.link.dc.map fun d => min 65535 ((s.now - d.arrival + 719999) / 720000)).getD 0)

/-- READ-LINK returns the fields of R173 as they stood before it, and READ-PROFILE for code 0 the status of R191 and for a
field its working value and the one in the stored copy, at the place that 11.1.7 gives it there (model's choices: given
directly: log 4; a field of more than 16 bits: log 15; absent fields: log 16; codes and polarity: log 18; the
age: log 20; an erased checksum is free: log 14; the link timeout in units of 0.1 s: log 42; signed values: log 21). -/
def Obligations.ReadLinkAndProfileWords : Prop :=
  (∀ s : State,
    let l := s.link
    ∃ r : List Word, r.length = 7 ∧
      Answers .readLink s { s with link := { s.link with overrun := false } } ⟨none, r⟩ ∧
      ShowsOpt r 1 2 4 (match l.state with
        | .up e => some (timeLeft 72000000 s.now e)
        | .down => none) ∧
      Shows r 0 1 (match l.state with
        | .up _ => 0
        | .down => 1) ∧
      ShowsOpt r 6 7 2 (l.rate.map fun x => match x with
        | .r19200 => 0
        | .r57600 => 1
        | .r115200 => 2) ∧
      Shows r 9 3 l.queue.length ∧
      Shows r 12 2 (match l.transmitter with
        | .idle => 0
        | .sending _ _ _ => 1
        | .gap _ => 2) ∧
      Shows r 14 1 l.overrun.toNat ∧
      ShowsOpt r 15 16 3 (l.lastBad.map fun c => match c with
        | .framing => 0
        | .noise => 1
        | .check => 2
        | .kind => 3
        | .broken => 4) ∧
      ShowsOpt r 19 32 16 (l.dc.map (·.voltage)) ∧
      Shows r 48 16 ((l.dc.map fun d => min 65535 ((s.now - d.arrival + 719999) / 720000)).getD 0) ∧
      Shows r 64 16 ((l.dc.map fun d => twos 16 d.current).getD 0) ∧ Shows r 80 8 l.noticeCount.toNat) ∧
  (∀ (s : State) (index : Word),
    let u := s.unit
    ∃ r : List Word, r.length = 7 ∧ Answers (.readProfile 0 index) s s ⟨none, r⟩ ∧
      Shows r 0 2 (match u.mode with
        | .commissioning => 1
        | .operating => 2
        | .maintenance => 3) ∧
      Shows r 2 1 (!u.storedGood).toNat ∧ Shows r 3 1 (!u.committed).toNat ∧
      (∀ sum, u.stored.checksum = some sum → Shows r 16 16 sum.toNat) ∧
      (∀ e, u.startUp.phase = .running e →
        Shows r 32 1 0 ∧ ShowsOpt r 33 34 1 none ∧ ShowsOpt r 35 36 5 (some (timeLeft 72000000 s.now e))) ∧
      (∀ c, u.startUp.phase = .ended c →
        Shows r 32 1 1 ∧ ShowsOpt r 35 36 5 none ∧
        ShowsOpt r 33 34 1 (some (match c with
          | .complete => 0
          | .timeLimit => 1))) ∧
      ∀ b : Fin 8,
        Shows r (41 + 4 * b.val) 3 (match u.startUp.buses[b].progress with
          | .notFitted => 0
          | .selftest => 1
          | .rollcall => 2
          | .firstRound => 3
          | .polled => 4
          | .failed => 5) ∧
        Shows r (44 + 4 * b.val) 1 u.startUp.buses[b].stuckSeen.toNat) ∧
  ∀ (s : State) (field index : Word) (i : Fin 8), 1 ≤ field.toNat → field.toNat ≤ 29 →
    (if 2 ≤ field.toNat ∧ field.toNat ≤ 5 then index.toNat = i.val else i = 0) →
    let p := s.unit.working
    let stored := fun (n : Nat) => (s.unit.stored.words.getD n 0).toNat
    ∃ r : List Word, r.length = 7 ∧ Answers (.readProfile field index) s s ⟨none, r⟩ ∧
      (let both := fun (next width value place : Nat) => Shows r 0 width value ∧ Shows r next width (stored place)
      match field.toNat with
      | 1 => both 8 8 p.fitted.toNat 0
      | 2 => both 32 16 (p.expected[i].toNat % 65536) (1 + 2 * i.val) ∧ Shows r 16 8 (p.expected[i].toNat / 65536) ∧
          Shows r 48 8 (stored (2 + 2 * i.val))
      | 3 => both 5 5 p.cells[i] (17 + i.val)
      | 4 => both 16 10 p.ratedCharge[i] (25 + i.val)
      | 5 => both 16 10 p.ratedDischarge[i] (33 + i.val)
      | 6 => both 16 13 p.cellUpper 41
      | 7 => both 16 13 p.chargeTaper 42
      | 8 => both 16 13 p.dischargeTaper 43
      | 9 => both 16 13 p.cellLower 44
      | 10 => both 16 10 p.reconnectDelay 45
      | 11 => both 6 6 p.riseHold 46
      | 12 => both 8 8 (twos 8 p.t0) 47
      | 13 => both 8 8 (twos 8 p.t1) 48
      | 14 => both 8 8 (twos 8 p.t2) 49
      | 15 => both 8 8 (twos 8 p.t4) 50
      | 16 => both 8 8 (twos 8 p.t5) 51
      | 17 => both 8 8 (twos 8 p.t6) 52
      | 18 => both 8 8 (twos 8 p.t7) 53
      | 19 => both 8 8 p.gasLimit 54
      | 20 => both 7 7 p.bleedWindow 55
      | 21 => both 16 13 p.pollBase 56
      | 22 => both 16 10 p.runOn 57
      | 23 => both 6 6 p.releaseCountdown 58
      | 24 => both 4 4 p.manualBays.toNat 59
      | 25 => both 4 4 p.drainTime 60
      | 26 => both 16 12 p.revokedHold 61
      | 27 => both 2 2 (match p.linkRate with
          | .r19200 => 0
          | .r57600 => 1
          | .r115200 => 2) 62
      | 28 => both 7 7 p.linkTimeout 63
      | _ => both 2 2 (match p.startMode with
          | .commissioning => 1
          | .operating => 2
          | .maintenance => 3) 64)

/-! ### Permit orders -/

/-- The checks of a GRANT, in their order: the first that fails gives the refusal code. -/
def Obligations.GrantChecksInOrder : Prop :=
  ∀ (s : State) (kind : Kind) (holder : Holder) (o : GrantOps),
    s.grantRefusal kind holder o =
      if (kind = .connect ∨ kind = .charge ∨ kind = .discharge) ∧ s.unit.mode ≠ .operating then some .mode
      else if ¬((kind = .connect ∧ holder = .station) ∨
          ((kind = .charge ∨ kind = .discharge) ∧ (holder = .station ∨ holder = .converter)) ∨
          (kind = .isolate ∧ holder = .station) ∨ (kind = .entry ∧ holder = .crew)) then some .holder
      else if (∃ n : Fin 8, o.scope.getLsbD n.val = true ∧ s.unit.active.fitted.getLsbD n.val = false) ∨
          (kind = .connect ∧ o.scope ≠ 0) ∨ (kind ≠ .connect ∧ o.scope = 0) then some .scope
      else if ((kind = .charge ∨ kind = .discharge) ∧ o.limit = none) ∨
          (kind ≠ .charge ∧ kind ≠ .discharge ∧ o.limit ≠ none) ∨
          (∃ l, o.limit = some l ∧ (l < 1 ∨ 8000 < l)) ∨ (holder = .crew ∧ o.lease ≠ none) ∨
          (∃ l, o.lease = some l ∧ (l < 1 ∨ 60 < l)) ∨ ((kind = .isolate ∨ kind = .entry) ∧ o.expiry ≠ none) ∨
          (∃ e, o.expiry = some e ∧ (86399 < e.second ∨ e.day < s.unit.clock.day ∨
            (e.day = s.unit.clock.day ∧ e.second ≤ s.unit.clock.second))) ∨
          (o.autoReclose = true ∧ kind ≠ .connect) then some .field
      else if holder = .converter ∧ o.lease = none then some .lease
      else if kind = .entry ∧ s.crewKey = false then some .key
      else if ∃ k : Fin 4, s.fire[k].state.inAlarm = true ∧
          (kind = .connect ∨ (kind ≠ .isolate ∧
            (o.scope.getLsbD (2 * k.val) = true ∨ o.scope.getLsbD (2 * k.val + 1) = true))) then some .fire
      else if ∃ i : Fin 48, s.slots[i].permit.any (fun p => p.state != .revoked && p.kind == kind && kind != .entry &&
          (kind == .connect || p.scope &&& o.scope != 0)) = true then some .conflict
      else if ∀ i : Fin 48, s.slots[i].permit ≠ none then some .full
      else none

/-- A GRANT that passes every check fills the lowest-numbered FREE slot under its own generation, enters the state of
its kind and hands it on; a code that names no kind or no holder is refused FIELD, and a failed check with its code
(model's choices: given directly: log 4; order of hand-offs: log 6). -/
def Obligations.GrantFillsLowestFreeSlot : Prop :=
  ∀ (s : State) (op0 op1 op2 op3 op4 op5 : Word),
    let o := GrantOps.decode op0 op1 op2 op3 op4 op5
    let c := Instr.grant op0 op1 op2 op3 op4 op5
    (Kind.ofCode o.kindCode = none ∨ Holder.ofCode o.holderCode = none → Refused c s .field) ∧
    ∀ kind holder, Kind.ofCode o.kindCode = some kind → Holder.ofCode o.holderCode = some holder →
      (∀ r, s.grantRefusal kind holder o = some r → Refused c s r) ∧
      ∀ i : Fin 48, s.grantRefusal kind holder o = none → s.slots[i].permit = none →
        (∀ j, j < i → s.slots[j].permit ≠ none) →
        ∃ t q results, Answers c s t ⟨none, results⟩ ∧
          q.kind = kind ∧ q.holder = holder ∧ q.scope = o.scope ∧ q.leasePeriod = o.lease ∧
          q.leaseEnd = o.lease.map (fun l => s.now + Config.sec l) ∧ q.expiry = o.expiry ∧
          q.autoReclose = o.autoReclose ∧ q.changed = false ∧ q.holdEnd = none ∧
          (q.notice = true ↔ holder = .converter) ∧
          (kind = .connect → q.limits = none ∧ q.state = (if s.breaker.gridAvailable then .live else .suspended) ∧
            q.reason = (if s.breaker.gridAvailable then none else some .grid)) ∧
          (kind = .isolate → q.limits = none ∧ q.state = .pending ∧ q.reason = none) ∧
          (kind = .entry → q.limits = none ∧ q.state = .live ∧ q.reason = none ∧ t.doorReleased = true) ∧
          (kind.hasLimit = true → ∀ l, o.limit = some l →
            q.limits = some ⟨l, min l (s.envelopeSum kind o.scope), none⟩ ∧
            (0 < min l (s.envelopeSum kind o.scope) → q.state = .live ∧ q.reason = none) ∧
            (min l (s.envelopeSum kind o.scope) = 0 → q.state = .suspended ∧
              q.reason = some (.envelope (s.restricting o.scope).1 (s.restricting o.scope).2))) ∧
          t = ((if kind = .connect then (s.setPermit i q).arm o.autoReclose else s.setPermit i q).settleWith (some i)) ∧
          SettledFrom s t ∧
          t.slots[i].generation = s.slots[i].generation ∧ (∃ r, t.slots[i].permit = some r ∧ Stands q r ∧
            results.getD 0 0 = s.slots[i].generation ++ BitVec.ofNat 8 i.val ∧
            ((results.getD 1 0).extractLsb' 0 3).toNat = r.state.code) ∧
          ∀ j, j ≠ i → t.slots[j].generation = s.slots[j].generation ∧
            (s.slots[j].permit = none → t.slots[j].permit = none) ∧
            ∀ p, s.slots[j].permit = some p → ∃ r, t.slots[j].permit = some r ∧ Stands p r

/-- AMEND: the checks in their order, and on success all changes together, with the target recomputed for a changed
limit (model's choices: the check of R198 for changes set together, made with that for kind, holder and scope and so before
LEASE, and a removal of the expiry allowed for every kind and of the lease for a CREW holder: log 22; given directly: log 4;
order of hand-offs: log 6). -/
def Obligations.AmendAppliesItsChanges : Prop :=
  ∀ (s : State) (h change op2 op3 op4 op5 : Word),
    let o := AmendOps.decode change op2 op3 op4 op5
    let c := Instr.amend h change op2 op3 op4 op5
    (Stale s h → Refused c s .stale) ∧
    ∀ i p, Names s h i p →
      if p.state = .revoked then Refused c s .state
      else if o.fixedNamed = true ∨ (o.leaseSet ≠ none ∧ o.leaseRemove = true) ∨
          (o.expirySet ≠ none ∧ o.expiryRemove = true) ∨
          (o.limit = none ∧ o.leaseSet = none ∧ o.leaseRemove = false ∧ o.expirySet = none ∧ o.expiryRemove = false ∧
            o.autoReclose = none) ∨
          (o.limit ≠ none ∧ p.kind.hasLimit = false) ∨ (∃ l, o.limit = some l ∧ (l < 1 ∨ 8000 < l)) ∨
          (o.leaseSet ≠ none ∧ p.holder = .crew) ∨ (∃ l, o.leaseSet = some l ∧ (l < 1 ∨ 60 < l)) then
        Refused c s .field
      else if o.leaseRemove = true ∧ p.holder = .converter then Refused c s .lease
      else if (o.expirySet ≠ none ∧ (p.kind = .isolate ∨ p.kind = .entry)) ∨
          (∃ e, o.expirySet = some e ∧ (86399 < e.second ∨ e.day < s.unit.clock.day ∨
            (e.day = s.unit.clock.day ∧ e.second ≤ s.unit.clock.second))) ∨
          (o.autoReclose ≠ none ∧ p.kind ≠ .connect) then Refused c s .field
      else
        ∃ t results, Answers c s t ⟨none, results⟩ ∧ SettledFrom s t ∧
          (let q : Permit :=
            { p with
              limits := p.limits.map fun l => ⟨o.limit.getD l.requested, l.effective, l.rise⟩
              leasePeriod := if o.leaseRemove then none else if o.leaseSet.isSome then o.leaseSet else p.leasePeriod
              leaseEnd := if o.leaseRemove then none else if o.leaseSet.isSome then
                o.leaseSet.map (fun l => s.now + Config.sec l) else p.leaseEnd
              expiry := if o.expiryRemove then none else if o.expirySet.isSome then o.expirySet else p.expiry
              autoReclose := o.autoReclose.getD p.autoReclose }
          t = (if o.limit.isSome then (s.setPermit i q).retargetSlot .amend i else s.setPermit i q).settle)

/-- RENEW restarts the lease of a STATION permit and changes nothing else, no mark included; its other cases are
refused as the table of R14 says (model's choices: given directly: log 4; the exact words of DONE, state and an effective limit
without a presence bit in the first and the lease in the second: log 16; state and reason of a refusal STATE: log 19). -/
def Obligations.RenewRestartsStationLease : Prop :=
  ∀ (s : State) (h : Word),
    (Stale s h → Refused (.renew h) s .stale) ∧
    ∀ i p, Names s h i p →
      (p.holder ≠ .station → Refused (.renew h) s .holder) ∧
      (p.holder = .station → p.leasePeriod = none → Refused (.renew h) s .field) ∧
      (p.holder = .station → p.leasePeriod ≠ none → p.state = .revoked → ∃ w : Word,
        RefusedWith (.renew h) s .state (w :: List.replicate 6 0) ∧ (w.extractLsb' 0 3).toNat = 4 ∧
        ∀ r, p.reason = some r → (w.extractLsb' 3 4).toNat = r.report.code) ∧
      ∀ l, p.holder = .station → p.leasePeriod = some l → p.state ≠ .revoked →
        Answers (.renew h) s (s.setPermit i { p with leaseEnd := some (s.now + Config.sec l) })
          ⟨none, BitVec.ofNat 16 (p.state.code + 8 * p.effective) :: BitVec.ofNat 16 (l % 64) :: List.replicate 5 0⟩

/-- REVOKE takes a standing permit of any kind and holder to REVOKED with reason STATION and the effects of R18; a
REVOKED one is refused STATE with its stored reason. RETIRE frees the slot of any record and advances its generation by one,
every other slot standing; a CONNECT that was LIVE or SUSPENDED has the breaker opened normally (model's choices: given
directly: log 4; order of hand-offs: log 6; the reason's place behind the state: log 19). -/
def Obligations.RevokeAndRetireEndPermits : Prop :=
  (∀ (s : State) (h : Word),
      (Stale s h → Refused (.revoke h) s .stale) ∧
      ∀ i p, Names s h i p →
        (p.state = .revoked → ∃ w : Word, RefusedWith (.revoke h) s .state (w :: List.replicate 6 0) ∧
          ∀ r, p.reason = some r → (w.extractLsb' 3 4).toNat = r.report.code) ∧
        (p.state ≠ .revoked →
          let q : Permit :=
            { p with
              state := .revoked
              reason := some .station
              limits := p.limits.map fun l => ⟨l.requested, 0, none⟩
              leaseEnd := none
              holdEnd := some (s.now + Config.sec s.unit.active.revokedHold)
              notice := p.notice || p.holder == .converter }
          let u := s.setPermit i q
          let v := if p.kind = .connect ∧ (p.state = .live ∨ p.state = .suspended) then
            (u.setBreaker (u.breaker.openNormally s.now)).arm false else u
          Answers (.revoke h) s v.settle ⟨none, BitVec.ofNat 16 (4 + 8 * 10) :: List.replicate 6 0⟩ ∧
            SettledFrom s v.settle ∧
            ∃ r, v.settle.slots[i].permit = some r ∧ r.state = .revoked ∧ r.reason = some .station ∧
              r.changed = p.changed ∧ r.leaseEnd = none ∧ r.effective = 0)) ∧
  ∀ (s : State) (h : Word),
    (Stale s h → Refused (.retire h) s .stale) ∧
    ∀ i p, Names s h i p →
      let u := s.setSlot i ⟨s.slots[i].generation + 1, none⟩
      let v := if p.kind = .connect ∧ (p.state = .live ∨ p.state = .suspended) then
        (u.setBreaker (u.breaker.openNormally s.now)).arm false else u
      Answers (.retire h) s v.settle
          ⟨none, (s.slots[i].generation + 1).setWidth 16 :: List.replicate 6 0⟩ ∧
        SettledFrom s v.settle ∧ v.settle.slots[i] = ⟨s.slots[i].generation + 1, none⟩ ∧
        ∀ j, j ≠ i → v.settle.slots[j].generation = s.slots[j].generation ∧
          (s.slots[j].permit = none → v.settle.slots[j].permit = none) ∧
          ∀ q, s.slots[j].permit = some q → ∃ r, v.settle.slots[j].permit = some r ∧ Stands q r

/-! ### Plant orders -/

/-- CLOSE-BREAKER, OPEN-BREAKER and RESET-BREAKER by breaker state; breaker and attention alone change. CLEAR-CONTACTOR returns
a FAILED string whose main feedback reads open to OPEN, its failures and retry cleared, and the event settles; any other string
is refused STATE with its state, a string above 7 FIELD (model's choices: codes of breaker and contactor states in results: log
18; which refusals carry results: log 19; given directly: log 4; order of hand-offs: log 6). -/
def Obligations.ConnectionOrdersByState : Prop :=
  (∀ s : State,
     ((∃ e, s.breaker.state = .closing e) → Refused .closeBreaker s .busy) ∧
     ((s.breaker.state = .closed ∨ s.breaker.state = .tripped ∨ (∃ k e, s.breaker.state = .opening k e) ∨
       ∃ r, s.breaker.state = .failed r) → Refused .closeBreaker s .state) ∧
     (s.breaker.state = .opened →
       ((¬∃ i p, Holds s i p ∧ p.kind = .connect ∧ p.state = .live) → Refused .closeBreaker s .conflict) ∧
       ((∃ i p, Holds s i p ∧ p.kind = .connect ∧ p.state = .live) → ∃ t,
         Answers .closeBreaker s t ⟨none, 1 :: List.replicate 6 0⟩ ∧
         t = { s with breaker := t.breaker, attention := t.attention } ∧ t.flagged .connection = true ∧
         t.breaker.commandedClosed = true ∧
         (if s.breaker.feedback then t.breaker.state = .closed ∧ t.breaker.closePulse = false
           else t.breaker.state = .closing (s.now + Config.ms 300) ∧ t.breaker.closePulse = true))) ∧
     (∃ t, Answers .openBreaker s t ⟨none, BitVec.ofNat 16 t.breaker.state.code :: List.replicate 6 0⟩ ∧
       t = { s with breaker := t.breaker, attention := t.attention } ∧
       (s.breaker.state.commandsClosed = false → t = s) ∧
       (s.breaker.state.commandsClosed = true → t.breaker.commandedClosed = false ∧ t.breaker.closePulse = false ∧
         if s.breaker.feedback then t.breaker.state = .opening .normal (s.now + Config.ms 300) ∧
           t.breaker.openPulse = true
         else t.breaker.state = .opened ∧ t.breaker.openPulse = false)) ∧
     (s.breaker.state = .tripped ∨ (∃ r, s.breaker.state = .failed r) →
       (s.breaker.feedback = true → Refused .resetBreaker s .state) ∧
       (s.breaker.feedback = false → ∃ t, Answers .resetBreaker s t ⟨none, List.replicate 7 0⟩ ∧
         t = { s with breaker := t.breaker, attention := t.attention } ∧ t.breaker.state = .opened ∧
         t.breaker.commandedClosed = false ∧ t.breaker.feedbackTimer = none)) ∧
     (s.breaker.state = .opened ∨ s.breaker.state = .closed ∨ (∃ e, s.breaker.state = .closing e) ∨
       (∃ k e, s.breaker.state = .opening k e) → Refused .resetBreaker s .state)) ∧
  ∀ (s : State) (string : Word),
    (7 < string.toNat → Refused (.clearContactor string) s .field) ∧
    ∀ i : Fin 8, string.toNat = i.val →
      (((∀ r, s.contactors[i].state ≠ .failed r) ∨ s.contactors[i].feedback = true) →
        RefusedWith (.clearContactor string) s .state
          (BitVec.ofNat 16 s.contactors[i].state.code :: List.replicate 6 0)) ∧
      (∀ r, s.contactors[i].state = .failed r → s.contactors[i].feedback = false → ∃ (c : Contactor) (t : State),
        c = { s.contactors[i] with
          state := .opened, failures := 0, retryEnd := none, mainClosed := false, prechargeClosed := false
          feedbackTimer := none } ∧
        t = (s.setContactor i c).settle ∧ SettledFrom s t ∧
        Answers (.clearContactor string) s t
          ⟨none, BitVec.ofNat 16 t.contactors[i].state.code :: List.replicate 6 0⟩)

/-- RESET-BAY by bay state, pulse and active count: on DONE from the alarm class the bay is QUIET and the event settles.
RELEASE-NOW and COUNTDOWN_END take a bay to RELEASED with its output active for 2 s; RELEASE-NOW has no effect in RELEASED and
is refused STATE in QUIET and PRE_ALARM (model's choices: codes of bay states in results: log 18; which refusals carry results:
log 19; given directly: log 4; order of hand-offs: log 6). -/
def Obligations.BayOrdersByState : Prop :=
  (∀ (s : State) (bay : Word),
     (3 < bay.toNat → Refused (.resetBay bay) s .field) ∧
     ∀ k : Fin 4, bay.toNat = k.val →
       (s.fire[k].state = .quiet ∨ s.fire[k].state = .preAlarm →
         Answers (.resetBay bay) s s ⟨none, BitVec.ofNat 16 s.fire[k].state.code :: List.replicate 6 0⟩) ∧
       ((∃ e, s.fire[k].state = .released (some e)) → Refused (.resetBay bay) s .busy) ∧
       (s.fire[k].state = .alarm ∨ (∃ e, s.fire[k].state = .countdown e) ∨ s.fire[k].state = .released none →
         (1 ≤ s.fire[k].activeCount → ∃ results, RefusedWith (.resetBay bay) s .active results ∧
           ((results.getD 0 0).extractLsb' 0 3).toNat = s.fire[k].activeCount % 8) ∧
         (s.fire[k].activeCount = 0 → ∃ u t : State,
           u = { s with fire := u.fire, attention := u.attention } ∧ u.flagged .fire = true ∧
           u.fire[k].state = .quiet ∧ (∀ j, j ≠ k → u.fire[j].state = s.fire[j].state) ∧
           t = u.settle ∧ SettledFrom s t ∧
           Answers (.resetBay bay) s t ⟨none, BitVec.ofNat 16 t.fire[k].state.code :: List.replicate 6 0⟩))) ∧
  ∀ (s : State) (bay : Word) (k : Fin 4),
    (3 < bay.toNat → Refused (.releaseNow bay) s .field) ∧
    (bay.toNat = k.val → s.fire[k].state = .quiet ∨ s.fire[k].state = .preAlarm →
      RefusedWith (.releaseNow bay) s .state (BitVec.ofNat 16 s.fire[k].state.code :: List.replicate 6 0)) ∧
    (bay.toNat = k.val → (∃ e, s.fire[k].state = .released e) →
      Answers (.releaseNow bay) s s ⟨none, 4 :: List.replicate 6 0⟩) ∧
    (s.fire[k].state = .alarm ∨ (∃ e, s.fire[k].state = .countdown e) →
      ∃ u t : State, u = { s with fire := u.fire, attention := u.attention } ∧
        u.fire[k].state = .released (some (s.now + Config.sec 2)) ∧ u.fire[k].releaseOutput = true ∧
        u.flagged .fire = true ∧ (∀ j, j ≠ k → u.fire[j] = { s.fire[j] with containment := .container }) ∧
        t = u.settle ∧ SettledFrom s t ∧ t.fire[k].state = u.fire[k].state ∧ t.fire[k].releaseOutput = true ∧
        (bay.toNat = k.val → Answers (.releaseNow bay) s t ⟨none, 4 :: List.replicate 6 0⟩) ∧
        ((∃ e, s.fire[k].state = .countdown e) → exec (.countdownEnd k) s = .next t))

/-- ROLLCALL by bus state: started (0), already in progress (1), or refused (model's choices: the two codes: log 18; given
directly: log 4). -/
def Obligations.RollcallByBusState : Prop :=
  ∀ (s : State) (bus : Word),
    (7 < bus.toNat → Refused (.rollcall bus) s .field) ∧
    ∀ b : Fin 8, bus.toNat = b.val →
      (s.buses[b].state = .off → Refused (.rollcall bus) s .scope) ∧
      ((∃ l e, s.buses[b].state = .stuck l e) ∨ (∃ p, s.buses[b].state = .failed p) →
        Refused (.rollcall bus) s .state) ∧
      (s.buses[b].state = .rollcall ∨ (∃ e, s.buses[b].state = .selftest e) ∨
          (∃ p e, s.buses[b].state = .waking p e) →
        Answers (.rollcall bus) s
          (s.setBus b { s.buses[b] with rollCall := { s.buses[b].rollCall with requested := true } })
          ⟨none, 1 :: List.replicate 6 0⟩) ∧
      (s.buses[b].state = .polling → ∃ t, Answers (.rollcall bus) s t ⟨none, List.replicate 7 0⟩ ∧
        t.buses[b].rollCall.requested = true ∧ (∀ j, j ≠ b → t.buses[j] = s.buses[j]) ∧
        t.orderMemory = s.orderMemory ∧ t.runner = s.runner ∧
        (s.buses[b].frame.isSome = true → t.buses[b].state = .polling ∧ t.buses[b].frame = s.buses[b].frame ∧
          t.buses[b].switchPending = true) ∧
        (s.buses[b].frame = none → t.buses[b].state = .rollcall ∧
          t.buses[b].frame = some ⟨.probe, 1, s.now, none, none⟩ ∧ t.buses[b].rollCall.progress = .running ∧
          t.buses[b].rollCall.found = 0 ∧ t.buses[b].rollCall.extra = 0 ∧ t.buses[b].rollCall.working = [] ∧
          t.strings[b].onlineCount = 0 ∧ t.strings[b].voltage = 0))

/-! ### Site orders and the clock -/

/-- SET-CLOCK and SITE_CLOCK_ADVANCE: the clock takes its next value, the next advance comes one second later, and
every standing permit whose expiry is reached is revoked with reason EXPIRED in the event (model's choices: when
the next second comes: log 2; given directly: log 4). -/
def Obligations.ClockValuesRevokeExpiredPermits : Prop :=
  ∀ (s : State) (day second high : Word),
    let given := second.toNat + 65536 * (high.toNat % 2)
    (86399 < given → ∃ results, RefusedWith (.setClock day second high) s .field results) ∧
    (given ≤ 86399 → ∃ t, (∃ results, Answers (.setClock day second high) s t ⟨none, results⟩) ∧
      t.unit.clock = ⟨day.toNat, given⟩ ∧ t.unit.nextSecond = s.now + Config.sec 1 ∧ t.orderMemory = s.orderMemory ∧
      t.runner = s.runner ∧ t.buses = s.buses ∧
      ∀ i p e, Holds s i p → p.state ≠ .revoked → p.expiry = some e →
        (e.day < day.toNat ∨ (e.day = day.toNat ∧ e.second ≤ given)) →
        ∃ q, Holds t i q ∧ q.state = .revoked ∧ q.reason = some .expired ∧ q.effective = 0 ∧ q.changed = true) ∧
    ∃ t, exec .siteClockAdvance s = .next t ∧
      t.unit.clock = (if s.unit.clock.second < 86399 then ⟨s.unit.clock.day, s.unit.clock.second + 1⟩
        else if s.unit.clock.day < 65535 then ⟨s.unit.clock.day + 1, 0⟩ else ⟨0, 0⟩) ∧
      t.unit.nextSecond = s.now + Config.sec 1 ∧ t.orderMemory = s.orderMemory ∧ t.runner = s.runner ∧
      t.buses = s.buses ∧
      ∀ i p e, Holds s i p → p.state ≠ .revoked → p.expiry = some e →
        (e.day < t.unit.clock.day ∨ (e.day = t.unit.clock.day ∧ e.second ≤ t.unit.clock.second)) →
        ∃ q, Holds t i q ∧ q.state = .revoked ∧ q.reason = some .expired ∧ q.effective = 0 ∧ q.changed = true

/-- SET-MODE: its checks in order, and on success the new mode; leaving OPERATING revokes every CONNECT, CHARGE and
DISCHARGE in LIVE or SUSPENDED with reason MODE (model's choices: a refusal's results give the standing mode, and those of FIELD
stay open here: log 19; given directly: log 4). -/
def Obligations.SetModeChangesModeAndRevokes : Prop :=
  ∀ (s : State) (code : Word),
    let c := Instr.setMode code
    (code = 0 ∨ 3 < code.toNat → ∃ results, RefusedWith c s .field results) ∧
    ∀ m : Mode, m.code = code.toNat →
      if m = s.unit.mode then Answers c s s ⟨none, BitVec.ofNat 16 m.code :: List.replicate 6 0⟩
      else if s.unit.mode = .operating ∧ m = .commissioning then
        RefusedWith c s .state (BitVec.ofNat 16 s.unit.mode.code :: List.replicate 6 0)
      else if s.unit.mode = .operating ∧ s.crewKey = false then
        RefusedWith c s .key (BitVec.ofNat 16 s.unit.mode.code :: List.replicate 6 0)
      else if m = .operating ∧ (s.unit.storedGood = false ∨ s.unit.committed = false) then
        RefusedWith c s .profile (BitVec.ofNat 16 s.unit.mode.code :: List.replicate 6 0)
      else ∃ t, Answers c s t ⟨none, BitVec.ofNat 16 m.code :: List.replicate 6 0⟩ ∧ t.unit.mode = m ∧
        t.unit.clock = s.unit.clock ∧ t.orderMemory = s.orderMemory ∧ t.runner = s.runner ∧ t.buses = s.buses ∧
        (s.unit.mode = .operating → ∀ i p, Holds s i p → p.kind = .connect ∨ p.kind.hasLimit = true →
          p.state = .live ∨ p.state = .suspended → ∃ q, Holds t i q ∧ q.state = .revoked ∧ q.reason = some .mode)

/-- WRITE-PROFILE places a value in its field's range in the working copy and makes the working state UNCOMMITTED; the
blocks, the stored copy and the stored check stand. A code, index or value outside its range is refused FIELD (model's
choices: value bits 23 to 16 are bits 7 to 0 of operand word 3, whose bits 15 to 8 are ignored: log 43; a signed field reads the
24 bits in two's complement: log 21; given directly: log 4). -/
def Obligations.WriteProfileChangesWorkingCopyAlone : Prop :=
  ∀ (s : State) (field index low high : Word),
    let c := Instr.writeProfile field index low high
    let v := low.toNat + 65536 * (high.toNat % 256)
    (field = 0 ∨ 29 < field.toNat ∨ (2 ≤ field.toNat ∧ field.toNat ≤ 5 ∧ 7 < index.toNat) → Refused c s .field) ∧
    ∀ i : Fin 8, 1 ≤ field.toNat → field.toNat ≤ 29 →
      (if 2 ≤ field.toNat ∧ field.toNat ≤ 5 then index.toNat = i.val else i = 0) →
      (inRange field.toNat v = false → ∃ results, RefusedWith c s .field results) ∧
      (inRange field.toNat v = true → ∃ p results,
        Answers c s { s with unit := { s.unit with working := p, committed := false } } ⟨none, results⟩ ∧
        p = s.unit.working.write field.toNat i v ∧
        (field = 1 → p = { s.unit.working with fitted := low.extractLsb' 0 8 }) ∧
        (field = 4 → v ≤ 1000 ∧ p.ratedCharge[i] = v ∧ ∀ j, j ≠ i → p.ratedCharge[j] = s.unit.working.ratedCharge[j]) ∧
        (field = 11 → 1 ≤ v ∧ v ≤ 60 ∧ p = { s.unit.working with riseHold := v }) ∧
        (field = 12 → p = { s.unit.working with t0 := (BitVec.ofNat 24 v).toInt }))

/-- COMMIT-PROFILE erases the stored checksum and starts the writing, and the runner waits; COMMIT_COMPLETE writes the
working copy with its checksum, makes the profile valid and hands it to every block (given directly: log 4; one event with the
runner's write: log 5). -/
def Obligations.CommitWritesStoredCopy : Prop :=
  ∀ s : State,
    let u : ProfileUnit :=
      { s.unit with
        stored := ⟨s.unit.stored.words, none⟩
        storedGood := false
        writing := some (s.unit.writing.getD s.now) }
    (∀ slot x w stop, Handed s .commitProfile slot x w stop → exec .commitProfile s = .next
      { s with unit := u, runner := { s.runner with state := .running slot x true stop .taken } }) ∧
    (s.handedOrder ≠ some .commitProfile → s.gate (some .commitProfile) = none →
      exec .commitProfile s = .next { s with unit := u }) ∧
    (∀ start, s.unit.writing = some start → ∃ t : State,
      let sum := ~~~(s.unit.working.words.foldl (· + ·) 0)
      t.unit.stored = ⟨s.unit.working.words, some sum⟩ ∧ t.unit.storedGood = true ∧ t.unit.committed = true ∧
      t.unit.writing = none ∧ t.unit.working = s.unit.working ∧ t.unit.active = s.unit.working ∧
      t.unit.mode = s.unit.mode ∧ t.unit.clock = s.unit.clock ∧ t.link.rate = some s.unit.working.linkRate ∧
      (∀ i : Fin 8, t.strings[i].fitted = s.unit.working.isFitted i ∧
        t.contactors[i].fitted = s.unit.working.isFitted i) ∧
      t.orderMemory = s.orderMemory ∧ t.runner = s.runner ∧ t.door = s.door ∧ t.crewKey = s.crewKey ∧
      (∀ slot x w stop, s.runner.state = .running slot x w stop .taken →
        exec .commitComplete s = .next (t.answerOrder slot x stop ⟨none, sum :: List.replicate 6 0⟩)) ∧
      ((∀ slot x w stop, s.runner.state ≠ .running slot x w stop .taken) →
        exec .commitComplete s = .next { t with answer := some ⟨none, sum :: List.replicate 6 0⟩ }))

/-! ### Permit timers and lines -/

/-- A lease that runs out withdraws the authority of a standing permit with reason LEASE, and a revoked hold that runs
out retires a REVOKED one; without the timer neither does anything. A rise hold that runs out: the pending value
becomes the effective limit, a permit SUSPENDED for an envelope becomes LIVE, the mark is set, and the target is
recomputed (model's choices: order of hand-offs: log 6; an absent timer: log 2). -/
def Obligations.PermitTimersActOnRecords : Prop :=
  (∀ (s : State) (i : Fin 48) (p : Permit), Holds s i p →
     (p.state ≠ .revoked → p.leaseEnd.isSome = true →
       let q : Permit :=
         { p with
           state := .revoked
           reason := some .lease
           limits := p.limits.map fun l => ⟨l.requested, 0, none⟩
           leaseEnd := none
           holdEnd := some (s.now + Config.sec s.unit.active.revokedHold)
           changed := true
           notice := p.notice || p.holder == .converter }
       let u := (s.setPermit i q).raise .permit
       let v := if p.kind = .connect ∧ (p.state = .live ∨ p.state = .suspended) then
         (u.setBreaker (u.breaker.openNormally s.now)).arm false else u
       Settles (.leaseLapse i) s v ∧ ∃ r, Holds v.settle i r ∧ r.state = .revoked ∧ r.reason = some .lease ∧
         r.effective = 0 ∧ r.changed = true ∧ r.leaseEnd = none ∧ r.leasePeriod = p.leasePeriod) ∧
     (p.state = .revoked ∨ p.leaseEnd = none → exec (.leaseLapse i) s = .next s) ∧
     (p.state = .revoked → p.holdEnd.isSome = true →
       let v := (s.setSlot i ⟨s.slots[i].generation + 1, none⟩).raise .permit
       Settles (.revokedHoldEnd i) s v ∧ v.settle.slots[i] = ⟨s.slots[i].generation + 1, none⟩ ∧
         v.settle.flagged .permit = true) ∧
     (p.state ≠ .revoked ∨ p.holdEnd = none → exec (.revokedHoldEnd i) s = .next s)) ∧
  ∀ (s : State) (i : Fin 48) (p : Permit) (l : Limits), Holds s i p → p.limits = some l →
    (∀ r, l.rise = some r → p.state = .live ∨ p.state = .suspended →
      ∃ q : Permit,
        ((∃ n c, p.state = .suspended ∧ p.reason = some (.envelope n c)) →
          q = { p with limits := some ⟨l.requested, r.value, none⟩, changed := true, state := .live, reason := none }) ∧
        ((¬∃ n c, p.state = .suspended ∧ p.reason = some (.envelope n c)) →
          q = { p with limits := some ⟨l.requested, r.value, none⟩, changed := true }) ∧
        Settles (.riseHoldEnd i) s (((s.setPermit i q).raise .permit).retargetSlot .other i) ∧
        (s.targetOf q = r.value → q.state = .live →
          ((s.setPermit i q).raise .permit).retargetSlot .other i = (s.setPermit i q).raise .permit)) ∧
    (l.rise = none ∨ p.state = .pending ∨ p.state = .revoked → exec (.riseHoldEnd i) s = .next s)

/-- A recomputed target of a LIVE or SUSPENDED limit permit: below the effective limit it is applied at once, with the
permit SUSPENDED at 0; above it, it becomes, moves or leaves the pending rise; and a permit SUSPENDED for an envelope chooses
its restricting string anew, the lowest-numbered of the highest precedence. -/
def Obligations.TargetFallsAtOnceAndRisesByHold : Prop :=
  (∀ (s : State) (src : Source) (i : Fin 48) (p : Permit) (l : Limits), Holds s i p → p.limits = some l →
    (p.state = .pending ∨ p.state = .revoked → s.retargetSlot src i = s.setPermit i p) ∧
    (p.state = .live ∨ p.state = .suspended →
      let target := min l.requested (s.envelopeSum p.kind p.scope)
      let hold := s.now + Config.sec s.unit.active.riseHold
      let n := (s.restricting p.scope).1
      let cause := (s.restricting p.scope).2
      ∃ q t, s.retargetSlot src i = t ∧ t = { s.setPermit i q with attention := t.attention } ∧
        (p.changed = false → q.changed = true → t.flagged .permit = true) ∧
        (target < l.effective →
          q.limits = some ⟨l.requested, target, none⟩ ∧ (q.changed = true ↔ p.changed = true ∨ src ≠ .amend) ∧
          (p.holder = .converter → src ≠ .reduce → q.notice = true) ∧
          (p.holder ≠ .converter → q.notice = p.notice) ∧
          (target = 0 → p.state = .live → q.state = .suspended ∧ q.reason = some (.envelope n cause)) ∧
          (0 < target ∨ p.state = .suspended → q.state = p.state ∧ q.reason = p.reason)) ∧
        (l.effective ≤ target → ∃ rise, q.limits = some ⟨l.requested, l.effective, rise⟩ ∧ q.state = p.state ∧
          (target = l.effective → rise = none) ∧
          (l.effective < target →
            (l.rise = none → rise = some ⟨target, hold⟩) ∧
            ∀ r, l.rise = some r →
              (r.value < target → rise = some ⟨target, hold⟩) ∧ (target = r.value → rise = some r) ∧
              (target < r.value → rise = some ⟨target, r.holdEnd⟩)) ∧
          ((∃ m d, p.state = .suspended ∧ p.reason = some (.envelope m d)) →
            q.reason = some (.envelope n cause) ∧
            (q.changed = true ↔ p.changed = true ∨ (q.reason ≠ p.reason ∧ src ≠ .amend)) ∧
            (q.notice = true ↔ p.notice = true ∨ (p.holder = .converter ∧ q.reported ≠ p.reported))) ∧
          ((¬∃ m d, p.state = .suspended ∧ p.reason = some (.envelope m d)) →
            q.reason = p.reason ∧ q.changed = p.changed ∧ q.notice = p.notice)))) ∧
  ∀ (s : State) (scope : BitVec 8), scope ≠ 0 →
    let n := (s.restricting scope).1
    (s.restricting scope).2 = s.strings[n].cause ∧ scope.getLsbD n.val = true ∧
    ∀ m : Fin 8, scope.getLsbD m.val = true → s.strings[n].cause.rank ≤ s.strings[m].cause.rank ∧
      (m < n → s.strings[n].cause.rank < s.strings[m].cause.rank)

/-- The crew key turning off revokes every LIVE ENTRY with reason KEY and locks the door; turning on restores nothing.
A new level of the door contact becomes the candidate, and the candidate is taken (model's choices: order of hand-
offs: log 6; a level already read and an absent candidate: log 2; no candidate stands once taken: log 45). -/
def Obligations.KeyAndDoorLines : Prop :=
  ∀ s : State,
    (s.crewKey = false → exec (.crewKeyChange true) s = .next { s with crewKey := true }) ∧
    (s.crewKey = true → ∃ t, exec (.crewKeyChange false) s = .next t ∧ t.crewKey = false ∧ t.doorReleased = false ∧
      t.orderMemory = s.orderMemory ∧ t.runner = s.runner ∧ t.buses = s.buses ∧ t.door = s.door ∧
      ∀ i p, Holds s i p → p.kind = .entry → p.state = .live →
        ∃ q, Holds t i q ∧ q.state = .revoked ∧ q.reason = some .key ∧ q.changed = true ∧ q.leaseEnd = none) ∧
    (∀ x, x = s.crewKey → exec (.crewKeyChange x) s = .next s) ∧
    (∀ x, x ≠ s.door.level → exec (.doorContactChange x) s =
      .next { s with door := ⟨s.door.taken, some ⟨x, s.now⟩⟩ }) ∧
    (∀ x, x = s.door.level → exec (.doorContactChange x) s = .next s) ∧
    (∀ x, s.door.candidate = some x → Settles .doorTaken s { s with door := ⟨x.level, none⟩ }) ∧
    (s.door.candidate = none → exec .doorTaken s = .next s)

/-! ### Sensing buses -/

/-- Self-test, wake pulse, wake delay and the retry of STUCK, each taken in its own bus state. A stuck line, found while a
frame is in progress in ROLLCALL or POLLING, takes the bus to STUCK (model's choices: order of hand-offs: log 6; what the
monitor saw: log 24). -/
def Obligations.BusStateEvents : Prop :=
  (∀ (s : State) (b : Fin 8),
      (∀ e (x y : Option BusChar), s.buses[b].state = .selftest e → ∃ u, Settles (.selftestEnd b x y) s u ∧
        u = { s with buses := u.buses, attention := u.attention, unit := u.unit } ∧
        u.unit = { s.unit with startUp := { s.unit.startUp with buses := u.unit.startUp.buses } } ∧
        (∀ j, j ≠ b → u.buses[j] = s.buses[j] ∧ u.unit.startUp.buses[j] = s.unit.startUp.buses[j]) ∧
        (patternPasses 0x55 x = true ∧ patternPasses 0xAA y = true →
          u.buses[b] = { s.buses[b] with state := .waking (some (s.now + Config.us 250)) (s.now + Config.us 100250) } ∧
          u.attention = s.attention ∧
          ((∃ l, s.unit.startUp.phase = .running l) → u.unit.startUp.buses[b].progress = .rollcall)) ∧
        (¬(patternPasses 0x55 x = true ∧ patternPasses 0xAA y = true) →
          u.buses[b] = { s.buses[b] with state := .failed (patternPasses 0x55 x) } ∧ u.flagged .bus = true ∧
          ((∃ l, s.unit.startUp.phase = .running l) → u.unit.startUp.buses[b].progress = .failed))) ∧
      (∀ x e, s.buses[b].state = .waking (some x) e →
        exec (.wakePulseEnd b) s = .next (s.setBus b { s.buses[b] with state := .waking none e })) ∧
      (∀ p e, s.buses[b].state = .waking p e → Settles (.wakeEnd b) s (s.setBus b
        { s.buses[b] with
          state := .rollcall
          rollCall := ⟨.running, 0, 0, s.buses[b].rollCall.requested, []⟩
          round := ⟨s.buses[b].round.index, s.buses[b].round.start, none, none⟩
          switchPending := false
          maskChanged := false
          frame := some ⟨.probe, 1, s.now, none, none⟩ })) ∧
      (∀ l e, s.buses[b].state = .stuck l e →
        exec (.stuckRetryEnd b) s =
          .next (s.setBus b { s.buses[b] with state := .waking (some (s.now + Config.us 250)) (s.now + Config.us 100250) }))) ∧
  ∀ (s : State) (b : Fin 8) (w : LineWatch) (f : Frame), s.buses[b].frame = some f →
    s.buses[b].state = .rollcall ∨ s.buses[b].state = .polling →
    (15 ≤ w.bitTimes → w.level = .low ∨ w.fromGapStart = true → ∃ u, Settles (.stuckLine b w) s u ∧
      u = { s with buses := u.buses, strings := u.strings, attention := u.attention, unit := u.unit } ∧
      u.flagged .bus = true ∧ (∀ j, j ≠ b → u.buses[j] = s.buses[j] ∧ u.strings[j] = s.strings[j]) ∧
      u.buses[b] =
        { s.buses[b] with
          state := .stuck w.level (s.now + Config.sec 5)
          frame := none
          switchPending := false
          maskChanged := false
          rollCall := if s.buses[b].state = .rollcall then
            { s.buses[b].rollCall with progress := .abandoned, working := [] } else s.buses[b].rollCall
          round := ⟨s.buses[b].round.index, s.buses[b].round.start, none, none⟩ } ∧
      u.strings[b] = (if s.buses[b].state = .polling then { s.strings[b] with onlineCount := 0, voltage := 0 }
        else s.strings[b]) ∧
      ((∃ l, s.unit.startUp.phase = .running l) →
        u.unit.startUp.buses[b] = ⟨.rollcall, true⟩) ∧
      ((∃ c, s.unit.startUp.phase = .ended c) → u.unit = s.unit)) ∧
    (w.bitTimes < 15 → exec (.stuckLine b w) s = .next s)

/-- A read-back bit that differs from the bit driven abandons the frame, with an idle gap of 10 bit times; one that
matches does nothing. The end of the gap ends the frame: a PROBE or SUMMARY is judged ECHO, a TARGET counts as not sent
(model's choices: without a gap nothing ends: log 2; positions count from the delimiter: log 24). -/
def Obligations.EchoErrorAbandonsFrame : Prop :=
  ∀ (s : State) (b : Fin 8) (f : Frame), s.buses[b].frame = some f →
    (∀ (n : Nat) (r : Samples) (d : Bool), f.gapEnd = none →
      (frameBits f.kind f.address (f.built.getD ⟨s.strings[b].bleedTarget, s.strings[b].bleeding⟩))[n]? = some d →
      (majority r ≠ d → exec (.echoError b n r) s = .next (s.setBus b
        { s.buses[b] with frame := some { f with gapEnd := some (s.now + 10 * 3750) } })) ∧
      (majority r = d → exec (.echoError b n r) s = .next s)) ∧
    (f.gapEnd.isSome = true → ∃ t, exec (.idleGapEnd b) s = .next t ∧ t.orderMemory = s.orderMemory ∧
      t.runner = s.runner ∧ (∀ j, j ≠ b → t.buses[j] = s.buses[j]) ∧
      (f.kind = .target → t.buses[b].lastFailure = some ⟨.echo, 0⟩ ∧ t.buses[b].lastTarget = s.buses[b].lastTarget ∧
        t.buses[b].roster = s.buses[b].roster) ∧
      (f.kind = .probe → s.buses[b].state = .rollcall → f.address < 24 →
        t.buses[b] = { s.buses[b] with
          lastFailure := some ⟨.echo, f.address⟩, frame := some ⟨.probe, f.address + 1, s.now, none, none⟩ }) ∧
      (f.kind = .probe → s.buses[b].state = .polling →
        t.buses[b].lastFailure = some ⟨.echo, f.address⟩ ∧ t.buses[b].roster = s.buses[b].roster) ∧
      (f.kind = .summary → s.buses[b].state = .polling →
        t.buses[b].lastFailure = some ⟨.echo, f.address⟩ ∧
        t.buses[b].roster = s.buses[b].roster.map fun e => if e.address = f.address then e.failedSummary else e)) ∧
    (f.gapEnd = none → exec (.idleGapEnd b) s = .next s)

/-- SUMMARY_ANSWER and PROBE_ANSWER end an exchange only with every expected character found and none with a framing error;
RESPONSE_WINDOW_END ends it with what was found. The end, whichever of its rows of the table brings it: a failure is recorded
and moves the entry, a good SUMMARY moves its entry, a good PROBE of a roll call joins the working list. A good SUMMARY after
which its entry is ONLINE hands its gas level on: where the string is complete then, the level is written into the bay's gas
list, in string and address order, and else it is not kept (the rows' operands: log 24; order of hand-offs: log 6;
completeness after a commit of a mask: log 38). -/
def Obligations.ExchangeEndsByJudgement : Prop :=
  (∀ (s : State) (b : Fin 8) (f : Frame) (chars : List BusChar) (c : Instr),
    let answer := (chars.filterMap busReceive).take (if f.kind = .summary then 13 else 3)
    let complete := answer.length = (if f.kind = .summary then 13 else 3) ∧ ∀ x ∈ answer, x.framing = false
    (¬complete → (f.kind = .summary ∧ c = .summaryAnswer b chars) ∨ (f.kind = .probe ∧ c = .probeAnswer b chars) →
      exec c s = .next s) ∧
    ((complete ∧ f.kind = .summary ∧ c = .summaryAnswer b chars) ∨
      (complete ∧ f.kind = .probe ∧ c = .probeAnswer b chars) ∨
      ((f.kind = .summary ∨ f.kind = .probe) ∧ c = .responseWindowEnd b chars) →
    s.buses[b].frame = some f → f.gapEnd = none →
    let data := (answer.map (·.value)).dropLast
    let bad := judgeAnswer f.kind f.address answer
    ∃ t, exec c s = .next t ∧ t.orderMemory = s.orderMemory ∧ t.runner = s.runner ∧
      (∀ j, j ≠ b → t.buses[j] = s.buses[j]) ∧
      (∀ why, bad = some why → t.buses[b].lastFailure = some ⟨why, f.address⟩ ∧
        (f.kind = .probe → s.buses[b].state = .rollcall → f.address < 24 →
          t.buses[b] = { s.buses[b] with
            lastFailure := some ⟨why, f.address⟩, frame := some ⟨.probe, f.address + 1, s.now, none, none⟩ }) ∧
        (f.kind = .probe → s.buses[b].state = .polling → t.buses[b].roster = s.buses[b].roster) ∧
        (f.kind = .summary → s.buses[b].state = .polling →
          t.buses[b].roster = s.buses[b].roster.map fun e => if e.address = f.address then e.failedSummary else e)) ∧
      (∀ v, bad = none → f.kind = .summary → s.buses[b].state = .polling → decodeSummary data = some v →
        t.buses[b].lastFailure = s.buses[b].lastFailure ∧
        t.buses[b].roster = s.buses[b].roster.map fun e => if e.address = f.address then
          { e with
            state := e.state.afterSummary (v.judge s.unit.active.cells[b]), missCount := 0, summary := some v }
          else e) ∧
      (∀ x, bad = none → f.kind = .probe → decodeProbe data = some x →
        (s.buses[b].state = .rollcall → f.address < 24 → t.buses[b] = { s.buses[b] with
          frame := some ⟨.probe, f.address + 1, s.now, none, none⟩
          rollCall := { s.buses[b].rollCall with
            found := s.buses[b].rollCall.found + 1
            extra := s.buses[b].rollCall.extra +
              if s.unit.active.expects b f.address = true then 0 else 1
            working := s.buses[b].rollCall.working ++ [⟨f.address, x⟩] } }) ∧
        (s.buses[b].state = .polling → t.buses[b].lastFailure = s.buses[b].lastFailure ∧
          t.buses[b].roster = s.buses[b].roster.map fun e => if e.address = f.address then
            match x.judge s.unit.active.cells[b] with
            | some why => { e with state := .faulted why, missCount := 0, probe := some x }
            | none => { e with probe := some x }
            else e)))) ∧
  ∀ (s : State) (b : Fin 8) (f : Frame) (chars : List BusChar) (v : Summary) (c : Instr), s.buses[b].state = .polling →
    s.buses[b].frame = some f → f.gapEnd = none → f.kind = .summary → s.buses[b].switchPending = false →
    c = .responseWindowEnd b chars ∨ c = .summaryAnswer b chars →
    let answer := (chars.filterMap busReceive).take 13
    judgeAnswer .summary f.address answer = none → decodeSummary (answer.map (·.value)).dropLast = some v →
    let p := s.unit.active
    let bus := { s.buses[b] with roster := s.buses[b].roster.map fun e => if e.address = f.address then
      { e with state := e.state.afterSummary (v.judge p.cells[b]), missCount := 0, summary := some v } else e }
    let kept := bus.onlineAt f.address = true ∧ p.isFitted b = true ∧ bus.maskChanged = false ∧ p.expected[b] ≠ 0 ∧
      ∀ a, p.expects b a = true → bus.onlineAt a = true
    let old := s.fire[bayOf b].gasList
    let ordered := List.Pairwise fun (x y : GasItem) =>
      x.string < y.string ∨ (x.string = y.string ∧ x.address < y.address)
    ∃ gas : List GasItem,
      exec c s = .next (State.settle (State.visitAbove (State.settle
        ((s.setBus b bus).setFire (bayOf b) { s.fire[bayOf b] with gasList := gas })) b f.address)) ∧
      (¬kept → gas = old) ∧
      (kept → (⟨b, f.address, v.gas⟩ : GasItem) ∈ gas ∧
        (∀ it, it.string ≠ b ∨ it.address ≠ f.address → (it ∈ gas ↔ it ∈ old)) ∧ (ordered old → ordered gas))

/-- An answer on a sensing bus is judged FRAMING, NOISE, SHORT or CHECK, the first that applies, and a whole frame of the
converter link FRAMING, NOISE, CHECK or KIND; a good answer has a check character that makes the sum of selector and
characters FFh, and a valid frame carries its kind, its handle, its two values low half first, and its tag. -/
def Obligations.AnswersAndFramesJudgedInOrder : Prop :=
  (∀ (kind : FrameKind) (address : Nat) (answer : List BusRx) (sel : Byte), kind = .summary ∨ kind = .probe →
    address ≤ 24 → answer.length ≤ (if kind = .summary then 13 else 3) →
    (sel.extractLsb' 0 5).toNat = address → (sel.extractLsb' 5 2).toNat = (if kind = .summary then 1 else 2) →
    (List.range 8).countP (fun n => sel.getLsbD n) % 2 = 1 →
    let judged := judgeAnswer kind address answer
    let noisy := answer.countP (·.noise)
    let framing := ∃ c ∈ answer, c.framing = true
    (framing → judged = some .framing) ∧ (¬framing → 2 ≤ noisy → judged = some .noise) ∧
    (¬framing → noisy < 2 →
      (answer.length < (if kind = .summary then 13 else 3) → judged = some .short) ∧
      (answer.length = (if kind = .summary then 13 else 3) →
        judged = if (sel.toNat + (answer.map (·.value.toNat)).sum) % 256 = 255 then none else some .check))) ∧
  ∀ (k slot gen a0 a1 b0 b1 tag check : Byte) (cs : List RxChar),
    cs.map (·.value) = [k, slot, gen, a0, a1, b0, b1, tag, check] →
    let framing := ∃ c ∈ cs, c.framing = true
    let noisy := cs.countP (·.noise)
    let sum := ([k, slot, gen, a0, a1, b0, b1, tag, check].map (·.toNat)).sum
    (framing → judgeFrame cs = .error .framing) ∧ (¬framing → 2 ≤ noisy → judgeFrame cs = .error .noise) ∧
    (¬framing → noisy < 2 → sum % 256 ≠ 255 → judgeFrame cs = .error .check) ∧
    (¬framing → noisy < 2 → sum % 256 = 255 → k.toNat = 0 ∨ 4 < k.toNat → judgeFrame cs = .error .kind) ∧
    (¬framing → noisy < 2 → sum % 256 = 255 → 1 ≤ k.toNat → k.toNat ≤ 4 → ∃ f : InFrame, judgeFrame cs = .ok f ∧
      f.handle = ⟨slot, gen⟩ ∧ f.valueA.toNat = a0.toNat + 256 * a1.toNat ∧ f.valueB.toNat = b0.toNat + 256 * b1.toNat ∧
      f.tag = tag ∧ f.kind = (if k = 1 then .renew else if k = 2 then .reduce else if k = 3 then .handback else .query))

/-- A round starts with the next index and visits the lowest address that is due; a TARGET frame that ends leaves the
values sent as the last target sent, and the round ends with its next start by band and poll base (values not built yet are
sent as they stand: log 25; position is the entry visited: log 37). -/
def Obligations.RoundStartsAndEnds : Prop :=
  ∀ (s : State) (b : Fin 8),
    (s.buses[b].state = .polling → s.buses[b].round.nextStart.isSome = true →
      let index := if 10 ≤ s.buses[b].round.index then 1 else s.buses[b].round.index + 1
      ∃ t, exec (.pollRoundStart b) s = .next t ∧ t.buses[b].round.index = index ∧
        t.buses[b].round.start = some s.now ∧ t.buses[b].roster = s.buses[b].roster ∧
        (∀ j, j ≠ b → t.buses[j] = s.buses[j]) ∧ t.orderMemory = s.orderMemory ∧ t.runner = s.runner ∧
        ∀ e, (s.buses[b].roster.map (·.address)).Pairwise (· < ·) → e ∈ s.buses[b].roster → 1 ≤ e.address →
          e.state ≠ .missing ∨ index = 10 →
          (∀ d ∈ s.buses[b].roster, d.state ≠ .missing ∨ index = 10 → e.address ≤ d.address) →
          t.buses[b] = { s.buses[b] with
            round := ⟨index, some s.now, none, some e.address⟩
            frame := some ⟨if e.state = .missing then .probe else .summary, e.address, s.now, none, none⟩ }) ∧
    (∀ f, s.buses[b].frame = some f → f.kind = .target → f.gapEnd = none → ∃ t,
      exec (.targetFrameEnd b) s = .next t ∧
      t.buses[b].lastTarget = some (f.built.getD ⟨s.strings[b].bleedTarget, s.strings[b].bleeding⟩) ∧
      t.buses[b].roster = s.buses[b].roster ∧ (∀ j, j ≠ b → t.buses[j] = s.buses[j]) ∧
      t.orderMemory = s.orderMemory ∧ t.runner = s.runner ∧
      (s.buses[b].switchPending = false → ∀ start, s.buses[b].round.start = some start →
        t.buses[b].state = s.buses[b].state ∧ t.buses[b].frame = none ∧ t.buses[b].round.position = none ∧
        t.buses[b].round.nextStart = some (max s.now (start +
          Config.ms s.unit.active.pollBase /
            (if s.strings[b].band = 3 ∨ s.strings[b].band = 4 then 1
              else if s.strings[b].band = 2 ∨ s.strings[b].band = 5 then 2 else 4)))) ∧
      (s.buses[b].switchPending = true → t.buses[b].state = .rollcall ∧
        t.buses[b].frame = some ⟨.probe, 1, s.now, none, none⟩))

/-- An aggregation sets count, voltage, extreme cells with their places, temperatures and band from the entries counted
ONLINE, the lowest address among equals; with none, count and voltage are 0 and the rest stands (a sum beyond the voltage's
range is free: log 12). -/
def Obligations.AggregationSetsMeasuredFields : Prop :=
  ∀ (s : State) (i : Fin 8) (t : State) (r : StringRec), t = s.aggregate i → r = t.strings[i] →
    let p := s.unit.active
    let old := s.strings[i]
    let counted := if s.buses[i].state = .polling then s.buses[i].roster.filter (fun e => e.state == .online) else []
    let given := fun (a : Nat) (v : Summary) => ∃ e ∈ counted, e.address = a ∧ e.summary = some v
    t = { s with strings := t.strings, attention := t.attention } ∧ (∀ j, j ≠ i → t.strings[j] = s.strings[j]) ∧
    r.onlineCount = counted.length ∧
    (((counted.filterMap (·.summary)).map (·.voltage)).sum < 655360 →
      r.voltage = ((counted.filterMap (·.summary)).map (·.voltage)).sum / 10) ∧
    (counted = [] → r = { old with onlineCount := 0, voltage := 0 } ∧ t.attention = s.attention) ∧
    ((s.buses[i].roster.map (·.address)).Pairwise (· < ·) →
      (∀ a v, given a v → (∀ b w, given b w → v.minCell < w.minCell ∨ (v.minCell = w.minCell ∧ a ≤ b)) →
        r.minCell = v.minCell ∧ r.minPlace = some ⟨a, v.minPosition⟩) ∧
      (∀ a v, given a v → (∀ b w, given b w → w.maxCell < v.maxCell ∨ (v.maxCell = w.maxCell ∧ a ≤ b)) →
        r.maxCell = v.maxCell ∧ r.maxPlace = some ⟨a, v.maxPosition⟩)) ∧
    (∀ a v, given a v → (∀ b w, given b w → v.minTemp ≤ w.minTemp) → r.minTemp = v.minTemp) ∧
    (∀ a v, given a v → (∀ b w, given b w → w.maxTemp ≤ v.maxTemp) → r.maxTemp = v.maxTemp) ∧
    (counted ≠ [] → r.band =
      if p.t7 ≤ r.maxTemp then 7 else if p.t6 ≤ r.maxTemp then 6 else if p.t5 ≤ r.maxTemp then 5
      else if p.t4 ≤ r.maxTemp then 4 else if r.minTemp < p.t0 then 0 else if r.minTemp < p.t1 then 1
      else if r.minTemp < p.t2 then 2 else 3) ∧
    (r.band ≠ old.band → r.bandChanged = true ∧ t.flagged .band = true) ∧
    (r.band = old.band → r.bandChanged = old.bandChanged ∧ t.attention = s.attention) ∧
    r.fitted = old.fitted ∧ r.chargeEnvelope = old.chargeEnvelope ∧ r.dischargeEnvelope = old.dischargeEnvelope ∧
    r.cause = old.cause ∧ r.bleedTarget = old.bleedTarget ∧ r.bleeding = old.bleeding

/-- A round with no entry left to visit is complete: the record is aggregated, the match of the string being served is
checked, the first round is reported and the event settles; then a TARGET frame begins where it is due, and otherwise the
round ends. The PROBE to address 24 completes a roll call: the roster is rebuilt from the mask and the answers, and the first
round begins (model's choices: order of hand-offs: log 6; position: log 37). -/
def Obligations.RoundsAndRollCallsComplete : Prop :=
  (∀ (s : State) (b : Fin 8) (above : Nat),
    (∀ e ∈ s.buses[b].roster, above < e.address → e.state = .missing ∧ s.buses[b].round.index ≠ 10) →
    ∃ u t, s.visitAbove b above = t ∧
      u = State.settle (State.noteFirstRound (State.checkMatchOf ((s.setBus b { s.buses[b] with
        frame := none, round := { s.buses[b].round with position := none } }).aggregate b) b) b) ∧
      (s.buses[b].round.index = 1 → (∃ e, s.unit.startUp.phase = .running e) →
        u.unit.startUp.buses[b].progress = .polled) ∧
      u.buses[b] = { s.buses[b] with frame := none, round := { s.buses[b].round with position := none } } ∧
      let now := u.strings[b]
      let due := s.buses[b].round.index = 10 ∨ ∀ l, s.buses[b].lastTarget = some l →
        l.millivolts + 5 ≤ now.bleedTarget ∨ now.bleedTarget + 5 ≤ l.millivolts ∨ l.enable ≠ now.bleeding
      (due → t = u.setBus b { u.buses[b] with frame := some ⟨.target, 0, s.now, none, none⟩ }) ∧
      (¬due → ∀ start, s.buses[b].round.start = some start → t = u.setBus b { u.buses[b] with round :=
        { u.buses[b].round with nextStart := some (max s.now (start + Config.ms s.unit.active.pollBase /
          (if u.strings[b].band = 3 ∨ u.strings[b].band = 4 then 1
            else if u.strings[b].band = 2 ∨ u.strings[b].band = 5 then 2 else 4))) } })) ∧
  (∀ (s : State) (b : Fin 8) (f : Frame) (chars : List BusChar) (why : FailKind), s.buses[b].state = .polling →
    s.buses[b].frame = some f → f.gapEnd = none → f.kind = .summary → s.buses[b].switchPending = false →
    judgeAnswer .summary f.address ((chars.filterMap busReceive).take 13) = some why →
    exec (.responseWindowEnd b chars) s = .next (State.settle (State.visitAbove (State.settle
      (s.setBus b { s.buses[b] with
        lastFailure := some ⟨why, f.address⟩
        roster := s.buses[b].roster.map fun e => if e.address = f.address then e.failedSummary else e })) b f.address))) ∧
  ∀ (s : State) (b : Fin 8) (f : Frame) (chars : List BusChar), s.buses[b].state = .rollcall →
    s.buses[b].frame = some f → f.gapEnd = none → f.kind = .probe → f.address = 24 →
    let answer := (chars.filterMap busReceive).take 3
    let good := (judgeAnswer .probe 24 answer).isNone
    let call := s.buses[b].rollCall
    ∀ working : List CallItem,
      (good = false → working = call.working) →
      (good = true → ∀ x, decodeProbe (answer.map (·.value)).dropLast = some x →
        working = call.working ++ [⟨24, x⟩]) →
      ∃ t, exec (.responseWindowEnd b chars) s = .next t ∧ (∀ j, j ≠ b → t.buses[j] = s.buses[j]) ∧
        t.buses[b].state = .polling ∧
        t.buses[b].roster = (List.range 24).filterMap (fun n =>
          match s.unit.active.expected[b].getLsbD n, working.find? (fun x => x.address == n + 1) with
          | true, some x => some ⟨n + 1, true,
              if x.probe.cellCount ≠ s.unit.active.cells[b] then .faulted .cells
              else if x.probe.status &&& 7 ≠ 0 then .faulted .status else .online, 0, none, some x.probe⟩
          | true, none => some ⟨n + 1, true, .missing, 0, none, none⟩
          | false, some x => some ⟨n + 1, false, .extra, 0, none, some x.probe⟩
          | false, none => none) ∧
        t.buses[b].rollCall = ⟨.idle, call.found + (if good then 1 else 0),
          t.buses[b].roster.countP (·.state == .extra), false, []⟩ ∧
        ((∃ e ∈ t.buses[b].roster, e.state = .extra) ∨ call.requested = true → t.flagged .bus = true) ∧
        t.buses[b].round.index = 1 ∧ t.buses[b].round.start = some s.now ∧
        ∀ e ∈ t.buses[b].roster, e.state ≠ .missing →
          (∀ d ∈ t.buses[b].roster, d.state ≠ .missing → e.address ≤ d.address) →
          t.buses[b].frame = some ⟨.summary, e.address, s.now, none, none⟩ ∧
          t.buses[b].round.position = some e.address ∧
          ((∃ l, s.unit.startUp.phase = .running l) → t.unit.startUp.buses[b].progress = .firstRound)

/-! ### Fire and cooling -/

/-- The lines of a bay: smoke lines and the hold button, their candidates, what is taken, and the end of the pulse
(model's choices: order of hand-offs: log 6; no candidate stands once taken: log 45). -/
def Obligations.FireLinesAndPulse : Prop :=
  ∀ (s : State) (k : Fin 4),
    (∀ p : SmokePair,
      (p ≠ s.fire[k].smokeA.level → exec (.smokeLineChange k .a p) s = .next (s.setFire k
        { s.fire[k] with smokeA := { s.fire[k].smokeA with candidate := some ⟨p, s.now⟩ } })) ∧
      (p ≠ s.fire[k].smokeB.level → exec (.smokeLineChange k .b p) s = .next (s.setFire k
        { s.fire[k] with smokeB := { s.fire[k].smokeB with candidate := some ⟨p, s.now⟩ } }))) ∧
    (∀ x, s.fire[k].smokeA.candidate = some x → ∃ c, Settles (.smokeConditionTaken k .a) s
        (s.setFire k { s.fire[k] with smokeA := ⟨c, x.level, none⟩ }) ∧
      (c = .normal ↔ x.level = ⟨true, false⟩) ∧ (c = .active ↔ x.level = ⟨false, true⟩)) ∧
    (∀ x, s.fire[k].smokeB.candidate = some x → ∃ c, Settles (.smokeConditionTaken k .b) s
        (s.setFire k { s.fire[k] with smokeB := ⟨c, x.level, none⟩ }) ∧
      (c = .normal ↔ x.level = ⟨true, false⟩) ∧ (c = .active ↔ x.level = ⟨false, true⟩)) ∧
    (∀ x, x ≠ s.fire[k].hold.level → exec (.holdButtonChange k x) s = .next (s.setFire k
      { s.fire[k] with hold := ⟨s.fire[k].hold.taken, some ⟨x, s.now⟩⟩ })) ∧
    (∀ x, s.fire[k].hold.candidate = some x → Settles (.holdButtonTaken k) s (s.setFire k
      { s.fire[k] with hold := ⟨x.level, none⟩ })) ∧
    (∀ e, s.fire[k].state = .released (some e) → exec (.releasePulseEnd k) s = .next (s.setFire k
      { s.fire[k] with state := .released none, releaseOutput := false }))

/-- The settling of an event evaluates every bay: availability, GAS, HEAT, counts, degraded and manual causes from the
records as they stand, then the state by R108, R109 and R111 (order of hand-offs: log 6; a string after a commit of its mask:
log 38). -/
def Obligations.BayEvaluationDecidesState : Prop :=
  ∀ (s : State) (k : Fin 4) (t : State), t = s.settle →
    let p := s.unit.active
    let r := s.fire[k]
    let x := t.fire[k]
    let counts := fun (i : Fin 8) => s.buses[i].state = .polling ∧ s.buses[i].maskChanged = false ∧ p.expected[i] ≠ 0 ∧
      ∀ a, p.expects i a = true → s.buses[i].onlineAt a = true
    let available := (p.isFitted (evenOf k) = true ∨ p.isFitted (oddOf k) = true) ∧
      (p.isFitted (evenOf k) = true → counts (evenOf k)) ∧ (p.isFitted (oddOf k) = true → counts (oddOf k))
    (∀ it, it ∈ x.gasList ↔ it ∈ r.gasList ∧ p.isFitted it.string = true ∧ counts it.string) ∧
    (¬available → x.gas = .unavailable ∧ x.heat = .unavailable) ∧
    (available →
      x.gas ≠ .unavailable ∧ (x.gas = .active ↔ ∃ it ∈ x.gasList, p.gasLimit ≤ it.level) ∧
      x.heat ≠ .unavailable ∧ (x.heat = .active ↔
        (p.isFitted (evenOf k) = true ∧ s.strings[evenOf k].band = 7) ∨
          (p.isFitted (oddOf k) = true ∧ s.strings[oddOf k].band = 7))) ∧
    x.smokeA = r.smokeA ∧ x.smokeB = r.smokeB ∧ x.hold = r.hold ∧ x.releaseOutput = r.releaseOutput ∧
    x.activeCount = (if r.smokeA.condition = .active then 1 else 0) + (if r.smokeB.condition = .active then 1 else 0) +
      (if x.gas = .active then 1 else 0) + (if x.heat = .active then 1 else 0) ∧
    x.availableCount = (if r.smokeA.condition = .fault then 0 else 1) + (if r.smokeB.condition = .fault then 0 else 1) +
      (if x.gas = .unavailable then 0 else 1) + (if x.heat = .unavailable then 0 else 1) ∧
    (x.degraded = true ↔ x.availableCount < 2) ∧
    (x.manual.entry = true ↔ ∃ i q, Holds s i q ∧ q.kind = .entry ∧ q.state = .live ∧
      (q.scope.getLsbD (2 * k.val) = true ∨ q.scope.getLsbD (2 * k.val + 1) = true)) ∧
    x.manual.hold = r.hold.taken ∧ (x.manual.profile = true ↔ s.loaded = true ∧ p.manualBays.getLsbD k.val = true) ∧
    (let attended := x.manual.entry = true ∨ x.manual.hold = true ∨ x.manual.profile = true
      let full := s.now + Config.sec p.releaseCountdown
      (r.state = .quiet ∨ r.state = .preAlarm →
        (x.activeCount = 0 → x.state = .quiet) ∧
        (x.activeCount = 1 → x.degraded = false → x.state = .preAlarm) ∧
        (2 ≤ x.activeCount ∨ (x.activeCount = 1 ∧ x.degraded = true) →
          (attended → x.state = .alarm) ∧ (¬attended → x.state = .countdown full))) ∧
      (r.state = .alarm → (attended → x.state = .alarm) ∧ (¬attended → x.state = .countdown full)) ∧
      (∀ e, r.state = .countdown e → (attended → x.state = .alarm) ∧ (¬attended → x.state = .countdown e)) ∧
      ∀ e, r.state = .released e → x.state = .released e) ∧
    (x.state.code ≠ r.state.code → t.flagged .fire = true)

/-- The settling of an event computes every bay's cooling demand from its fitted strings, the running stage and run-on from
the demand, and the outputs from stage, heater demand and containment; and what run-on, flow switch and flow timer of a bay do
(order of hand-offs: log 6; completeness after a commit of a mask: log 38). -/
def Obligations.CoolingFollowsDemandAndTimers : Prop :=
  (∀ (s : State) (k : Fin 4) (t : State), t = s.settle →
     let p := s.unit.active
     let r := s.cooling[k]
     let x := t.cooling[k]
     let input := fun (i : Fin 8) => if p.isFitted i = true then (⟨true, s.strings[i].band, s.stringComplete i⟩ : StringInput)
       else ⟨false, 3, false⟩
     let e := input (evenOf k)
     let o := input (oddOf k)
     let base := fun (b : Fin 8) => match b with
       | 0 => 0
       | 1 => 0
       | 2 => 0
       | 3 => 0
       | 4 => 1
       | 5 => 2
       | 6 => 3
       | 7 => 3
     x.even = e ∧ x.odd = o ∧ x.flow = r.flow ∧ x.flowFault = r.flowFault ∧ x.containment = t.fire[k].containment ∧
     (e.fitted = false → o.fitted = false → x.demand = 0 ∧ x.heaterDemand = false) ∧
     (∀ b : Fin 8, (e.fitted = true ∧ e.band = b) ∨ (o.fitted = true ∧ o.band = b) →
       (e.fitted = true → e.band ≤ b) → (o.fitted = true → o.band ≤ b) →
       (x.heaterDemand = true ↔ b = 0 ∨ b = 1) ∧
       x.demand = if base b = 0 ∧ ((e.fitted = true ∧ e.complete = false) ∨ (o.fitted = true ∧ o.complete = false)) then 1
         else base b) ∧
     (r.running < x.demand → x.running = x.demand ∧ x.runOnEnd = none) ∧
     (r.running = x.demand → x.running = r.running ∧ x.runOnEnd = none) ∧
     (x.demand < r.running → x.running = r.running ∧ x.runOnEnd = some (r.runOnEnd.getD (s.now + Config.sec p.runOn))) ∧
     (x.outputs.fanLow = true ↔ x.containment = .none ∧ x.running = 1) ∧
     (x.outputs.fanHigh = true ↔ x.containment = .none ∧ 2 ≤ x.running) ∧
     (x.outputs.pump = true ↔ 1 ≤ x.running ∨ (x.containment = .none ∧ x.heaterDemand = true)) ∧
     (x.outputs.chiller = true ↔ x.running = 3) ∧
     (x.outputs.heater = true ↔ x.containment = .none ∧ x.heaterDemand = true) ∧
     (x.outputs.damper = true ↔ x.containment = .none ∧ 1 ≤ x.running)) ∧
  ∀ (s : State) (k : Fin 4),
    (s.cooling[k].runOnEnd.isSome = true → ∃ u, Settles (.runOnEnd k) s u ∧ u = { s with cooling := u.cooling } ∧
      (∀ j, j ≠ k → u.cooling[j] = s.cooling[j]) ∧
      u.cooling[k] = { s.cooling[k] with
        running := s.cooling[k].running - 1
        runOnEnd := if s.cooling[k].demand < s.cooling[k].running - 1 then
          some (s.now + Config.sec s.unit.active.runOn) else none
        outputs := outputsOf (s.cooling[k].running - 1) s.cooling[k].heaterDemand s.cooling[k].containment
        flowTimer := u.cooling[k].flowTimer }) ∧
    (∀ x, x ≠ s.cooling[k].flow → ∃ r, exec (.flowSwitchChange k x) s = .next (s.setCooling k r) ∧
      r = { s.cooling[k] with flow := x, outputs := r.outputs, flowTimer := r.flowTimer } ∧
      r.outputs = outputsOf s.cooling[k].running s.cooling[k].heaterDemand s.cooling[k].containment ∧
      (r.outputs.pump = false ∨ x ≠ s.cooling[k].flowFault → r.flowTimer = none) ∧
      (r.outputs.pump = true → x = s.cooling[k].flowFault → s.cooling[k].flowTimer = none →
        r.flowTimer = some (if x then ⟨.clear, s.now + Config.sec 30⟩ else ⟨.fault, s.now + Config.sec 10⟩))) ∧
    (∀ g, s.cooling[k].flowTimer = some g → ∃ u, Settles (.flowTimerEnd k) s u ∧
      u = { s with cooling := u.cooling, attention := u.attention } ∧ (∀ j, j ≠ k → u.cooling[j] = s.cooling[j]) ∧
      u.flagged .cooling = true ∧ (u.cooling[k].flowFault = true ↔ g.goal = .fault) ∧
      u.cooling[k].running = s.cooling[k].running ∧
      ((s.cooling[k].flow = true ↔ g.goal = .clear) → u.cooling[k].flowTimer = none))

/-- A bay's entry to an alarm state in the settling of an event. Every CONNECT that is LIVE or SUSPENDED, and every standing
CHARGE and DISCHARGE whose scope holds a string of the bay, is REVOKED with reason FIRE and the effects of R18, and ISOLATE and
ENTRY are not; the breaker trips by its state; the bay's contactors open at once, without a drain, and leave the path (order
of hand-offs, in which a LIMIT notice may be begun and its mark cleared at the end: log 6). -/
def Obligations.AlarmEntryRevokesTripsAndOpens : Prop :=
  ∀ (s : State) (k : Fin 4) (t : State), t = s.settle →
    let inAlarm := fun (x : FireState) => x = .alarm ∨ (∃ e, x = .countdown e) ∨ ∃ e, x = .released e
    ¬inAlarm s.fire[k].state → inAlarm t.fire[k].state →
    t.flagged .fire = true ∧
    (∀ i p, Holds s i p → (p.kind = .connect ∧ (p.state = .live ∨ p.state = .suspended)) ∨
        ((p.kind = .charge ∨ p.kind = .discharge) ∧ p.state ≠ .revoked ∧
          (p.scope.getLsbD (2 * k.val) = true ∨ p.scope.getLsbD (2 * k.val + 1) = true)) →
      ∃ q : Permit, Holds t i q ∧ t.flagged .permit = true ∧
        q = { p with
          state := .revoked
          reason := some .fire
          limits := p.limits.map fun l => ⟨l.requested, 0, none⟩
          leaseEnd := none
          holdEnd := some (s.now + Config.sec s.unit.active.revokedHold)
          changed := true
          notice := q.notice } ∧
        (p.holder = .converter → q.notice = true ∨ ∃ f r x, t.link.transmitter = .sending f r x ∧ f.kind = .limit ∧
          f.handle = ⟨BitVec.ofNat 8 i.val, s.slots[i].generation⟩)) ∧
    (∀ i p, Holds s i p → p.kind = .isolate ∨ p.kind = .entry → p.state ≠ .revoked → p.limits = none →
      ∃ q, Holds t i q ∧ q.state ≠ .revoked) ∧
    (s.breaker.state = .closed ∨ (∃ e, s.breaker.state = .closing e) →
      t.breaker.commandedClosed = false ∧ t.breaker.closePulse = false ∧ t.flagged .connection = true ∧
      (s.breaker.feedback = true →
        t.breaker.state = .opening .trip (s.now + Config.ms 300) ∧ t.breaker.openPulse = true) ∧
      (s.breaker.feedback = false → t.breaker.state = .tripped ∧ t.breaker.openPulse = false)) ∧
    (∀ kind e, s.breaker.state = .opening kind e →
      t.breaker.state = .opening .trip e ∧ t.breaker.openPulse = s.breaker.openPulse) ∧
    (s.breaker.state = .opened → t.breaker.state = .tripped ∧ t.breaker.closePulse = false ∧
      t.breaker.openPulse = false ∧ t.flagged .connection = true) ∧
    (s.breaker.state = .tripped → t.breaker.state = .tripped) ∧
    (∀ r, s.breaker.state = .failed r → t.breaker.state = .failed r) ∧
    t.breaker.feedback = s.breaker.feedback ∧ t.breaker.grid = s.breaker.grid ∧
    (∀ i : Fin 8, i.val = 2 * k.val ∨ i.val = 2 * k.val + 1 →
      let c := s.contactors[i]
      let x := t.contactors[i]
      t.serving ≠ some i ∧ x.failures = c.failures ∧ x.retryEnd = c.retryEnd ∧ x.unmet.fire = true ∧
      (∀ r, c.state = .failed r → x.state = .failed r) ∧ (c.state = .opened → x.state = .opened) ∧
      (c.state = .queued ∨ (∃ e, c.state = .precharging e) ∨ c.state = .closed ∨ (∃ e, c.state = .draining e) →
        x.state = .opened ∧ x.mainClosed = false ∧ x.prechargeClosed = false))

/-! ### Connection -/

/-- The timers of a string contactor and its main feedback (model's choices: order of hand-offs: log 6). -/
def Obligations.ContactorTimersAndFeedback : Prop :=
  ∀ (s : State) (i : Fin 8),
    let c := s.contactors[i]
    (∀ e, c.state = .precharging e → ∃ u, Settles (.prechargeTimeout i) s u ∧
      u = { s with contactors := u.contactors, serving := u.serving, attention := u.attention } ∧
      (∀ j, j ≠ i → u.contactors[j] = s.contactors[j]) ∧ u.serving ≠ some i ∧
      u.contactors[i].mainClosed = false ∧ u.contactors[i].prechargeClosed = false ∧
      (c.failures < 2 → u.contactors[i].state = .opened ∧ u.contactors[i].failures = c.failures + 1 ∧
        u.contactors[i].retryEnd = some (s.now + Config.sec 30)) ∧
      (2 ≤ c.failures → u.contactors[i].state = .failed .precharge ∧ u.contactors[i].failures = 3 ∧
        u.contactors[i].retryEnd = none ∧ u.flagged .connection = true)) ∧
    (c.retryEnd.isSome = true → Settles (.prechargeRetryEnd i) s (s.setContactor i { c with retryEnd := none })) ∧
    (∀ e, c.state = .draining e → ∃ x, Settles (.drainEnd i) s (s.setContactor i x) ∧
      x = { c with state := .opened, mainClosed := false, prechargeClosed := false, feedbackTimer := x.feedbackTimer } ∧
      x.feedbackTimer = (if c.fitted = true ∧ c.feedback = true then
        some (c.feedbackTimer.getD (s.now + Config.ms 200)) else none)) ∧
    (∀ x, x ≠ c.feedback → exec (.mainFeedbackChange i x) s = .next (s.setContactor i
      { c with
        feedback := x
        feedbackTimer := if c.fitted = true ∧ c.state.isFailed = false ∧ x ≠ c.mainClosed then
          some (c.feedbackTimer.getD (s.now + Config.ms 200)) else none })) ∧
    (c.feedbackTimer.isSome = true → ∃ u, Settles (.contactorFeedbackTimerEnd i) s u ∧
      u = { s with contactors := u.contactors, serving := u.serving, attention := u.attention } ∧
      (∀ j, j ≠ i → u.contactors[j] = s.contactors[j]) ∧ u.serving ≠ some i ∧
      u.contactors[i] = { c with
        state := .failed .feedback, retryEnd := none, mainClosed := false, prechargeClosed := false
        feedbackTimer := none } ∧
      ((∀ r, c.state ≠ .failed r) → u.flagged .connection = true))

/-- Service-readiness gained and lost, the precharge path and the match: the Connection Sequencer's stage in the settling of
an event, on the records as the stages before it leave them (order of hand-offs: log 6). -/
def Obligations.ServiceReadinessMovesContactors : Prop :=
  (∀ s : State, s.settle.contactors = s.doorStage.fireAndAlarm.coolStage.connectStage.contactors ∧
    s.settle.serving = s.doorStage.fireAndAlarm.coolStage.connectStage.serving) ∧
  (∀ (s : State) (i : Fin 8), s.matches i = true ↔ ∃ d, s.link.dc = some d ∧ s.now ≤ d.arrival + Config.sec 1 ∧
    0 < s.strings[i].voltage ∧ 100 * d.voltage ≤ 103 * s.strings[i].voltage ∧
    97 * s.strings[i].voltage ≤ 100 * d.voltage) ∧
  (∀ (s : State) (i : Fin 8), s.serving = some i →
    ((∃ e, s.contactors[i].state = .precharging e) → s.matches i = true → ∃ c : Contactor,
      s.checkMatch = { s.setContactor i c with serving := none } ∧
      c = { s.contactors[i] with
        state := .closed, failures := 0, mainClosed := true, prechargeClosed := false, feedbackTimer := c.feedbackTimer }) ∧
    (s.matches i = false ∨ (∀ e, s.contactors[i].state ≠ .precharging e) → s.checkMatch = s)) ∧
  ∀ (s : State) (t : State), t = s.connectStage →
    let ready := fun (i : Fin 8) => s.contactors[i].fitted = true ∧
      (¬∃ j p, Holds s j p ∧ p.kind = .isolate ∧ p.state ≠ .revoked ∧ p.scope.getLsbD i.val = true) ∧
      s.fire[bayOf i].state.inAlarm = false ∧ s.modulesHold i = false ∧ s.strings[i].band ≠ 0 ∧ s.strings[i].band ≠ 7 ∧
      s.link.state ≠ .down ∧ s.unit.mode ≠ .commissioning
    let waits := fun (i : Fin 8) => ready i ∧
      (s.contactors[i].state = .queued ∨ (s.contactors[i].state = .opened ∧ s.contactors[i].retryEnd = none))
    let busy := ∃ j, s.serving = some j ∧ ready j ∧ ∃ e, s.contactors[j].state = .precharging e
    t = { s with contactors := t.contactors, serving := t.serving } ∧
    (∀ i : Fin 8, (t.contactors[i].unmet.isEmpty = true ↔ ready i) ∧ t.contactors[i].retryEnd = s.contactors[i].retryEnd ∧
      (s.contactors[i].state = .closed →
        t.contactors[i].state = (if t.contactors[i].unmet.isEmpty then .closed else
          .draining (s.now + Config.sec s.unit.active.drainTime)) ∧
        (ready i ∨ t.contactors[i].mainClosed = true)) ∧
      (∀ e, s.contactors[i].state = .draining e →
        t.contactors[i].state = if t.contactors[i].unmet.isEmpty then .closed else .draining e) ∧
      (∀ e, s.contactors[i].state = .precharging e →
        t.contactors[i].state = (if t.contactors[i].unmet.isEmpty then .precharging e else .opened) ∧
        t.contactors[i].failures = s.contactors[i].failures) ∧
      (s.contactors[i].state = .queued ∨ s.contactors[i].state = .opened → ¬waits i → t.contactors[i].state = .opened) ∧
      (∀ r, s.contactors[i].state = .failed r → t.contactors[i].state = .failed r)) ∧
    (busy → t.serving = s.serving ∧ ∀ i, waits i → t.contactors[i].state = .queued) ∧
    (¬busy →
      (∀ i, waits i → (∀ j, j < i → waits j → s.matches j = true) →
        (s.matches i = true → t.contactors[i].state = .closed ∧ t.contactors[i].mainClosed = true ∧
          t.contactors[i].failures = 0) ∧
        (s.matches i = false → t.serving = some i ∧ t.contactors[i].prechargeClosed = true ∧
          t.contactors[i].state = .precharging (s.now + Config.sec 10))) ∧
      (∀ i, waits i → (∃ j, j < i ∧ waits j ∧ s.matches j = false) → t.contactors[i].state = .queued) ∧
      ((∀ i, waits i → s.matches i = true) → t.serving = none))

/-- A PENDING ISOLATE in the settling of an event becomes LIVE, with its changed mark and the PERMIT flag, when the contactor
of every string of its scope is OPEN then, an unfitted string counting as OPEN, and stays PENDING otherwise, so always while a
string of its scope is FAILED; when it is the permit being granted its mark stays as it is (order of hand-offs, in which a LIMIT
notice may be begun and its mark cleared at the end: log 6). -/
def Obligations.IsolateCompletesWhenScopeIsOpen : Prop :=
  ∀ (s : State) (i : Fin 48) (p : Permit) (granted : Option (Fin 48)) (t : State), t = s.settleWith granted →
    Holds s i p → p.kind = .isolate → p.state = .pending → p.limits = none →
    let completed := ∀ n : Fin 8, p.scope.getLsbD n.val = true →
      t.contactors[n].fitted = false ∨ t.contactors[n].state = .opened
    ∃ q : Permit, Holds t i q ∧ (p.notice = false → q.notice = false) ∧
      (completed → granted ≠ some i →
        q = { p with state := .live, changed := true, notice := q.notice } ∧ t.flagged .permit = true) ∧
      (completed → granted = some i → q = { p with state := .live, notice := q.notice }) ∧
      (¬completed → q = { p with notice := q.notice }) ∧
      ((∃ n : Fin 8, ∃ r, p.scope.getLsbD n.val = true ∧ s.contactors[n].fitted = true ∧
        s.contactors[n].state = .failed r) → q.state = .pending)

/-- The breaker's feedback, window and feedback timer change breaker and attention alone. The grid-healthy line and the reconnect
delay: UNHEALTHY taken opens the breaker normally and suspends the CONNECT, and the delay's end resumes it (model's choices:
order of hand-offs: log 6; a candidate equal to the level taken: log 30). -/
def Obligations.BreakerAndGridLines : Prop :=
  (∀ s : State,
     (∀ x, x ≠ s.breaker.feedback → ∃ t, exec (.breakerFeedbackChange x) s = .next t ∧
       t = { s with breaker := t.breaker, attention := t.attention } ∧ t.breaker.feedback = x ∧
       t.breaker.grid = s.breaker.grid ∧ t.breaker.armed = s.breaker.armed ∧
       t.breaker.reconnectEnd = s.breaker.reconnectEnd ∧ t.breaker.gridAvailable = s.breaker.gridAvailable ∧
       ((∃ e, s.breaker.state = .closing e) → x = true → t.breaker.state = .closed ∧ t.breaker.commandedClosed = true ∧
         t.breaker.closePulse = false ∧ t.breaker.feedbackTimer = none ∧ t.flagged .connection = true) ∧
       (∀ k e, s.breaker.state = .opening k e → x = false →
         t.breaker.state = (if k = .trip then .tripped else .opened) ∧ t.breaker.commandedClosed = false ∧
         t.breaker.openPulse = false ∧ t.breaker.feedbackTimer = none ∧ t.flagged .connection = true) ∧
       (s.breaker.state = .opened ∨ s.breaker.state = .closed →
         t.breaker.state = s.breaker.state ∧ t.attention = s.attention ∧
         t.breaker.feedbackTimer = (if x = s.breaker.commandedClosed then none else
           some (s.breaker.feedbackTimer.getD (s.now + Config.ms 300)))) ∧
       (s.breaker.state = .tripped ∨ (∃ r, s.breaker.state = .failed r) →
         t.breaker.state = s.breaker.state ∧ t.attention = s.attention ∧ t.breaker.feedbackTimer = none)) ∧
     ((∃ e, s.breaker.state = .closing e) ∨ (∃ k e, s.breaker.state = .opening k e) → ∃ t,
       exec .breakerWindowEnd s = .next t ∧
       t = { s with breaker := t.breaker, attention := t.attention } ∧ t.flagged .connection = true ∧
       t.breaker = { s.breaker with
         state := .failed (if s.breaker.state.commandsClosed then .close else .opening)
         commandedClosed := false, closePulse := false, openPulse := false, feedbackTimer := none }) ∧
     (s.breaker.feedbackTimer.isSome = true → ∃ t, exec .breakerFeedbackTimerEnd s = .next t ∧
       t = { s with breaker := t.breaker, attention := t.attention } ∧
       ((∀ r, s.breaker.state ≠ .failed r) → t.flagged .connection = true) ∧
       t.breaker = { s.breaker with
         state := .failed .feedback, commandedClosed := false, closePulse := false, openPulse := false
         feedbackTimer := none })) ∧
  ∀ s : State,
    (∀ x, x ≠ s.breaker.grid.level → exec (.gridHealthyChange x) s = .next { s with breaker :=
      { s.breaker with grid := ⟨s.breaker.grid.taken, if x = s.breaker.grid.taken then none else some ⟨x, s.now⟩⟩ } }) ∧
    (∀ x, s.breaker.grid.candidate = some x → x.level = true → s.breaker.grid.taken = false →
      exec .gridHealthyTaken s = .next { s with breaker :=
        { s.breaker with
          grid := ⟨true, none⟩, reconnectEnd := some (s.now + Config.sec s.unit.active.reconnectDelay) } }) ∧
    (∀ x, s.breaker.grid.candidate = some x → x.level = false → s.breaker.grid.taken = true →
      ∃ u, Settles .gridHealthyTaken s u ∧
        u = { s with breaker := u.breaker, slots := u.slots, attention := u.attention } ∧
        u.breaker.grid = ⟨false, none⟩ ∧ u.breaker.reconnectEnd = none ∧ u.breaker.gridAvailable = false ∧
        (s.breaker.state.commandsClosed = true → u.breaker.commandedClosed = false ∧ u.breaker.closePulse = false ∧
          (s.breaker.feedback = true →
            u.breaker.state = .opening .normal (s.now + Config.ms 300) ∧ u.breaker.openPulse = true) ∧
          (s.breaker.feedback = false → u.breaker.state = .opened ∧ u.breaker.openPulse = false)) ∧
        (s.breaker.state.commandsClosed = false → u.breaker.state = s.breaker.state ∧
          u.breaker.commandedClosed = s.breaker.commandedClosed ∧ u.breaker.openPulse = s.breaker.openPulse) ∧
        (∀ i : Fin 48, s.slots[i].permit = none → u.slots[i] = s.slots[i]) ∧
        ∀ i p, Holds s i p →
          (p.kind = .connect ∧ p.state = .live →
            Holds u i { p with state := .suspended, reason := some .grid, changed := true } ∧
              u.flagged .permit = true) ∧
          (¬(p.kind = .connect ∧ p.state = .live) → u.slots[i] = s.slots[i])) ∧
    (∀ x, s.breaker.grid.candidate = some x → x.level = s.breaker.grid.taken → exec .gridHealthyTaken s =
      .next { s with breaker := { s.breaker with grid := ⟨s.breaker.grid.taken, none⟩ } }) ∧
    (s.breaker.reconnectEnd.isSome = true → ∃ u, Settles .reconnectDelayEnd s u ∧
      u = { s with breaker := u.breaker, slots := u.slots, attention := u.attention } ∧
      u.breaker.reconnectEnd = none ∧ u.breaker.gridAvailable = true ∧
      (∀ i : Fin 48, s.slots[i].permit = none → u.slots[i] = s.slots[i]) ∧
      (∀ i p, Holds s i p →
        (p.kind = .connect ∧ p.state = .suspended ∧ p.reason = some .grid →
          Holds u i { p with state := .live, reason := none, changed := true } ∧ u.flagged .permit = true) ∧
        (¬(p.kind = .connect ∧ p.state = .suspended ∧ p.reason = some .grid) → u.slots[i] = s.slots[i])) ∧
      ((∀ i p, Holds s i p → ¬(p.kind = .connect ∧ p.state = .suspended ∧ p.reason = some .grid)) →
        u.breaker = { s.breaker with reconnectEnd := none, gridAvailable := true }) ∧
      ∀ i p, Holds s i p → p.kind = .connect → p.state = .suspended → p.reason = some .grid →
        (∀ j q, Holds s j q → q.kind = .connect → q.state = .suspended → q.reason = some .grid → j = i) →
        u.breaker.armed = p.autoReclose ∧
        (p.autoReclose = true → s.breaker.state = .opened → u.breaker.commandedClosed = true ∧
          u.breaker.state =
            if s.breaker.feedback then .closed else .closing (s.now + Config.ms 300)) ∧
        (p.autoReclose = false ∨ s.breaker.state ≠ .opened → u.breaker.state = s.breaker.state))

/-! ### Converter link -/

/-- A frame that names a stale handle is answered STALE and changes no permit (site law 12); what a frame with a valid
handle does to its permit, and its STATE reply (model's choices: order of hand-offs: log 6). -/
def Obligations.FramesActOnPermitsByHandle : Prop :=
  (∀ (s : State) (slot gen tag : Byte) (a b : Word) (c : Instr), s.link.rate.isSome = true → s.link.queue.length < 4 →
     c = .renewFrame slot gen a b tag ∨ c = .reduceFrame slot gen a tag ∨ c = .handbackFrame slot gen tag ∨
       c = .queryFrame slot gen tag →
     Stale s (gen ++ slot) → ∃ u, Replied c s u ⟨.state, ⟨slot, gen⟩, 0, 0, 12, tag⟩ ∧ u.slots = s.slots ∧
       u.breaker = s.breaker) ∧
  ∀ (s : State) (slot gen tag : Byte) (a b : Word) (i : Fin 48) (p : Permit), s.link.rate.isSome = true →
    s.link.queue.length < 4 → Names s (gen ++ slot) i p →
    let reply := fun (q : Permit) (report : Nat) =>
      (⟨.state, ⟨slot, gen⟩, q.effective, BitVec.ofNat 8 q.state.code, BitVec.ofNat 8 report, tag⟩ : OutFrame)
    (∀ c, c = .renewFrame slot gen a b tag ∨ c = .reduceFrame slot gen a tag ∨ c = .handbackFrame slot gen tag ∨
        c = .queryFrame slot gen tag → p.holder ≠ .converter → ∃ u, Replied c s u (reply p 13) ∧ u.slots = s.slots) ∧
    (p.holder = .converter →
      (∃ u, Replied (.queryFrame slot gen tag) s u (reply p p.reported.code) ∧ u.slots = s.slots) ∧
      (∃ u, Replied (.handbackFrame slot gen tag) s u ⟨.state, ⟨slot, gen⟩, 0, 0, 11, tag⟩ ∧
        u.slots[i] = ⟨s.slots[i].generation + 1, none⟩ ∧ (∀ j, j ≠ i → u.slots[j] = s.slots[j]) ∧
        u.flagged .permit = true) ∧
      (∃ u, Replied (.renewFrame slot gen a b tag) s u (reply p p.reported.code) ∧
        u.link.dc = some ⟨a.toNat, s.now, b.toInt⟩ ∧
        u.slots[i] = ⟨s.slots[i].generation, some
          (if p.state = .revoked then p
            else { p with leaseEnd := p.leasePeriod.map fun l => s.now + Config.sec l })⟩ ∧
        ∀ j, j ≠ i → u.slots[j] = s.slots[j]) ∧
      (p.state = .revoked →
        ∃ u, Replied (.reduceFrame slot gen a tag) s u (reply p p.reported.code) ∧ u.slots = s.slots) ∧
      (p.state ≠ .revoked → a = 0 →
        ∃ u, Replied (.reduceFrame slot gen a tag) s u (reply p 15) ∧ u.slots = s.slots) ∧
      (p.state ≠ .revoked → p.requested < a.toNat →
        ∃ u, Replied (.reduceFrame slot gen a tag) s u (reply p 14) ∧ u.slots = s.slots) ∧
      (p.state ≠ .revoked → 0 < a.toNat → a.toNat ≤ p.requested → ∃ u q,
        Replied (.reduceFrame slot gen a tag) s u (reply q q.reported.code) ∧
        u.slots[i] = ⟨s.slots[i].generation, some q⟩ ∧ (∀ j, j ≠ i → u.slots[j] = s.slots[j]) ∧
        q.requested = a.toNat ∧ Stands p q ∧
        (p.state = .live ∨ p.state = .suspended → ∀ l, p.limits = some l →
          let target := min a.toNat (s.envelopeSum p.kind p.scope)
          (target < l.effective → q.limits = some ⟨a.toNat, target, none⟩ ∧ q.changed = true ∧
            q.state = if target = 0 then .suspended else p.state) ∧
          (l.effective ≤ target → q.effective = l.effective ∧ q.state = p.state))))

/-- A valid frame that finds four replies waiting: the link stays alive and the overrun mark and LINK are set, and the
frame has no other effect; before the start-up profile load nothing is received. Characters and bad frames: what begins,
joins, breaks and ends a frame, and what is left in the buffer; a ninth character that makes a valid frame acts as that
frame's row of the table does (model's choices: order of hand-offs: log 6; frame rows, causes and the breaking mark as
operands: log 23). -/
def Obligations.LinkCharactersAndOverruns : Prop :=
  (∀ (s : State) (slot gen tag : Byte) (a b : Word) (c : Instr),
      c = .renewFrame slot gen a b tag ∨ c = .reduceFrame slot gen a tag ∨ c = .handbackFrame slot gen tag ∨
        c = .queryFrame slot gen tag →
      (s.link.rate = none → exec c s = .next s) ∧
      (s.link.rate.isSome = true → 4 ≤ s.link.queue.length → ∃ u, Settles c s u ∧
        u = { s with link := u.link, attention := u.attention } ∧ u.flagged .link = true ∧
        u.link = { s.link with
          state := .up (s.now + Config.ms (100 * s.unit.active.linkTimeout)), overrun := true, buffer := [] })) ∧
  ∀ s : State, s.link.rate.isSome = true →
    (∀ e, ∃ t, exec (.badFrame e) s = .next t ∧ t = { s with link := t.link, attention := t.attention } ∧
      t.flagged .link = true ∧ t.link = { s.link with lastBad := t.link.lastBad, buffer := t.link.buffer } ∧
      ((∀ m, e ≠ .broken m) → t.link.buffer = []) ∧
      (∀ m c, e = .broken m → linkReceive m = some c → c.ninth = true → c.framing = false →
        t.link.buffer = [c]) ∧ t.link.lastBad = some (match e with
        | .framing => .framing
        | .noise => .noise
        | .check => .check
        | .kind => .kind
        | .broken _ => .broken)) ∧
    ∀ (ch : LinkChar) (c : RxChar), linkReceive ch = some c →
      let mark := c.ninth && !c.framing
      (s.link.buffer = [] → mark = true →
        exec (.linkCharacterTaken ch) s = .next { s with link := { s.link with buffer := [c] } }) ∧
      (s.link.buffer = [] → mark = false → exec (.linkCharacterTaken ch) s = .next s) ∧
      (s.link.buffer ≠ [] → mark = true →
        exec (.linkCharacterTaken ch) s = exec (.badFrame (.broken ch)) s) ∧
      (s.link.buffer ≠ [] → mark = false → s.link.buffer.length < 8 → exec (.linkCharacterTaken ch) s =
        .next { s with link := { s.link with buffer := s.link.buffer ++ [c] } }) ∧
      (8 ≤ s.link.buffer.length → mark = false →
        (∀ why, judgeFrame (s.link.buffer ++ [c]) = .error why → exec (.linkCharacterTaken ch) s =
          exec (.badFrame (match why with
            | .framing => .framing
            | .noise => .noise
            | .check => .check
            | _ => .kind)) s) ∧
        ∀ f, judgeFrame (s.link.buffer ++ [c]) = .ok f → exec (.linkCharacterTaken ch) s =
          exec (match f.kind with
            | .renew => .renewFrame f.handle.slot f.handle.generation f.valueA f.valueB f.tag
            | .reduce => .reduceFrame f.handle.slot f.handle.generation f.valueA f.tag
            | .handback => .handbackFrame f.handle.slot f.handle.generation f.tag
            | .query => .queryFrame f.handle.slot f.handle.generation f.tag) s)

/-- The link timeout and the transmitter: a gap of two character times after a frame, then a waiting reply first, a
LIMIT notice only while the link is UP (model's choices: order of hand-offs: log 6). -/
def Obligations.TransmitterTakesRepliesThenNotices : Prop :=
  ∀ s : State,
    (∀ e, s.link.state = .up e →
      Settles .linkTimeout s (State.raise { s with link := { s.link with state := .down } } .link)) ∧
    (∀ f r x, s.link.transmitter = .sending f r x → exec .frameSent s = .next { s with link :=
      { s.link with transmitter := .gap (s.now + 2 * (11 * match r with
        | .r19200 => 3750
        | .r57600 => 1250
        | .r115200 => 625)) } }) ∧
    (∀ e r, s.link.transmitter = .gap e → s.link.rate = some r →
      (∀ f rest, s.link.queue = f :: rest → exec .transmitGapEnd s = .next { s with link :=
        { s.link with queue := rest, transmitter := .sending f r s.now } }) ∧
      (s.link.queue = [] → (s.link.state = .down ∨ ∀ i p, Holds s i p → p.notice = false) →
        exec .transmitGapEnd s = .next { s with link := { s.link with transmitter := .idle } }) ∧
      ∀ i p u, s.link.queue = [] → s.link.state = .up u → Holds s i p → p.notice = true →
        (∀ j q, j < i → Holds s j q → q.notice = false) →
        let count := s.link.noticeCount + 1
        ∃ t, exec .transmitGapEnd s = .next t ∧ t = { s.setPermit i { p with notice := false } with link := t.link } ∧
          t.link = { s.link with
            noticeCount := count
            transmitter := .sending ⟨.limit, ⟨BitVec.ofNat 8 i.val, s.slots[i].generation⟩, p.effective,
              BitVec.ofNat 8 p.state.code, BitVec.ofNat 8 p.reported.code, count⟩ r s.now })

/-! ### Rules on values -/

/-- The reported reason of a permit. -/
def Obligations.ReportedReasonByStateAndReason : Prop :=
  ∀ p : Permit,
    (p.state = .live ∨ p.state = .pending → p.reported = .none) ∧
    (∀ n, p.state = .suspended → p.reason = some (.envelope n .prealarm) → p.reported = .prealarm) ∧
    (∀ n, p.state = .suspended → p.reason = some (.envelope n .door) → p.reported = .door) ∧
    (∀ n c, p.state = .suspended → p.reason = some (.envelope n c) → c ≠ .prealarm → c ≠ .door →
      p.reported = .envelope) ∧
    (p.state = .suspended → p.reason = some .grid → p.reported = .grid) ∧
    (∀ r, p.state = .revoked → p.reason = some r → p.reported = r.report)

/-- An evaluation gives every string the envelopes of R45: for each direction the product of rated current, band
multiplier, cooling factor and taper factor over the rationals, rounded down once; 0 while an overriding cause covers the
direction, and 0 both for an unfitted string. -/
def Obligations.EnvelopesAreFlooredProducts : Prop :=
  ∀ (s : State) (i : Fin 8),
    let p := s.unit.active
    let r := s.strings[i]
    let e := s.evaluateAll.strings[i]
    let bothCovered := s.fire[bayOf i].state.inAlarm = true ∨ (s.door.taken = true ∧ s.entryLive = false) ∨
      s.contactors[i].state ≠ .closed ∨ s.modulesHold i = true
    let cooling : ℚ := if s.cooling[bayOf i].flowFault then 1 / 2 else 1
    (r.fitted = false ∨ bothCovered → e.chargeEnvelope = 0 ∧ e.dischargeEnvelope = 0) ∧
    (s.fire[bayOf i].state = .preAlarm → e.chargeEnvelope = 0) ∧
    (r.fitted = true → ¬bothCovered →
      (s.fire[bayOf i].state ≠ .preAlarm →
        let band : ℚ := match r.band with
          | 0 => 0
          | 1 => 1 / 4
          | 2 => 1 / 2
          | 3 => 1
          | 4 => 1
          | 5 => 1 / 2
          | 6 => 1 / 4
          | 7 => 0
        let taper : ℚ := if p.cellUpper ≤ r.maxCell then 0 else if p.chargeTaper ≤ r.maxCell then 1 / 4 else 1
        (e.chargeEnvelope : ℤ) = ⌊(p.ratedCharge[i] : ℚ) * band * cooling * taper⌋) ∧
      let band : ℚ := match r.band with
        | 0 => 1 / 4
        | 1 => 1 / 2
        | 2 => 1
        | 3 => 1
        | 4 => 1
        | 5 => 1 / 2
        | 6 => 1 / 4
        | 7 => 0
      let taper : ℚ := if r.minCell ≤ p.cellLower then 0 else if r.minCell ≤ p.dischargeTaper then 1 / 4 else 1
      (e.dischargeEnvelope : ℤ) = ⌊(p.ratedDischarge[i] : ℚ) * band * cooling * taper⌋)

/-- An evaluation gives every string the restriction cause of R51, the first of FIRE, PREALARM, DOOR, OUT_OF_SERVICE, MODULES,
THERMAL, COOLING and TAPER that holds with a factor below 1 for a direction whose rated current is above 0, else NONE; and
bleeding and the bleed target of R56 (a target above 65535 mV is free: log 13). The settling of an event evaluates all strings,
with the records as the stages before leave them, from the start-up load on (order of hand-offs: log 6; before the load: log
27). -/
def Obligations.EvaluationSetsCauseAndBleedTarget : Prop :=
  (∀ (s : State) (i : Fin 8),
    let p := s.unit.active
    let r := s.strings[i]
    let e := s.evaluateAll.strings[i]
    let fire := s.fire[bayOf i].state
    let modules := s.buses[i].state ≠ .polling ∨ (∃ a, p.expects i a = true ∧ s.buses[i].onlineAt a = false) ∨
      (∃ x ∈ s.buses[i].roster, x.state = .extra) ∨ r.onlineCount = 0
    let both : Cause → Prop := fun c => match c with
      | .fire => fire = .alarm ∨ (∃ e, fire = .countdown e) ∨ ∃ e, fire = .released e
      | .door => s.door.taken = true ∧ ¬∃ j q, Holds s j q ∧ q.kind = .entry ∧ q.state = .live
      | .outOfService => s.contactors[i].state ≠ .closed
      | .modules => modules
      | .cooling => s.cooling[bayOf i].flowFault = true
      | .prealarm | .thermal | .taper | .none => False
    let charge : Cause → Prop := fun c => match c with
      | .prealarm => fire = .preAlarm
      | .thermal => r.band ≠ 3 ∧ r.band ≠ 4
      | .taper => p.cellUpper ≤ r.maxCell ∨ p.chargeTaper ≤ r.maxCell
      | c => both c
    let discharge : Cause → Prop := fun c => match c with
      | .prealarm => False
      | .thermal => r.band ≠ 2 ∧ r.band ≠ 3 ∧ r.band ≠ 4
      | .taper => r.minCell ≤ p.cellLower ∨ r.minCell ≤ p.dischargeTaper
      | c => both c
    let inEffect := fun c => (charge c ∧ 0 < p.ratedCharge[i]) ∨ (discharge c ∧ 0 < p.ratedDischarge[i])
    let order : List Cause := [.fire, .prealarm, .door, .outOfService, .modules, .thermal, .cooling, .taper]
    let bleeds := 2 ≤ r.band.val ∧ r.band.val ≤ 5 ∧ fire = .quiet ∧ ¬modules
    e = { r with
      chargeEnvelope := e.chargeEnvelope, dischargeEnvelope := e.dischargeEnvelope
      cause := e.cause, bleeding := e.bleeding, bleedTarget := e.bleedTarget } ∧
    (∀ before c after, order = before ++ c :: after → inEffect c → (∀ d ∈ before, ¬inEffect d) → e.cause = c) ∧
    ((∀ c ∈ order, ¬inEffect c) → e.cause = .none) ∧
    (e.bleeding = true ↔ bleeds) ∧ (¬bleeds → e.bleedTarget = 0) ∧
    (bleeds → r.minCell + p.bleedWindow ≤ 65535 → e.bleedTarget = r.minCell + p.bleedWindow)) ∧
  ∀ s : State,
    (s.loaded = true → s.settle.strings =
      (s.doorStage.fireAndAlarm.coolStage.connectStage.isolateStage none).evaluateAll.strings) ∧
    (s.loaded = false → s.settle.strings = s.strings)

/-! ### What every step keeps -/

/-- Order memory keeps its canonical form, the attention line follows the enabled flags, at most 32 orders execute in a run
(site law 10), replies and characters stay within their buffers, and rosters stay in order (site law 11). -/
def Obligations.StepsKeepBuffersAndLine : Prop :=
  (∀ s t, MemoryCanonical s → step s = .next t → MemoryCanonical t) ∧
  (∀ s t, LineFollowsFlags s → step s = .next t → LineFollowsFlags t) ∧
  (∀ s t, RunBounded s → step s = .next t → RunBounded t) ∧
  (∀ s t, LinkBounded s → step s = .next t → LinkBounded t) ∧
  ∀ s t, RostersOrdered s → step s = .next t → RostersOrdered t

/-- Site laws 1, 2 and 4: at most one standing limit permit of a kind on a string, and at most one standing CONNECT; the breaker
is commanded closed in CLOSING and CLOSED alone, and only while a CONNECT is LIVE. -/
def Obligations.StepsKeepPermitAndBreakerLaws : Prop :=
  ((∀ s t, BreakerOutputsFollowState s → step s = .next t → BreakerOutputsFollowState t) ∧
   ∀ s t, LimitsFollowKind s → ClosedUnderLiveConnect s → step s = .next t →
     LimitsFollowKind t ∧ ClosedUnderLiveConnect t) ∧
  (∀ s t, OneLimitPermitPerString s → step s = .next t → OneLimitPermitPerString t) ∧
  ∀ s t, OneConnect s → step s = .next t → OneConnect t

/-- Site law 3: the effective limit is above zero exactly when LIVE, and within request and envelopes; and the numbers of
records and hold times stay in their ranges. -/
def Obligations.StepsKeepEffectiveWithinTarget : Prop :=
  (∀ s t, LimitsFollowKind s → LimitRecordsSound s → EffectiveWithinTarget s → step s = .next t →
    LimitsFollowKind t ∧ LimitRecordsSound t ∧ EffectiveWithinTarget t) ∧
  ∀ s t, LimitsFollowKind s → ProfilesInRange s → RecordsInRange s → step s = .next t →
    LimitsFollowKind t ∧ ProfilesInRange t ∧ RecordsInRange t

/-- Site laws 5 and 8: contactor outputs follow their states, isolated strings stay at rest, and the path serves one. -/
def Obligations.StepsKeepContactorLaws : Prop :=
  (∀ s t, ContactorOutputsFollowState s → step s = .next t → ContactorOutputsFollowState t) ∧
  (∀ s t, PathServesOne s → step s = .next t → PathServesOne t) ∧
  ∀ s t, LimitsFollowKind s → UnfittedOpen s → IsolatedAtRest s → step s = .next t →
    LimitsFollowKind t ∧ UnfittedOpen t ∧ IsolatedAtRest t

/-- Site laws 6 and 7: in an alarm state a bay's permits are revoked, its contactors open and its fans stopped; a release
output is active only in the pulse of RELEASED, and COUNTDOWN only without a manual cause. -/
def Obligations.StepsKeepFireLaws : Prop :=
  ((∀ s t, AlarmRevokes s → step s = .next t → AlarmRevokes t) ∧
   (∀ s t, AlarmOpens s → step s = .next t → AlarmOpens t) ∧
   (∀ s t, ContainmentHeld s → CoolingFollows s → step s = .next t → ContainmentHeld t ∧ CoolingFollows t) ∧
   ∀ s, ContainmentHeld s → CoolingFollows s → AlarmStopsFans s) ∧
  (∀ s t, ReleaseOnlyInPulse s → step s = .next t → ReleaseOnlyInPulse t) ∧
  ∀ s t, CountdownUnattended s → step s = .next t → CountdownUnattended t

/-- Site law 9, and the door lock and service-readiness: derived fields follow what they are derived from. -/
def Obligations.StepsKeepDerivedFields : Prop :=
  (∀ s t, EnvelopesZero s → step s = .next t → EnvelopesZero t) ∧
  (∀ s t, ServiceFollowsConditions s → step s = .next t → ServiceFollowsConditions t) ∧
  ∀ s t, LimitsFollowKind s → DoorFollowsEntry s → step s = .next t → LimitsFollowKind t ∧ DoorFollowsEntry t

/-- What no step but that of a reset does: a generation moves by one and only with the freeing of its slot, the fixed fields of
a record stand, and REVOKED is left only by retirement, its reason and its hold standing. -/
def Obligations.RecordsChangeByRule : Prop :=
  ∀ s t : State, s.pending.head? ≠ some .powerOn → s.pending.head? ≠ some .resetLine → step s = .next t → ∀ i : Fin 48,
    (t.slots[i].generation = s.slots[i].generation ∨
      (t.slots[i] = ⟨s.slots[i].generation + 1, none⟩ ∧ s.slots[i].permit ≠ none)) ∧
    ∀ p q, Holds s i p → Holds t i q → Stands p q

/-- The runner and every block write only outcome and result words: control, order code and operand words of every slot
stand through every step but that of a reset and of the host's writes. -/
def Obligations.OperandWordsStandBesidesHostWrites : Prop :=
  ∀ s t : State, (∀ c, s.pending.head? = some c → c ≠ .powerOn ∧ c ≠ .resetLine ∧
      (∀ x y v, c ≠ .orderMemoryWrite x y v) ∧ ∀ a v, c ≠ .windowWriteOther a v) →
    step s = .next t → ∀ (slot : BitVec 5) (n : Nat), n < 8 →
    Memory.readWord t.orderMemory (slotAddress slot n) = Memory.readWord s.orderMemory (slotAddress slot n)

/-- What every step but that of a reset announces: a change of a record sets the attention flag of its owner (R185), the flags
of bays, breaker, contactors, buses, link, flow faults, bands, permits, runs and start-up. -/
def Obligations.FlagsAnnounceChanges : Prop :=
  ∀ s t : State, s.pending.head? ≠ some .powerOn → s.pending.head? ≠ some .resetLine → step s = .next t →
    (∀ k : Fin 4, t.fire[k].state.code ≠ s.fire[k].state.code → t.flagged .fire = true) ∧
    (∀ k : Fin 4, t.cooling[k].flowFault ≠ s.cooling[k].flowFault → t.flagged .cooling = true) ∧
    (t.breaker.state.code ≠ s.breaker.state.code → t.flagged .connection = true) ∧
    (∀ i : Fin 8, t.contactors[i].state.isFailed = true → s.contactors[i].state.isFailed = false →
      t.flagged .connection = true) ∧
    (∀ b : Fin 8, (∃ p, t.buses[b].state = .failed p) → (∀ p, s.buses[b].state ≠ .failed p) → t.flagged .bus = true) ∧
    (∀ b : Fin 8, (∃ l e, t.buses[b].state = .stuck l e) → (∀ l e, s.buses[b].state ≠ .stuck l e) →
      t.flagged .bus = true) ∧
    ((s.link.state = .down ↔ t.link.state ≠ .down) → t.flagged .link = true) ∧
    (∀ i : Fin 8, t.strings[i].fitted = s.strings[i].fitted → t.strings[i].band ≠ s.strings[i].band →
      t.flagged .band = true ∧ t.strings[i].bandChanged = true) ∧
    (∀ i p q, Holds s i p → Holds t i q → p.changed = false → q.changed = true → t.flagged .permit = true) ∧
    ((∃ x y w r a, s.runner.state = .running x y w r a) → (∀ x y w r a, t.runner.state ≠ .running x y w r a) →
      t.flagged .chain = true) ∧
    ((∃ e, s.unit.startUp.phase = .running e) → (∃ x, t.unit.startUp.phase = .ended x) → t.flagged .start = true)
end

