-- ==== Sys2Proof/Laws/State.lean ====
section
/-! SUPPORT. One lemma a field for each update of the state: what the field holds after it. The updates of a table entry
go on to `getElem_put_self` and `getElem_put_ne`. -/

namespace Sys2Proof.Machine

/-! ### Reading tables

`simp` reads an entry by its number, so these lemmas do too. -/

/-- An entry after a replacement. -/
theorem getElem_put {α : Type} {n : Nat} (v : Vector α n) (i j : Fin n) (x : α) :
    (put v i x)[j.val] = if j = i then x else v[j.val] := by
  by_cases h : j = i
  · subst h; simp [put]
  · have : i.val ≠ j.val := fun e => h (Fin.ext e.symm)
    simp [put, Vector.getElem_set_ne, this, h]

/-- The entry that was replaced. -/
@[simp] theorem getElem_put_self {α : Type} {n : Nat} (v : Vector α n) (i : Fin n) (x : α) :
    (put v i x)[i.val] = x := by
  simp [put]

/-- Every other entry stands. -/
theorem getElem_put_ne {α : Type} {n : Nat} (v : Vector α n) (i j : Fin n) (x : α) (h : j ≠ i) :
    (put v i x)[j.val] = v[j.val] := by
  rw [getElem_put, if_neg h]

/-- An entry of a table of eight. -/
@[simp] theorem getElem_tab8 {α : Type} (f : Fin 8 → α) (i : Fin 8) : (tab8 f)[i.val] = f i := by
  fin_cases i <;> rfl

/-- An entry of a table of four. -/
@[simp] theorem getElem_tab4 {α : Type} (f : Fin 4 → α) (k : Fin 4) : (tab4 f)[k.val] = f k := by
  fin_cases k <;> rfl

/-- Every string is in the list of strings. -/
@[simp] theorem mem_allStrings (i : Fin 8) : i ∈ allStrings := by revert i; decide

/-- Every bay is in the list of bays. -/
@[simp] theorem mem_allBays (k : Fin 4) : k ∈ allBays := by revert k; decide

/-- Every slot is in the list of slots. -/
@[simp] theorem mem_allSlots (i : Fin 48) : i ∈ allSlots := by revert i; decide

/-! ### Tables -/

@[simp] theorem State.setBus_slots (s : State) (b : Fin 8) (x : Bus) :
    (s.setBus b x).slots = s.slots := rfl

@[simp] theorem State.setBus_doorReleased (s : State) (b : Fin 8) (x : Bus) :
    (s.setBus b x).doorReleased = s.doorReleased := rfl

@[simp] theorem State.setBus_crewKey (s : State) (b : Fin 8) (x : Bus) :
    (s.setBus b x).crewKey = s.crewKey := rfl

@[simp] theorem State.setBus_door (s : State) (b : Fin 8) (x : Bus) :
    (s.setBus b x).door = s.door := rfl

@[simp] theorem State.setBus_strings (s : State) (b : Fin 8) (x : Bus) :
    (s.setBus b x).strings = s.strings := rfl

@[simp] theorem State.setBus_buses (s : State) (b : Fin 8) (x : Bus) :
    (s.setBus b x).buses = put s.buses b x := rfl

@[simp] theorem State.setBus_fire (s : State) (b : Fin 8) (x : Bus) :
    (s.setBus b x).fire = s.fire := rfl

@[simp] theorem State.setBus_cooling (s : State) (b : Fin 8) (x : Bus) :
    (s.setBus b x).cooling = s.cooling := rfl

@[simp] theorem State.setBus_contactors (s : State) (b : Fin 8) (x : Bus) :
    (s.setBus b x).contactors = s.contactors := rfl

@[simp] theorem State.setBus_serving (s : State) (b : Fin 8) (x : Bus) :
    (s.setBus b x).serving = s.serving := rfl

@[simp] theorem State.setBus_breaker (s : State) (b : Fin 8) (x : Bus) :
    (s.setBus b x).breaker = s.breaker := rfl

@[simp] theorem State.setBus_link (s : State) (b : Fin 8) (x : Bus) :
    (s.setBus b x).link = s.link := rfl

@[simp] theorem State.setBus_orderMemory (s : State) (b : Fin 8) (x : Bus) :
    (s.setBus b x).orderMemory = s.orderMemory := rfl

@[simp] theorem State.setBus_transaction (s : State) (b : Fin 8) (x : Bus) :
    (s.setBus b x).transaction = s.transaction := rfl

@[simp] theorem State.setBus_runner (s : State) (b : Fin 8) (x : Bus) :
    (s.setBus b x).runner = s.runner := rfl

@[simp] theorem State.setBus_attention (s : State) (b : Fin 8) (x : Bus) :
    (s.setBus b x).attention = s.attention := rfl

@[simp] theorem State.setBus_unit (s : State) (b : Fin 8) (x : Bus) :
    (s.setBus b x).unit = s.unit := rfl

@[simp] theorem State.setBus_now (s : State) (b : Fin 8) (x : Bus) :
    (s.setBus b x).now = s.now := rfl

@[simp] theorem State.setBus_loaded (s : State) (b : Fin 8) (x : Bus) :
    (s.setBus b x).loaded = s.loaded := rfl

@[simp] theorem State.setBus_answer (s : State) (b : Fin 8) (x : Bus) :
    (s.setBus b x).answer = s.answer := rfl

@[simp] theorem State.setBus_draws (s : State) (b : Fin 8) (x : Bus) :
    (s.setBus b x).draws = s.draws := rfl

@[simp] theorem State.setBus_pending (s : State) (b : Fin 8) (x : Bus) :
    (s.setBus b x).pending = s.pending := rfl

@[simp] theorem State.setString_slots (s : State) (i : Fin 8) (x : StringRec) :
    (s.setString i x).slots = s.slots := rfl

@[simp] theorem State.setString_doorReleased (s : State) (i : Fin 8) (x : StringRec) :
    (s.setString i x).doorReleased = s.doorReleased := rfl

@[simp] theorem State.setString_crewKey (s : State) (i : Fin 8) (x : StringRec) :
    (s.setString i x).crewKey = s.crewKey := rfl

@[simp] theorem State.setString_door (s : State) (i : Fin 8) (x : StringRec) :
    (s.setString i x).door = s.door := rfl

@[simp] theorem State.setString_strings (s : State) (i : Fin 8) (x : StringRec) :
    (s.setString i x).strings = put s.strings i x := rfl

@[simp] theorem State.setString_buses (s : State) (i : Fin 8) (x : StringRec) :
    (s.setString i x).buses = s.buses := rfl

@[simp] theorem State.setString_fire (s : State) (i : Fin 8) (x : StringRec) :
    (s.setString i x).fire = s.fire := rfl

@[simp] theorem State.setString_cooling (s : State) (i : Fin 8) (x : StringRec) :
    (s.setString i x).cooling = s.cooling := rfl

@[simp] theorem State.setString_contactors (s : State) (i : Fin 8) (x : StringRec) :
    (s.setString i x).contactors = s.contactors := rfl

@[simp] theorem State.setString_serving (s : State) (i : Fin 8) (x : StringRec) :
    (s.setString i x).serving = s.serving := rfl

@[simp] theorem State.setString_breaker (s : State) (i : Fin 8) (x : StringRec) :
    (s.setString i x).breaker = s.breaker := rfl

@[simp] theorem State.setString_link (s : State) (i : Fin 8) (x : StringRec) :
    (s.setString i x).link = s.link := rfl

@[simp] theorem State.setString_orderMemory (s : State) (i : Fin 8) (x : StringRec) :
    (s.setString i x).orderMemory = s.orderMemory := rfl

@[simp] theorem State.setString_transaction (s : State) (i : Fin 8) (x : StringRec) :
    (s.setString i x).transaction = s.transaction := rfl

@[simp] theorem State.setString_runner (s : State) (i : Fin 8) (x : StringRec) :
    (s.setString i x).runner = s.runner := rfl

@[simp] theorem State.setString_attention (s : State) (i : Fin 8) (x : StringRec) :
    (s.setString i x).attention = s.attention := rfl

@[simp] theorem State.setString_unit (s : State) (i : Fin 8) (x : StringRec) :
    (s.setString i x).unit = s.unit := rfl

@[simp] theorem State.setString_now (s : State) (i : Fin 8) (x : StringRec) :
    (s.setString i x).now = s.now := rfl

@[simp] theorem State.setString_loaded (s : State) (i : Fin 8) (x : StringRec) :
    (s.setString i x).loaded = s.loaded := rfl

@[simp] theorem State.setString_answer (s : State) (i : Fin 8) (x : StringRec) :
    (s.setString i x).answer = s.answer := rfl

@[simp] theorem State.setString_draws (s : State) (i : Fin 8) (x : StringRec) :
    (s.setString i x).draws = s.draws := rfl

@[simp] theorem State.setString_pending (s : State) (i : Fin 8) (x : StringRec) :
    (s.setString i x).pending = s.pending := rfl

@[simp] theorem State.setFire_slots (s : State) (k : Fin 4) (x : FireRec) :
    (s.setFire k x).slots = s.slots := rfl

@[simp] theorem State.setFire_doorReleased (s : State) (k : Fin 4) (x : FireRec) :
    (s.setFire k x).doorReleased = s.doorReleased := rfl

@[simp] theorem State.setFire_crewKey (s : State) (k : Fin 4) (x : FireRec) :
    (s.setFire k x).crewKey = s.crewKey := rfl

@[simp] theorem State.setFire_door (s : State) (k : Fin 4) (x : FireRec) :
    (s.setFire k x).door = s.door := rfl

@[simp] theorem State.setFire_strings (s : State) (k : Fin 4) (x : FireRec) :
    (s.setFire k x).strings = s.strings := rfl

@[simp] theorem State.setFire_buses (s : State) (k : Fin 4) (x : FireRec) :
    (s.setFire k x).buses = s.buses := rfl

@[simp] theorem State.setFire_fire (s : State) (k : Fin 4) (x : FireRec) :
    (s.setFire k x).fire = put s.fire k x := rfl

@[simp] theorem State.setFire_cooling (s : State) (k : Fin 4) (x : FireRec) :
    (s.setFire k x).cooling = s.cooling := rfl

@[simp] theorem State.setFire_contactors (s : State) (k : Fin 4) (x : FireRec) :
    (s.setFire k x).contactors = s.contactors := rfl

@[simp] theorem State.setFire_serving (s : State) (k : Fin 4) (x : FireRec) :
    (s.setFire k x).serving = s.serving := rfl

@[simp] theorem State.setFire_breaker (s : State) (k : Fin 4) (x : FireRec) :
    (s.setFire k x).breaker = s.breaker := rfl

@[simp] theorem State.setFire_link (s : State) (k : Fin 4) (x : FireRec) :
    (s.setFire k x).link = s.link := rfl

@[simp] theorem State.setFire_orderMemory (s : State) (k : Fin 4) (x : FireRec) :
    (s.setFire k x).orderMemory = s.orderMemory := rfl

@[simp] theorem State.setFire_transaction (s : State) (k : Fin 4) (x : FireRec) :
    (s.setFire k x).transaction = s.transaction := rfl

@[simp] theorem State.setFire_runner (s : State) (k : Fin 4) (x : FireRec) :
    (s.setFire k x).runner = s.runner := rfl

@[simp] theorem State.setFire_attention (s : State) (k : Fin 4) (x : FireRec) :
    (s.setFire k x).attention = s.attention := rfl

@[simp] theorem State.setFire_unit (s : State) (k : Fin 4) (x : FireRec) :
    (s.setFire k x).unit = s.unit := rfl

@[simp] theorem State.setFire_now (s : State) (k : Fin 4) (x : FireRec) :
    (s.setFire k x).now = s.now := rfl

@[simp] theorem State.setFire_loaded (s : State) (k : Fin 4) (x : FireRec) :
    (s.setFire k x).loaded = s.loaded := rfl

@[simp] theorem State.setFire_answer (s : State) (k : Fin 4) (x : FireRec) :
    (s.setFire k x).answer = s.answer := rfl

@[simp] theorem State.setFire_draws (s : State) (k : Fin 4) (x : FireRec) :
    (s.setFire k x).draws = s.draws := rfl

@[simp] theorem State.setFire_pending (s : State) (k : Fin 4) (x : FireRec) :
    (s.setFire k x).pending = s.pending := rfl

@[simp] theorem State.setCooling_slots (s : State) (k : Fin 4) (x : CoolRec) :
    (s.setCooling k x).slots = s.slots := rfl

@[simp] theorem State.setCooling_doorReleased (s : State) (k : Fin 4) (x : CoolRec) :
    (s.setCooling k x).doorReleased = s.doorReleased := rfl

@[simp] theorem State.setCooling_crewKey (s : State) (k : Fin 4) (x : CoolRec) :
    (s.setCooling k x).crewKey = s.crewKey := rfl

@[simp] theorem State.setCooling_door (s : State) (k : Fin 4) (x : CoolRec) :
    (s.setCooling k x).door = s.door := rfl

@[simp] theorem State.setCooling_strings (s : State) (k : Fin 4) (x : CoolRec) :
    (s.setCooling k x).strings = s.strings := rfl

@[simp] theorem State.setCooling_buses (s : State) (k : Fin 4) (x : CoolRec) :
    (s.setCooling k x).buses = s.buses := rfl

@[simp] theorem State.setCooling_fire (s : State) (k : Fin 4) (x : CoolRec) :
    (s.setCooling k x).fire = s.fire := rfl

@[simp] theorem State.setCooling_cooling (s : State) (k : Fin 4) (x : CoolRec) :
    (s.setCooling k x).cooling = put s.cooling k x := rfl

@[simp] theorem State.setCooling_contactors (s : State) (k : Fin 4) (x : CoolRec) :
    (s.setCooling k x).contactors = s.contactors := rfl

@[simp] theorem State.setCooling_serving (s : State) (k : Fin 4) (x : CoolRec) :
    (s.setCooling k x).serving = s.serving := rfl

@[simp] theorem State.setCooling_breaker (s : State) (k : Fin 4) (x : CoolRec) :
    (s.setCooling k x).breaker = s.breaker := rfl

@[simp] theorem State.setCooling_link (s : State) (k : Fin 4) (x : CoolRec) :
    (s.setCooling k x).link = s.link := rfl

@[simp] theorem State.setCooling_orderMemory (s : State) (k : Fin 4) (x : CoolRec) :
    (s.setCooling k x).orderMemory = s.orderMemory := rfl

@[simp] theorem State.setCooling_transaction (s : State) (k : Fin 4) (x : CoolRec) :
    (s.setCooling k x).transaction = s.transaction := rfl

@[simp] theorem State.setCooling_runner (s : State) (k : Fin 4) (x : CoolRec) :
    (s.setCooling k x).runner = s.runner := rfl

@[simp] theorem State.setCooling_attention (s : State) (k : Fin 4) (x : CoolRec) :
    (s.setCooling k x).attention = s.attention := rfl

@[simp] theorem State.setCooling_unit (s : State) (k : Fin 4) (x : CoolRec) :
    (s.setCooling k x).unit = s.unit := rfl

@[simp] theorem State.setCooling_now (s : State) (k : Fin 4) (x : CoolRec) :
    (s.setCooling k x).now = s.now := rfl

@[simp] theorem State.setCooling_loaded (s : State) (k : Fin 4) (x : CoolRec) :
    (s.setCooling k x).loaded = s.loaded := rfl

@[simp] theorem State.setCooling_answer (s : State) (k : Fin 4) (x : CoolRec) :
    (s.setCooling k x).answer = s.answer := rfl

@[simp] theorem State.setCooling_draws (s : State) (k : Fin 4) (x : CoolRec) :
    (s.setCooling k x).draws = s.draws := rfl

@[simp] theorem State.setCooling_pending (s : State) (k : Fin 4) (x : CoolRec) :
    (s.setCooling k x).pending = s.pending := rfl

@[simp] theorem State.setContactor_slots (s : State) (i : Fin 8) (x : Contactor) :
    (s.setContactor i x).slots = s.slots := rfl

@[simp] theorem State.setContactor_doorReleased (s : State) (i : Fin 8) (x : Contactor) :
    (s.setContactor i x).doorReleased = s.doorReleased := rfl

@[simp] theorem State.setContactor_crewKey (s : State) (i : Fin 8) (x : Contactor) :
    (s.setContactor i x).crewKey = s.crewKey := rfl

@[simp] theorem State.setContactor_door (s : State) (i : Fin 8) (x : Contactor) :
    (s.setContactor i x).door = s.door := rfl

@[simp] theorem State.setContactor_strings (s : State) (i : Fin 8) (x : Contactor) :
    (s.setContactor i x).strings = s.strings := rfl

@[simp] theorem State.setContactor_buses (s : State) (i : Fin 8) (x : Contactor) :
    (s.setContactor i x).buses = s.buses := rfl

@[simp] theorem State.setContactor_fire (s : State) (i : Fin 8) (x : Contactor) :
    (s.setContactor i x).fire = s.fire := rfl

@[simp] theorem State.setContactor_cooling (s : State) (i : Fin 8) (x : Contactor) :
    (s.setContactor i x).cooling = s.cooling := rfl

@[simp] theorem State.setContactor_contactors (s : State) (i : Fin 8) (x : Contactor) :
    (s.setContactor i x).contactors = put s.contactors i x := rfl

@[simp] theorem State.setContactor_serving (s : State) (i : Fin 8) (x : Contactor) :
    (s.setContactor i x).serving = s.serving := rfl

@[simp] theorem State.setContactor_breaker (s : State) (i : Fin 8) (x : Contactor) :
    (s.setContactor i x).breaker = s.breaker := rfl

@[simp] theorem State.setContactor_link (s : State) (i : Fin 8) (x : Contactor) :
    (s.setContactor i x).link = s.link := rfl

@[simp] theorem State.setContactor_orderMemory (s : State) (i : Fin 8) (x : Contactor) :
    (s.setContactor i x).orderMemory = s.orderMemory := rfl

@[simp] theorem State.setContactor_transaction (s : State) (i : Fin 8) (x : Contactor) :
    (s.setContactor i x).transaction = s.transaction := rfl

@[simp] theorem State.setContactor_runner (s : State) (i : Fin 8) (x : Contactor) :
    (s.setContactor i x).runner = s.runner := rfl

@[simp] theorem State.setContactor_attention (s : State) (i : Fin 8) (x : Contactor) :
    (s.setContactor i x).attention = s.attention := rfl

@[simp] theorem State.setContactor_unit (s : State) (i : Fin 8) (x : Contactor) :
    (s.setContactor i x).unit = s.unit := rfl

@[simp] theorem State.setContactor_now (s : State) (i : Fin 8) (x : Contactor) :
    (s.setContactor i x).now = s.now := rfl

@[simp] theorem State.setContactor_loaded (s : State) (i : Fin 8) (x : Contactor) :
    (s.setContactor i x).loaded = s.loaded := rfl

@[simp] theorem State.setContactor_answer (s : State) (i : Fin 8) (x : Contactor) :
    (s.setContactor i x).answer = s.answer := rfl

@[simp] theorem State.setContactor_draws (s : State) (i : Fin 8) (x : Contactor) :
    (s.setContactor i x).draws = s.draws := rfl

@[simp] theorem State.setContactor_pending (s : State) (i : Fin 8) (x : Contactor) :
    (s.setContactor i x).pending = s.pending := rfl

@[simp] theorem State.setSlot_slots (s : State) (i : Fin 48) (x : Slot) :
    (s.setSlot i x).slots = put s.slots i x := rfl

@[simp] theorem State.setSlot_doorReleased (s : State) (i : Fin 48) (x : Slot) :
    (s.setSlot i x).doorReleased = s.doorReleased := rfl

@[simp] theorem State.setSlot_crewKey (s : State) (i : Fin 48) (x : Slot) :
    (s.setSlot i x).crewKey = s.crewKey := rfl

@[simp] theorem State.setSlot_door (s : State) (i : Fin 48) (x : Slot) :
    (s.setSlot i x).door = s.door := rfl

@[simp] theorem State.setSlot_strings (s : State) (i : Fin 48) (x : Slot) :
    (s.setSlot i x).strings = s.strings := rfl

@[simp] theorem State.setSlot_buses (s : State) (i : Fin 48) (x : Slot) :
    (s.setSlot i x).buses = s.buses := rfl

@[simp] theorem State.setSlot_fire (s : State) (i : Fin 48) (x : Slot) :
    (s.setSlot i x).fire = s.fire := rfl

@[simp] theorem State.setSlot_cooling (s : State) (i : Fin 48) (x : Slot) :
    (s.setSlot i x).cooling = s.cooling := rfl

@[simp] theorem State.setSlot_contactors (s : State) (i : Fin 48) (x : Slot) :
    (s.setSlot i x).contactors = s.contactors := rfl

@[simp] theorem State.setSlot_serving (s : State) (i : Fin 48) (x : Slot) :
    (s.setSlot i x).serving = s.serving := rfl

@[simp] theorem State.setSlot_breaker (s : State) (i : Fin 48) (x : Slot) :
    (s.setSlot i x).breaker = s.breaker := rfl

@[simp] theorem State.setSlot_link (s : State) (i : Fin 48) (x : Slot) :
    (s.setSlot i x).link = s.link := rfl

@[simp] theorem State.setSlot_orderMemory (s : State) (i : Fin 48) (x : Slot) :
    (s.setSlot i x).orderMemory = s.orderMemory := rfl

@[simp] theorem State.setSlot_transaction (s : State) (i : Fin 48) (x : Slot) :
    (s.setSlot i x).transaction = s.transaction := rfl

@[simp] theorem State.setSlot_runner (s : State) (i : Fin 48) (x : Slot) :
    (s.setSlot i x).runner = s.runner := rfl

@[simp] theorem State.setSlot_attention (s : State) (i : Fin 48) (x : Slot) :
    (s.setSlot i x).attention = s.attention := rfl

@[simp] theorem State.setSlot_unit (s : State) (i : Fin 48) (x : Slot) :
    (s.setSlot i x).unit = s.unit := rfl

@[simp] theorem State.setSlot_now (s : State) (i : Fin 48) (x : Slot) :
    (s.setSlot i x).now = s.now := rfl

@[simp] theorem State.setSlot_loaded (s : State) (i : Fin 48) (x : Slot) :
    (s.setSlot i x).loaded = s.loaded := rfl

@[simp] theorem State.setSlot_answer (s : State) (i : Fin 48) (x : Slot) :
    (s.setSlot i x).answer = s.answer := rfl

@[simp] theorem State.setSlot_draws (s : State) (i : Fin 48) (x : Slot) :
    (s.setSlot i x).draws = s.draws := rfl

@[simp] theorem State.setSlot_pending (s : State) (i : Fin 48) (x : Slot) :
    (s.setSlot i x).pending = s.pending := rfl

@[simp] theorem State.setPermit_slots (s : State) (i : Fin 48) (p : Permit) :
    (s.setPermit i p).slots = put s.slots i { s.slots[i] with permit := some p } := rfl

@[simp] theorem State.setPermit_doorReleased (s : State) (i : Fin 48) (p : Permit) :
    (s.setPermit i p).doorReleased = s.doorReleased := rfl

@[simp] theorem State.setPermit_crewKey (s : State) (i : Fin 48) (p : Permit) :
    (s.setPermit i p).crewKey = s.crewKey := rfl

@[simp] theorem State.setPermit_door (s : State) (i : Fin 48) (p : Permit) :
    (s.setPermit i p).door = s.door := rfl

@[simp] theorem State.setPermit_strings (s : State) (i : Fin 48) (p : Permit) :
    (s.setPermit i p).strings = s.strings := rfl

@[simp] theorem State.setPermit_buses (s : State) (i : Fin 48) (p : Permit) :
    (s.setPermit i p).buses = s.buses := rfl

@[simp] theorem State.setPermit_fire (s : State) (i : Fin 48) (p : Permit) :
    (s.setPermit i p).fire = s.fire := rfl

@[simp] theorem State.setPermit_cooling (s : State) (i : Fin 48) (p : Permit) :
    (s.setPermit i p).cooling = s.cooling := rfl

@[simp] theorem State.setPermit_contactors (s : State) (i : Fin 48) (p : Permit) :
    (s.setPermit i p).contactors = s.contactors := rfl

@[simp] theorem State.setPermit_serving (s : State) (i : Fin 48) (p : Permit) :
    (s.setPermit i p).serving = s.serving := rfl

@[simp] theorem State.setPermit_breaker (s : State) (i : Fin 48) (p : Permit) :
    (s.setPermit i p).breaker = s.breaker := rfl

@[simp] theorem State.setPermit_link (s : State) (i : Fin 48) (p : Permit) :
    (s.setPermit i p).link = s.link := rfl

@[simp] theorem State.setPermit_orderMemory (s : State) (i : Fin 48) (p : Permit) :
    (s.setPermit i p).orderMemory = s.orderMemory := rfl

@[simp] theorem State.setPermit_transaction (s : State) (i : Fin 48) (p : Permit) :
    (s.setPermit i p).transaction = s.transaction := rfl

@[simp] theorem State.setPermit_runner (s : State) (i : Fin 48) (p : Permit) :
    (s.setPermit i p).runner = s.runner := rfl

@[simp] theorem State.setPermit_attention (s : State) (i : Fin 48) (p : Permit) :
    (s.setPermit i p).attention = s.attention := rfl

@[simp] theorem State.setPermit_unit (s : State) (i : Fin 48) (p : Permit) :
    (s.setPermit i p).unit = s.unit := rfl

@[simp] theorem State.setPermit_now (s : State) (i : Fin 48) (p : Permit) :
    (s.setPermit i p).now = s.now := rfl

@[simp] theorem State.setPermit_loaded (s : State) (i : Fin 48) (p : Permit) :
    (s.setPermit i p).loaded = s.loaded := rfl

@[simp] theorem State.setPermit_answer (s : State) (i : Fin 48) (p : Permit) :
    (s.setPermit i p).answer = s.answer := rfl

@[simp] theorem State.setPermit_draws (s : State) (i : Fin 48) (p : Permit) :
    (s.setPermit i p).draws = s.draws := rfl

@[simp] theorem State.setPermit_pending (s : State) (i : Fin 48) (p : Permit) :
    (s.setPermit i p).pending = s.pending := rfl

/-! ### Flags and the attention line -/

@[simp] theorem State.raise_slots (s : State) (f : Flag) :
    (s.raise f).slots = s.slots := rfl

@[simp] theorem State.raise_doorReleased (s : State) (f : Flag) :
    (s.raise f).doorReleased = s.doorReleased := rfl

@[simp] theorem State.raise_crewKey (s : State) (f : Flag) :
    (s.raise f).crewKey = s.crewKey := rfl

@[simp] theorem State.raise_door (s : State) (f : Flag) :
    (s.raise f).door = s.door := rfl

@[simp] theorem State.raise_strings (s : State) (f : Flag) :
    (s.raise f).strings = s.strings := rfl

@[simp] theorem State.raise_buses (s : State) (f : Flag) :
    (s.raise f).buses = s.buses := rfl

@[simp] theorem State.raise_fire (s : State) (f : Flag) :
    (s.raise f).fire = s.fire := rfl

@[simp] theorem State.raise_cooling (s : State) (f : Flag) :
    (s.raise f).cooling = s.cooling := rfl

@[simp] theorem State.raise_contactors (s : State) (f : Flag) :
    (s.raise f).contactors = s.contactors := rfl

@[simp] theorem State.raise_serving (s : State) (f : Flag) :
    (s.raise f).serving = s.serving := rfl

@[simp] theorem State.raise_breaker (s : State) (f : Flag) :
    (s.raise f).breaker = s.breaker := rfl

@[simp] theorem State.raise_link (s : State) (f : Flag) :
    (s.raise f).link = s.link := rfl

@[simp] theorem State.raise_orderMemory (s : State) (f : Flag) :
    (s.raise f).orderMemory = s.orderMemory := rfl

@[simp] theorem State.raise_transaction (s : State) (f : Flag) :
    (s.raise f).transaction = s.transaction := rfl

@[simp] theorem State.raise_runner (s : State) (f : Flag) :
    (s.raise f).runner = s.runner := rfl

@[simp] theorem State.raise_attention (s : State) (f : Flag) :
    (s.raise f).attention = s.attention.raise f := rfl

@[simp] theorem State.raise_unit (s : State) (f : Flag) :
    (s.raise f).unit = s.unit := rfl

@[simp] theorem State.raise_now (s : State) (f : Flag) :
    (s.raise f).now = s.now := rfl

@[simp] theorem State.raise_loaded (s : State) (f : Flag) :
    (s.raise f).loaded = s.loaded := rfl

@[simp] theorem State.raise_answer (s : State) (f : Flag) :
    (s.raise f).answer = s.answer := rfl

@[simp] theorem State.raise_draws (s : State) (f : Flag) :
    (s.raise f).draws = s.draws := rfl

@[simp] theorem State.raise_pending (s : State) (f : Flag) :
    (s.raise f).pending = s.pending := rfl

@[simp] theorem State.raiseIf_slots (s : State) (c : Bool) (f : Flag) :
    (s.raiseIf c f).slots = s.slots := by cases c <;> rfl

@[simp] theorem State.raiseIf_doorReleased (s : State) (c : Bool) (f : Flag) :
    (s.raiseIf c f).doorReleased = s.doorReleased := by cases c <;> rfl

@[simp] theorem State.raiseIf_crewKey (s : State) (c : Bool) (f : Flag) :
    (s.raiseIf c f).crewKey = s.crewKey := by cases c <;> rfl

@[simp] theorem State.raiseIf_door (s : State) (c : Bool) (f : Flag) :
    (s.raiseIf c f).door = s.door := by cases c <;> rfl

@[simp] theorem State.raiseIf_strings (s : State) (c : Bool) (f : Flag) :
    (s.raiseIf c f).strings = s.strings := by cases c <;> rfl

@[simp] theorem State.raiseIf_buses (s : State) (c : Bool) (f : Flag) :
    (s.raiseIf c f).buses = s.buses := by cases c <;> rfl

@[simp] theorem State.raiseIf_fire (s : State) (c : Bool) (f : Flag) :
    (s.raiseIf c f).fire = s.fire := by cases c <;> rfl

@[simp] theorem State.raiseIf_cooling (s : State) (c : Bool) (f : Flag) :
    (s.raiseIf c f).cooling = s.cooling := by cases c <;> rfl

@[simp] theorem State.raiseIf_contactors (s : State) (c : Bool) (f : Flag) :
    (s.raiseIf c f).contactors = s.contactors := by cases c <;> rfl

@[simp] theorem State.raiseIf_serving (s : State) (c : Bool) (f : Flag) :
    (s.raiseIf c f).serving = s.serving := by cases c <;> rfl

@[simp] theorem State.raiseIf_breaker (s : State) (c : Bool) (f : Flag) :
    (s.raiseIf c f).breaker = s.breaker := by cases c <;> rfl

@[simp] theorem State.raiseIf_link (s : State) (c : Bool) (f : Flag) :
    (s.raiseIf c f).link = s.link := by cases c <;> rfl

@[simp] theorem State.raiseIf_orderMemory (s : State) (c : Bool) (f : Flag) :
    (s.raiseIf c f).orderMemory = s.orderMemory := by cases c <;> rfl

@[simp] theorem State.raiseIf_transaction (s : State) (c : Bool) (f : Flag) :
    (s.raiseIf c f).transaction = s.transaction := by cases c <;> rfl

@[simp] theorem State.raiseIf_runner (s : State) (c : Bool) (f : Flag) :
    (s.raiseIf c f).runner = s.runner := by cases c <;> rfl

@[simp] theorem State.raiseIf_unit (s : State) (c : Bool) (f : Flag) :
    (s.raiseIf c f).unit = s.unit := by cases c <;> rfl

@[simp] theorem State.raiseIf_now (s : State) (c : Bool) (f : Flag) :
    (s.raiseIf c f).now = s.now := by cases c <;> rfl

@[simp] theorem State.raiseIf_loaded (s : State) (c : Bool) (f : Flag) :
    (s.raiseIf c f).loaded = s.loaded := by cases c <;> rfl

@[simp] theorem State.raiseIf_answer (s : State) (c : Bool) (f : Flag) :
    (s.raiseIf c f).answer = s.answer := by cases c <;> rfl

@[simp] theorem State.raiseIf_draws (s : State) (c : Bool) (f : Flag) :
    (s.raiseIf c f).draws = s.draws := by cases c <;> rfl

@[simp] theorem State.raiseIf_pending (s : State) (c : Bool) (f : Flag) :
    (s.raiseIf c f).pending = s.pending := by cases c <;> rfl

theorem State.raiseIf_attention (s : State) (c : Bool) (f : Flag) :
    (s.raiseIf c f).attention = if c then s.attention.raise f else s.attention := by cases c <;> rfl

/-! ### Breaker -/

@[simp] theorem State.arm_slots (s : State) (armed : Bool) :
    (s.arm armed).slots = s.slots := rfl

@[simp] theorem State.arm_doorReleased (s : State) (armed : Bool) :
    (s.arm armed).doorReleased = s.doorReleased := rfl

@[simp] theorem State.arm_crewKey (s : State) (armed : Bool) :
    (s.arm armed).crewKey = s.crewKey := rfl

@[simp] theorem State.arm_door (s : State) (armed : Bool) :
    (s.arm armed).door = s.door := rfl

@[simp] theorem State.arm_strings (s : State) (armed : Bool) :
    (s.arm armed).strings = s.strings := rfl

@[simp] theorem State.arm_buses (s : State) (armed : Bool) :
    (s.arm armed).buses = s.buses := rfl

@[simp] theorem State.arm_fire (s : State) (armed : Bool) :
    (s.arm armed).fire = s.fire := rfl

@[simp] theorem State.arm_cooling (s : State) (armed : Bool) :
    (s.arm armed).cooling = s.cooling := rfl

@[simp] theorem State.arm_contactors (s : State) (armed : Bool) :
    (s.arm armed).contactors = s.contactors := rfl

@[simp] theorem State.arm_serving (s : State) (armed : Bool) :
    (s.arm armed).serving = s.serving := rfl

@[simp] theorem State.arm_breaker (s : State) (armed : Bool) :
    (s.arm armed).breaker = { s.breaker with armed := armed } := rfl

@[simp] theorem State.arm_link (s : State) (armed : Bool) :
    (s.arm armed).link = s.link := rfl

@[simp] theorem State.arm_orderMemory (s : State) (armed : Bool) :
    (s.arm armed).orderMemory = s.orderMemory := rfl

@[simp] theorem State.arm_transaction (s : State) (armed : Bool) :
    (s.arm armed).transaction = s.transaction := rfl

@[simp] theorem State.arm_runner (s : State) (armed : Bool) :
    (s.arm armed).runner = s.runner := rfl

@[simp] theorem State.arm_attention (s : State) (armed : Bool) :
    (s.arm armed).attention = s.attention := rfl

@[simp] theorem State.arm_unit (s : State) (armed : Bool) :
    (s.arm armed).unit = s.unit := rfl

@[simp] theorem State.arm_now (s : State) (armed : Bool) :
    (s.arm armed).now = s.now := rfl

@[simp] theorem State.arm_loaded (s : State) (armed : Bool) :
    (s.arm armed).loaded = s.loaded := rfl

@[simp] theorem State.arm_answer (s : State) (armed : Bool) :
    (s.arm armed).answer = s.answer := rfl

@[simp] theorem State.arm_draws (s : State) (armed : Bool) :
    (s.arm armed).draws = s.draws := rfl

@[simp] theorem State.arm_pending (s : State) (armed : Bool) :
    (s.arm armed).pending = s.pending := rfl

@[simp] theorem State.setGrid_slots (s : State) (g : Conditioned Bool) :
    (s.setGrid g).slots = s.slots := rfl

@[simp] theorem State.setGrid_doorReleased (s : State) (g : Conditioned Bool) :
    (s.setGrid g).doorReleased = s.doorReleased := rfl

@[simp] theorem State.setGrid_crewKey (s : State) (g : Conditioned Bool) :
    (s.setGrid g).crewKey = s.crewKey := rfl

@[simp] theorem State.setGrid_door (s : State) (g : Conditioned Bool) :
    (s.setGrid g).door = s.door := rfl

@[simp] theorem State.setGrid_strings (s : State) (g : Conditioned Bool) :
    (s.setGrid g).strings = s.strings := rfl

@[simp] theorem State.setGrid_buses (s : State) (g : Conditioned Bool) :
    (s.setGrid g).buses = s.buses := rfl

@[simp] theorem State.setGrid_fire (s : State) (g : Conditioned Bool) :
    (s.setGrid g).fire = s.fire := rfl

@[simp] theorem State.setGrid_cooling (s : State) (g : Conditioned Bool) :
    (s.setGrid g).cooling = s.cooling := rfl

@[simp] theorem State.setGrid_contactors (s : State) (g : Conditioned Bool) :
    (s.setGrid g).contactors = s.contactors := rfl

@[simp] theorem State.setGrid_serving (s : State) (g : Conditioned Bool) :
    (s.setGrid g).serving = s.serving := rfl

@[simp] theorem State.setGrid_breaker (s : State) (g : Conditioned Bool) :
    (s.setGrid g).breaker = { s.breaker with grid := g } := rfl

@[simp] theorem State.setGrid_link (s : State) (g : Conditioned Bool) :
    (s.setGrid g).link = s.link := rfl

@[simp] theorem State.setGrid_orderMemory (s : State) (g : Conditioned Bool) :
    (s.setGrid g).orderMemory = s.orderMemory := rfl

@[simp] theorem State.setGrid_transaction (s : State) (g : Conditioned Bool) :
    (s.setGrid g).transaction = s.transaction := rfl

@[simp] theorem State.setGrid_runner (s : State) (g : Conditioned Bool) :
    (s.setGrid g).runner = s.runner := rfl

@[simp] theorem State.setGrid_attention (s : State) (g : Conditioned Bool) :
    (s.setGrid g).attention = s.attention := rfl

@[simp] theorem State.setGrid_unit (s : State) (g : Conditioned Bool) :
    (s.setGrid g).unit = s.unit := rfl

@[simp] theorem State.setGrid_now (s : State) (g : Conditioned Bool) :
    (s.setGrid g).now = s.now := rfl

@[simp] theorem State.setGrid_loaded (s : State) (g : Conditioned Bool) :
    (s.setGrid g).loaded = s.loaded := rfl

@[simp] theorem State.setGrid_answer (s : State) (g : Conditioned Bool) :
    (s.setGrid g).answer = s.answer := rfl

@[simp] theorem State.setGrid_draws (s : State) (g : Conditioned Bool) :
    (s.setGrid g).draws = s.draws := rfl

@[simp] theorem State.setGrid_pending (s : State) (g : Conditioned Bool) :
    (s.setGrid g).pending = s.pending := rfl

@[simp] theorem State.setReconnect_slots (s : State) (e : Option Nat) (a : Bool) :
    (s.setReconnect e a).slots = s.slots := rfl

@[simp] theorem State.setReconnect_doorReleased (s : State) (e : Option Nat) (a : Bool) :
    (s.setReconnect e a).doorReleased = s.doorReleased := rfl

@[simp] theorem State.setReconnect_crewKey (s : State) (e : Option Nat) (a : Bool) :
    (s.setReconnect e a).crewKey = s.crewKey := rfl

@[simp] theorem State.setReconnect_door (s : State) (e : Option Nat) (a : Bool) :
    (s.setReconnect e a).door = s.door := rfl

@[simp] theorem State.setReconnect_strings (s : State) (e : Option Nat) (a : Bool) :
    (s.setReconnect e a).strings = s.strings := rfl

@[simp] theorem State.setReconnect_buses (s : State) (e : Option Nat) (a : Bool) :
    (s.setReconnect e a).buses = s.buses := rfl

@[simp] theorem State.setReconnect_fire (s : State) (e : Option Nat) (a : Bool) :
    (s.setReconnect e a).fire = s.fire := rfl

@[simp] theorem State.setReconnect_cooling (s : State) (e : Option Nat) (a : Bool) :
    (s.setReconnect e a).cooling = s.cooling := rfl

@[simp] theorem State.setReconnect_contactors (s : State) (e : Option Nat) (a : Bool) :
    (s.setReconnect e a).contactors = s.contactors := rfl

@[simp] theorem State.setReconnect_serving (s : State) (e : Option Nat) (a : Bool) :
    (s.setReconnect e a).serving = s.serving := rfl

@[simp] theorem State.setReconnect_breaker (s : State) (e : Option Nat) (a : Bool) :
    (s.setReconnect e a).breaker = { s.breaker with reconnectEnd := e, gridAvailable := a } := rfl

@[simp] theorem State.setReconnect_link (s : State) (e : Option Nat) (a : Bool) :
    (s.setReconnect e a).link = s.link := rfl

@[simp] theorem State.setReconnect_orderMemory (s : State) (e : Option Nat) (a : Bool) :
    (s.setReconnect e a).orderMemory = s.orderMemory := rfl

@[simp] theorem State.setReconnect_transaction (s : State) (e : Option Nat) (a : Bool) :
    (s.setReconnect e a).transaction = s.transaction := rfl

@[simp] theorem State.setReconnect_runner (s : State) (e : Option Nat) (a : Bool) :
    (s.setReconnect e a).runner = s.runner := rfl

@[simp] theorem State.setReconnect_attention (s : State) (e : Option Nat) (a : Bool) :
    (s.setReconnect e a).attention = s.attention := rfl

@[simp] theorem State.setReconnect_unit (s : State) (e : Option Nat) (a : Bool) :
    (s.setReconnect e a).unit = s.unit := rfl

@[simp] theorem State.setReconnect_now (s : State) (e : Option Nat) (a : Bool) :
    (s.setReconnect e a).now = s.now := rfl

@[simp] theorem State.setReconnect_loaded (s : State) (e : Option Nat) (a : Bool) :
    (s.setReconnect e a).loaded = s.loaded := rfl

@[simp] theorem State.setReconnect_answer (s : State) (e : Option Nat) (a : Bool) :
    (s.setReconnect e a).answer = s.answer := rfl

@[simp] theorem State.setReconnect_draws (s : State) (e : Option Nat) (a : Bool) :
    (s.setReconnect e a).draws = s.draws := rfl

@[simp] theorem State.setReconnect_pending (s : State) (e : Option Nat) (a : Bool) :
    (s.setReconnect e a).pending = s.pending := rfl

/-! ### Single records -/

@[simp] theorem State.setKey_slots (s : State) (on : Bool) :
    (s.setKey on).slots = s.slots := rfl

@[simp] theorem State.setKey_doorReleased (s : State) (on : Bool) :
    (s.setKey on).doorReleased = s.doorReleased := rfl

@[simp] theorem State.setKey_crewKey (s : State) (on : Bool) :
    (s.setKey on).crewKey = on := rfl

@[simp] theorem State.setKey_door (s : State) (on : Bool) :
    (s.setKey on).door = s.door := rfl

@[simp] theorem State.setKey_strings (s : State) (on : Bool) :
    (s.setKey on).strings = s.strings := rfl

@[simp] theorem State.setKey_buses (s : State) (on : Bool) :
    (s.setKey on).buses = s.buses := rfl

@[simp] theorem State.setKey_fire (s : State) (on : Bool) :
    (s.setKey on).fire = s.fire := rfl

@[simp] theorem State.setKey_cooling (s : State) (on : Bool) :
    (s.setKey on).cooling = s.cooling := rfl

@[simp] theorem State.setKey_contactors (s : State) (on : Bool) :
    (s.setKey on).contactors = s.contactors := rfl

@[simp] theorem State.setKey_serving (s : State) (on : Bool) :
    (s.setKey on).serving = s.serving := rfl

@[simp] theorem State.setKey_breaker (s : State) (on : Bool) :
    (s.setKey on).breaker = s.breaker := rfl

@[simp] theorem State.setKey_link (s : State) (on : Bool) :
    (s.setKey on).link = s.link := rfl

@[simp] theorem State.setKey_orderMemory (s : State) (on : Bool) :
    (s.setKey on).orderMemory = s.orderMemory := rfl

@[simp] theorem State.setKey_transaction (s : State) (on : Bool) :
    (s.setKey on).transaction = s.transaction := rfl

@[simp] theorem State.setKey_runner (s : State) (on : Bool) :
    (s.setKey on).runner = s.runner := rfl

@[simp] theorem State.setKey_attention (s : State) (on : Bool) :
    (s.setKey on).attention = s.attention := rfl

@[simp] theorem State.setKey_unit (s : State) (on : Bool) :
    (s.setKey on).unit = s.unit := rfl

@[simp] theorem State.setKey_now (s : State) (on : Bool) :
    (s.setKey on).now = s.now := rfl

@[simp] theorem State.setKey_loaded (s : State) (on : Bool) :
    (s.setKey on).loaded = s.loaded := rfl

@[simp] theorem State.setKey_answer (s : State) (on : Bool) :
    (s.setKey on).answer = s.answer := rfl

@[simp] theorem State.setKey_draws (s : State) (on : Bool) :
    (s.setKey on).draws = s.draws := rfl

@[simp] theorem State.setKey_pending (s : State) (on : Bool) :
    (s.setKey on).pending = s.pending := rfl

@[simp] theorem State.setUnit_slots (s : State) (u : ProfileUnit) :
    (s.setUnit u).slots = s.slots := rfl

@[simp] theorem State.setUnit_doorReleased (s : State) (u : ProfileUnit) :
    (s.setUnit u).doorReleased = s.doorReleased := rfl

@[simp] theorem State.setUnit_crewKey (s : State) (u : ProfileUnit) :
    (s.setUnit u).crewKey = s.crewKey := rfl

@[simp] theorem State.setUnit_door (s : State) (u : ProfileUnit) :
    (s.setUnit u).door = s.door := rfl

@[simp] theorem State.setUnit_strings (s : State) (u : ProfileUnit) :
    (s.setUnit u).strings = s.strings := rfl

@[simp] theorem State.setUnit_buses (s : State) (u : ProfileUnit) :
    (s.setUnit u).buses = s.buses := rfl

@[simp] theorem State.setUnit_fire (s : State) (u : ProfileUnit) :
    (s.setUnit u).fire = s.fire := rfl

@[simp] theorem State.setUnit_cooling (s : State) (u : ProfileUnit) :
    (s.setUnit u).cooling = s.cooling := rfl

@[simp] theorem State.setUnit_contactors (s : State) (u : ProfileUnit) :
    (s.setUnit u).contactors = s.contactors := rfl

@[simp] theorem State.setUnit_serving (s : State) (u : ProfileUnit) :
    (s.setUnit u).serving = s.serving := rfl

@[simp] theorem State.setUnit_breaker (s : State) (u : ProfileUnit) :
    (s.setUnit u).breaker = s.breaker := rfl

@[simp] theorem State.setUnit_link (s : State) (u : ProfileUnit) :
    (s.setUnit u).link = s.link := rfl

@[simp] theorem State.setUnit_orderMemory (s : State) (u : ProfileUnit) :
    (s.setUnit u).orderMemory = s.orderMemory := rfl

@[simp] theorem State.setUnit_transaction (s : State) (u : ProfileUnit) :
    (s.setUnit u).transaction = s.transaction := rfl

@[simp] theorem State.setUnit_runner (s : State) (u : ProfileUnit) :
    (s.setUnit u).runner = s.runner := rfl

@[simp] theorem State.setUnit_attention (s : State) (u : ProfileUnit) :
    (s.setUnit u).attention = s.attention := rfl

@[simp] theorem State.setUnit_unit (s : State) (u : ProfileUnit) :
    (s.setUnit u).unit = u := rfl

@[simp] theorem State.setUnit_now (s : State) (u : ProfileUnit) :
    (s.setUnit u).now = s.now := rfl

@[simp] theorem State.setUnit_loaded (s : State) (u : ProfileUnit) :
    (s.setUnit u).loaded = s.loaded := rfl

@[simp] theorem State.setUnit_answer (s : State) (u : ProfileUnit) :
    (s.setUnit u).answer = s.answer := rfl

@[simp] theorem State.setUnit_draws (s : State) (u : ProfileUnit) :
    (s.setUnit u).draws = s.draws := rfl

@[simp] theorem State.setUnit_pending (s : State) (u : ProfileUnit) :
    (s.setUnit u).pending = s.pending := rfl

@[simp] theorem State.setLink_slots (s : State) (l : Link) :
    (s.setLink l).slots = s.slots := rfl

@[simp] theorem State.setLink_doorReleased (s : State) (l : Link) :
    (s.setLink l).doorReleased = s.doorReleased := rfl

@[simp] theorem State.setLink_crewKey (s : State) (l : Link) :
    (s.setLink l).crewKey = s.crewKey := rfl

@[simp] theorem State.setLink_door (s : State) (l : Link) :
    (s.setLink l).door = s.door := rfl

@[simp] theorem State.setLink_strings (s : State) (l : Link) :
    (s.setLink l).strings = s.strings := rfl

@[simp] theorem State.setLink_buses (s : State) (l : Link) :
    (s.setLink l).buses = s.buses := rfl

@[simp] theorem State.setLink_fire (s : State) (l : Link) :
    (s.setLink l).fire = s.fire := rfl

@[simp] theorem State.setLink_cooling (s : State) (l : Link) :
    (s.setLink l).cooling = s.cooling := rfl

@[simp] theorem State.setLink_contactors (s : State) (l : Link) :
    (s.setLink l).contactors = s.contactors := rfl

@[simp] theorem State.setLink_serving (s : State) (l : Link) :
    (s.setLink l).serving = s.serving := rfl

@[simp] theorem State.setLink_breaker (s : State) (l : Link) :
    (s.setLink l).breaker = s.breaker := rfl

@[simp] theorem State.setLink_link (s : State) (l : Link) :
    (s.setLink l).link = l := rfl

@[simp] theorem State.setLink_orderMemory (s : State) (l : Link) :
    (s.setLink l).orderMemory = s.orderMemory := rfl

@[simp] theorem State.setLink_transaction (s : State) (l : Link) :
    (s.setLink l).transaction = s.transaction := rfl

@[simp] theorem State.setLink_runner (s : State) (l : Link) :
    (s.setLink l).runner = s.runner := rfl

@[simp] theorem State.setLink_attention (s : State) (l : Link) :
    (s.setLink l).attention = s.attention := rfl

@[simp] theorem State.setLink_unit (s : State) (l : Link) :
    (s.setLink l).unit = s.unit := rfl

@[simp] theorem State.setLink_now (s : State) (l : Link) :
    (s.setLink l).now = s.now := rfl

@[simp] theorem State.setLink_loaded (s : State) (l : Link) :
    (s.setLink l).loaded = s.loaded := rfl

@[simp] theorem State.setLink_answer (s : State) (l : Link) :
    (s.setLink l).answer = s.answer := rfl

@[simp] theorem State.setLink_draws (s : State) (l : Link) :
    (s.setLink l).draws = s.draws := rfl

@[simp] theorem State.setLink_pending (s : State) (l : Link) :
    (s.setLink l).pending = s.pending := rfl

@[simp] theorem State.setRunner_slots (s : State) (st : RunnerState) :
    (s.setRunner st).slots = s.slots := rfl

@[simp] theorem State.setRunner_doorReleased (s : State) (st : RunnerState) :
    (s.setRunner st).doorReleased = s.doorReleased := rfl

@[simp] theorem State.setRunner_crewKey (s : State) (st : RunnerState) :
    (s.setRunner st).crewKey = s.crewKey := rfl

@[simp] theorem State.setRunner_door (s : State) (st : RunnerState) :
    (s.setRunner st).door = s.door := rfl

@[simp] theorem State.setRunner_strings (s : State) (st : RunnerState) :
    (s.setRunner st).strings = s.strings := rfl

@[simp] theorem State.setRunner_buses (s : State) (st : RunnerState) :
    (s.setRunner st).buses = s.buses := rfl

@[simp] theorem State.setRunner_fire (s : State) (st : RunnerState) :
    (s.setRunner st).fire = s.fire := rfl

@[simp] theorem State.setRunner_cooling (s : State) (st : RunnerState) :
    (s.setRunner st).cooling = s.cooling := rfl

@[simp] theorem State.setRunner_contactors (s : State) (st : RunnerState) :
    (s.setRunner st).contactors = s.contactors := rfl

@[simp] theorem State.setRunner_serving (s : State) (st : RunnerState) :
    (s.setRunner st).serving = s.serving := rfl

@[simp] theorem State.setRunner_breaker (s : State) (st : RunnerState) :
    (s.setRunner st).breaker = s.breaker := rfl

@[simp] theorem State.setRunner_link (s : State) (st : RunnerState) :
    (s.setRunner st).link = s.link := rfl

@[simp] theorem State.setRunner_orderMemory (s : State) (st : RunnerState) :
    (s.setRunner st).orderMemory = s.orderMemory := rfl

@[simp] theorem State.setRunner_transaction (s : State) (st : RunnerState) :
    (s.setRunner st).transaction = s.transaction := rfl

@[simp] theorem State.setRunner_runner (s : State) (st : RunnerState) :
    (s.setRunner st).runner = { s.runner with state := st } := rfl

@[simp] theorem State.setRunner_attention (s : State) (st : RunnerState) :
    (s.setRunner st).attention = s.attention := rfl

@[simp] theorem State.setRunner_unit (s : State) (st : RunnerState) :
    (s.setRunner st).unit = s.unit := rfl

@[simp] theorem State.setRunner_now (s : State) (st : RunnerState) :
    (s.setRunner st).now = s.now := rfl

@[simp] theorem State.setRunner_loaded (s : State) (st : RunnerState) :
    (s.setRunner st).loaded = s.loaded := rfl

@[simp] theorem State.setRunner_answer (s : State) (st : RunnerState) :
    (s.setRunner st).answer = s.answer := rfl

@[simp] theorem State.setRunner_draws (s : State) (st : RunnerState) :
    (s.setRunner st).draws = s.draws := rfl

@[simp] theorem State.setRunner_pending (s : State) (st : RunnerState) :
    (s.setRunner st).pending = s.pending := rfl

@[simp] theorem State.wrote_slots (s : State) (a : BitVec 10) :
    (s.wrote a).slots = s.slots := rfl

@[simp] theorem State.wrote_doorReleased (s : State) (a : BitVec 10) :
    (s.wrote a).doorReleased = s.doorReleased := rfl

@[simp] theorem State.wrote_crewKey (s : State) (a : BitVec 10) :
    (s.wrote a).crewKey = s.crewKey := rfl

@[simp] theorem State.wrote_door (s : State) (a : BitVec 10) :
    (s.wrote a).door = s.door := rfl

@[simp] theorem State.wrote_strings (s : State) (a : BitVec 10) :
    (s.wrote a).strings = s.strings := rfl

@[simp] theorem State.wrote_buses (s : State) (a : BitVec 10) :
    (s.wrote a).buses = s.buses := rfl

@[simp] theorem State.wrote_fire (s : State) (a : BitVec 10) :
    (s.wrote a).fire = s.fire := rfl

@[simp] theorem State.wrote_cooling (s : State) (a : BitVec 10) :
    (s.wrote a).cooling = s.cooling := rfl

@[simp] theorem State.wrote_contactors (s : State) (a : BitVec 10) :
    (s.wrote a).contactors = s.contactors := rfl

@[simp] theorem State.wrote_serving (s : State) (a : BitVec 10) :
    (s.wrote a).serving = s.serving := rfl

@[simp] theorem State.wrote_breaker (s : State) (a : BitVec 10) :
    (s.wrote a).breaker = s.breaker := rfl

@[simp] theorem State.wrote_link (s : State) (a : BitVec 10) :
    (s.wrote a).link = s.link := rfl

@[simp] theorem State.wrote_orderMemory (s : State) (a : BitVec 10) :
    (s.wrote a).orderMemory = s.orderMemory := rfl

@[simp] theorem State.wrote_transaction (s : State) (a : BitVec 10) :
    (s.wrote a).transaction = .write (a + 1) [] := rfl

@[simp] theorem State.wrote_runner (s : State) (a : BitVec 10) :
    (s.wrote a).runner = s.runner := rfl

@[simp] theorem State.wrote_attention (s : State) (a : BitVec 10) :
    (s.wrote a).attention = s.attention := rfl

@[simp] theorem State.wrote_unit (s : State) (a : BitVec 10) :
    (s.wrote a).unit = s.unit := rfl

@[simp] theorem State.wrote_now (s : State) (a : BitVec 10) :
    (s.wrote a).now = s.now := rfl

@[simp] theorem State.wrote_loaded (s : State) (a : BitVec 10) :
    (s.wrote a).loaded = s.loaded := rfl

@[simp] theorem State.wrote_answer (s : State) (a : BitVec 10) :
    (s.wrote a).answer = s.answer := rfl

@[simp] theorem State.wrote_draws (s : State) (a : BitVec 10) :
    (s.wrote a).draws = s.draws := rfl

@[simp] theorem State.wrote_pending (s : State) (a : BitVec 10) :
    (s.wrote a).pending = s.pending := rfl

@[simp] theorem State.writeOutcome_slots (s : State) (slot : BitVec 5) (a : Answer) :
    (s.writeOutcome slot a).slots = s.slots := rfl

@[simp] theorem State.writeOutcome_doorReleased (s : State) (slot : BitVec 5) (a : Answer) :
    (s.writeOutcome slot a).doorReleased = s.doorReleased := rfl

@[simp] theorem State.writeOutcome_crewKey (s : State) (slot : BitVec 5) (a : Answer) :
    (s.writeOutcome slot a).crewKey = s.crewKey := rfl

@[simp] theorem State.writeOutcome_door (s : State) (slot : BitVec 5) (a : Answer) :
    (s.writeOutcome slot a).door = s.door := rfl

@[simp] theorem State.writeOutcome_strings (s : State) (slot : BitVec 5) (a : Answer) :
    (s.writeOutcome slot a).strings = s.strings := rfl

@[simp] theorem State.writeOutcome_buses (s : State) (slot : BitVec 5) (a : Answer) :
    (s.writeOutcome slot a).buses = s.buses := rfl

@[simp] theorem State.writeOutcome_fire (s : State) (slot : BitVec 5) (a : Answer) :
    (s.writeOutcome slot a).fire = s.fire := rfl

@[simp] theorem State.writeOutcome_cooling (s : State) (slot : BitVec 5) (a : Answer) :
    (s.writeOutcome slot a).cooling = s.cooling := rfl

@[simp] theorem State.writeOutcome_contactors (s : State) (slot : BitVec 5) (a : Answer) :
    (s.writeOutcome slot a).contactors = s.contactors := rfl

@[simp] theorem State.writeOutcome_serving (s : State) (slot : BitVec 5) (a : Answer) :
    (s.writeOutcome slot a).serving = s.serving := rfl

@[simp] theorem State.writeOutcome_breaker (s : State) (slot : BitVec 5) (a : Answer) :
    (s.writeOutcome slot a).breaker = s.breaker := rfl

@[simp] theorem State.writeOutcome_link (s : State) (slot : BitVec 5) (a : Answer) :
    (s.writeOutcome slot a).link = s.link := rfl

@[simp] theorem State.writeOutcome_orderMemory (s : State) (slot : BitVec 5) (a : Answer) :
    (s.writeOutcome slot a).orderMemory = 
      Memory.writeWords s.orderMemory (slotAddress slot 8) (a.outcomeWord :: wordResults a.results) := rfl

@[simp] theorem State.writeOutcome_transaction (s : State) (slot : BitVec 5) (a : Answer) :
    (s.writeOutcome slot a).transaction = s.transaction := rfl

@[simp] theorem State.writeOutcome_runner (s : State) (slot : BitVec 5) (a : Answer) :
    (s.writeOutcome slot a).runner = s.runner := rfl

@[simp] theorem State.writeOutcome_attention (s : State) (slot : BitVec 5) (a : Answer) :
    (s.writeOutcome slot a).attention = s.attention := rfl

@[simp] theorem State.writeOutcome_unit (s : State) (slot : BitVec 5) (a : Answer) :
    (s.writeOutcome slot a).unit = s.unit := rfl

@[simp] theorem State.writeOutcome_now (s : State) (slot : BitVec 5) (a : Answer) :
    (s.writeOutcome slot a).now = s.now := rfl

@[simp] theorem State.writeOutcome_loaded (s : State) (slot : BitVec 5) (a : Answer) :
    (s.writeOutcome slot a).loaded = s.loaded := rfl

@[simp] theorem State.writeOutcome_answer (s : State) (slot : BitVec 5) (a : Answer) :
    (s.writeOutcome slot a).answer = s.answer := rfl

@[simp] theorem State.writeOutcome_draws (s : State) (slot : BitVec 5) (a : Answer) :
    (s.writeOutcome slot a).draws = s.draws := rfl

@[simp] theorem State.writeOutcome_pending (s : State) (slot : BitVec 5) (a : Answer) :
    (s.writeOutcome slot a).pending = s.pending := rfl

@[simp] theorem State.takeSnapshot_slots (s : State) (slot : BitVec 5) :
    (s.takeSnapshot slot).slots = s.slots := rfl

@[simp] theorem State.takeSnapshot_doorReleased (s : State) (slot : BitVec 5) :
    (s.takeSnapshot slot).doorReleased = s.doorReleased := rfl

@[simp] theorem State.takeSnapshot_crewKey (s : State) (slot : BitVec 5) :
    (s.takeSnapshot slot).crewKey = s.crewKey := rfl

@[simp] theorem State.takeSnapshot_door (s : State) (slot : BitVec 5) :
    (s.takeSnapshot slot).door = s.door := rfl

@[simp] theorem State.takeSnapshot_strings (s : State) (slot : BitVec 5) :
    (s.takeSnapshot slot).strings = s.strings := rfl

@[simp] theorem State.takeSnapshot_buses (s : State) (slot : BitVec 5) :
    (s.takeSnapshot slot).buses = s.buses := rfl

@[simp] theorem State.takeSnapshot_fire (s : State) (slot : BitVec 5) :
    (s.takeSnapshot slot).fire = s.fire := rfl

@[simp] theorem State.takeSnapshot_cooling (s : State) (slot : BitVec 5) :
    (s.takeSnapshot slot).cooling = s.cooling := rfl

@[simp] theorem State.takeSnapshot_contactors (s : State) (slot : BitVec 5) :
    (s.takeSnapshot slot).contactors = s.contactors := rfl

@[simp] theorem State.takeSnapshot_serving (s : State) (slot : BitVec 5) :
    (s.takeSnapshot slot).serving = s.serving := rfl

@[simp] theorem State.takeSnapshot_breaker (s : State) (slot : BitVec 5) :
    (s.takeSnapshot slot).breaker = s.breaker := rfl

@[simp] theorem State.takeSnapshot_link (s : State) (slot : BitVec 5) :
    (s.takeSnapshot slot).link = s.link := rfl

@[simp] theorem State.takeSnapshot_orderMemory (s : State) (slot : BitVec 5) :
    (s.takeSnapshot slot).orderMemory = s.orderMemory := rfl

@[simp] theorem State.takeSnapshot_transaction (s : State) (slot : BitVec 5) :
    (s.takeSnapshot slot).transaction = s.transaction := rfl

@[simp] theorem State.takeSnapshot_runner (s : State) (slot : BitVec 5) :
    (s.takeSnapshot slot).runner = 
      { s.runner with
        state := .running slot (s.snapshotOf slot) (s.snapshotOf slot).timeTaking false .handed
        executed := s.runner.executed + 1 } := rfl

@[simp] theorem State.takeSnapshot_attention (s : State) (slot : BitVec 5) :
    (s.takeSnapshot slot).attention = s.attention := rfl

@[simp] theorem State.takeSnapshot_unit (s : State) (slot : BitVec 5) :
    (s.takeSnapshot slot).unit = s.unit := rfl

@[simp] theorem State.takeSnapshot_now (s : State) (slot : BitVec 5) :
    (s.takeSnapshot slot).now = s.now := rfl

@[simp] theorem State.takeSnapshot_loaded (s : State) (slot : BitVec 5) :
    (s.takeSnapshot slot).loaded = s.loaded := rfl

@[simp] theorem State.takeSnapshot_answer (s : State) (slot : BitVec 5) :
    (s.takeSnapshot slot).answer = s.answer := rfl

@[simp] theorem State.takeSnapshot_draws (s : State) (slot : BitVec 5) :
    (s.takeSnapshot slot).draws = s.draws := rfl

@[simp] theorem State.takeSnapshot_pending (s : State) (slot : BitVec 5) :
    (s.takeSnapshot slot).pending = s.pending := rfl

/-! ### Stages that replace one field -/

@[simp] theorem State.freePath_slots (s : State) :
    (s.freePath).slots = s.slots := rfl

@[simp] theorem State.freePath_doorReleased (s : State) :
    (s.freePath).doorReleased = s.doorReleased := rfl

@[simp] theorem State.freePath_crewKey (s : State) :
    (s.freePath).crewKey = s.crewKey := rfl

@[simp] theorem State.freePath_door (s : State) :
    (s.freePath).door = s.door := rfl

@[simp] theorem State.freePath_strings (s : State) :
    (s.freePath).strings = s.strings := rfl

@[simp] theorem State.freePath_buses (s : State) :
    (s.freePath).buses = s.buses := rfl

@[simp] theorem State.freePath_fire (s : State) :
    (s.freePath).fire = s.fire := rfl

@[simp] theorem State.freePath_cooling (s : State) :
    (s.freePath).cooling = s.cooling := rfl

@[simp] theorem State.freePath_contactors (s : State) :
    (s.freePath).contactors = s.contactors := rfl

@[simp] theorem State.freePath_serving (s : State) :
    (s.freePath).serving = servingAfter s.serving s.contactors := rfl

@[simp] theorem State.freePath_breaker (s : State) :
    (s.freePath).breaker = s.breaker := rfl

@[simp] theorem State.freePath_link (s : State) :
    (s.freePath).link = s.link := rfl

@[simp] theorem State.freePath_orderMemory (s : State) :
    (s.freePath).orderMemory = s.orderMemory := rfl

@[simp] theorem State.freePath_transaction (s : State) :
    (s.freePath).transaction = s.transaction := rfl

@[simp] theorem State.freePath_runner (s : State) :
    (s.freePath).runner = s.runner := rfl

@[simp] theorem State.freePath_attention (s : State) :
    (s.freePath).attention = s.attention := rfl

@[simp] theorem State.freePath_unit (s : State) :
    (s.freePath).unit = s.unit := rfl

@[simp] theorem State.freePath_now (s : State) :
    (s.freePath).now = s.now := rfl

@[simp] theorem State.freePath_loaded (s : State) :
    (s.freePath).loaded = s.loaded := rfl

@[simp] theorem State.freePath_answer (s : State) :
    (s.freePath).answer = s.answer := rfl

@[simp] theorem State.freePath_draws (s : State) :
    (s.freePath).draws = s.draws := rfl

@[simp] theorem State.freePath_pending (s : State) :
    (s.freePath).pending = s.pending := rfl

@[simp] theorem State.doorStage_slots (s : State) :
    (s.doorStage).slots = s.slots := rfl

@[simp] theorem State.doorStage_doorReleased (s : State) :
    (s.doorStage).doorReleased = s.entryLive := rfl

@[simp] theorem State.doorStage_crewKey (s : State) :
    (s.doorStage).crewKey = s.crewKey := rfl

@[simp] theorem State.doorStage_door (s : State) :
    (s.doorStage).door = s.door := rfl

@[simp] theorem State.doorStage_strings (s : State) :
    (s.doorStage).strings = s.strings := rfl

@[simp] theorem State.doorStage_buses (s : State) :
    (s.doorStage).buses = s.buses := rfl

@[simp] theorem State.doorStage_fire (s : State) :
    (s.doorStage).fire = s.fire := rfl

@[simp] theorem State.doorStage_cooling (s : State) :
    (s.doorStage).cooling = s.cooling := rfl

@[simp] theorem State.doorStage_contactors (s : State) :
    (s.doorStage).contactors = s.contactors := rfl

@[simp] theorem State.doorStage_serving (s : State) :
    (s.doorStage).serving = s.serving := rfl

@[simp] theorem State.doorStage_breaker (s : State) :
    (s.doorStage).breaker = s.breaker := rfl

@[simp] theorem State.doorStage_link (s : State) :
    (s.doorStage).link = s.link := rfl

@[simp] theorem State.doorStage_orderMemory (s : State) :
    (s.doorStage).orderMemory = s.orderMemory := rfl

@[simp] theorem State.doorStage_transaction (s : State) :
    (s.doorStage).transaction = s.transaction := rfl

@[simp] theorem State.doorStage_runner (s : State) :
    (s.doorStage).runner = s.runner := rfl

@[simp] theorem State.doorStage_attention (s : State) :
    (s.doorStage).attention = s.attention := rfl

@[simp] theorem State.doorStage_unit (s : State) :
    (s.doorStage).unit = s.unit := rfl

@[simp] theorem State.doorStage_now (s : State) :
    (s.doorStage).now = s.now := rfl

@[simp] theorem State.doorStage_loaded (s : State) :
    (s.doorStage).loaded = s.loaded := rfl

@[simp] theorem State.doorStage_answer (s : State) :
    (s.doorStage).answer = s.answer := rfl

@[simp] theorem State.doorStage_draws (s : State) :
    (s.doorStage).draws = s.draws := rfl

@[simp] theorem State.doorStage_pending (s : State) :
    (s.doorStage).pending = s.pending := rfl

@[simp] theorem State.coolStage_slots (s : State) :
    (s.coolStage).slots = s.slots := rfl

@[simp] theorem State.coolStage_doorReleased (s : State) :
    (s.coolStage).doorReleased = s.doorReleased := rfl

@[simp] theorem State.coolStage_crewKey (s : State) :
    (s.coolStage).crewKey = s.crewKey := rfl

@[simp] theorem State.coolStage_door (s : State) :
    (s.coolStage).door = s.door := rfl

@[simp] theorem State.coolStage_strings (s : State) :
    (s.coolStage).strings = s.strings := rfl

@[simp] theorem State.coolStage_buses (s : State) :
    (s.coolStage).buses = s.buses := rfl

@[simp] theorem State.coolStage_fire (s : State) :
    (s.coolStage).fire = s.fire := rfl

@[simp] theorem State.coolStage_cooling (s : State) :
    (s.coolStage).cooling = tab4 s.coolBay := rfl

@[simp] theorem State.coolStage_contactors (s : State) :
    (s.coolStage).contactors = s.contactors := rfl

@[simp] theorem State.coolStage_serving (s : State) :
    (s.coolStage).serving = s.serving := rfl

@[simp] theorem State.coolStage_breaker (s : State) :
    (s.coolStage).breaker = s.breaker := rfl

@[simp] theorem State.coolStage_link (s : State) :
    (s.coolStage).link = s.link := rfl

@[simp] theorem State.coolStage_orderMemory (s : State) :
    (s.coolStage).orderMemory = s.orderMemory := rfl

@[simp] theorem State.coolStage_transaction (s : State) :
    (s.coolStage).transaction = s.transaction := rfl

@[simp] theorem State.coolStage_runner (s : State) :
    (s.coolStage).runner = s.runner := rfl

@[simp] theorem State.coolStage_attention (s : State) :
    (s.coolStage).attention = s.attention := rfl

@[simp] theorem State.coolStage_unit (s : State) :
    (s.coolStage).unit = s.unit := rfl

@[simp] theorem State.coolStage_now (s : State) :
    (s.coolStage).now = s.now := rfl

@[simp] theorem State.coolStage_loaded (s : State) :
    (s.coolStage).loaded = s.loaded := rfl

@[simp] theorem State.coolStage_answer (s : State) :
    (s.coolStage).answer = s.answer := rfl

@[simp] theorem State.coolStage_draws (s : State) :
    (s.coolStage).draws = s.draws := rfl

@[simp] theorem State.coolStage_pending (s : State) :
    (s.coolStage).pending = s.pending := rfl

@[simp] theorem State.evaluateAll_slots (s : State) :
    (s.evaluateAll).slots = s.slots := rfl

@[simp] theorem State.evaluateAll_doorReleased (s : State) :
    (s.evaluateAll).doorReleased = s.doorReleased := rfl

@[simp] theorem State.evaluateAll_crewKey (s : State) :
    (s.evaluateAll).crewKey = s.crewKey := rfl

@[simp] theorem State.evaluateAll_door (s : State) :
    (s.evaluateAll).door = s.door := rfl

@[simp] theorem State.evaluateAll_strings (s : State) :
    (s.evaluateAll).strings = 
      tab8 fun i => s.strings[i].evaluate s.unit.active (s.conditions i) := rfl

@[simp] theorem State.evaluateAll_buses (s : State) :
    (s.evaluateAll).buses = s.buses := rfl

@[simp] theorem State.evaluateAll_fire (s : State) :
    (s.evaluateAll).fire = s.fire := rfl

@[simp] theorem State.evaluateAll_cooling (s : State) :
    (s.evaluateAll).cooling = s.cooling := rfl

@[simp] theorem State.evaluateAll_contactors (s : State) :
    (s.evaluateAll).contactors = s.contactors := rfl

@[simp] theorem State.evaluateAll_serving (s : State) :
    (s.evaluateAll).serving = s.serving := rfl

@[simp] theorem State.evaluateAll_breaker (s : State) :
    (s.evaluateAll).breaker = s.breaker := rfl

@[simp] theorem State.evaluateAll_link (s : State) :
    (s.evaluateAll).link = s.link := rfl

@[simp] theorem State.evaluateAll_orderMemory (s : State) :
    (s.evaluateAll).orderMemory = s.orderMemory := rfl

@[simp] theorem State.evaluateAll_transaction (s : State) :
    (s.evaluateAll).transaction = s.transaction := rfl

@[simp] theorem State.evaluateAll_runner (s : State) :
    (s.evaluateAll).runner = s.runner := rfl

@[simp] theorem State.evaluateAll_attention (s : State) :
    (s.evaluateAll).attention = s.attention := rfl

@[simp] theorem State.evaluateAll_unit (s : State) :
    (s.evaluateAll).unit = s.unit := rfl

@[simp] theorem State.evaluateAll_now (s : State) :
    (s.evaluateAll).now = s.now := rfl

@[simp] theorem State.evaluateAll_loaded (s : State) :
    (s.evaluateAll).loaded = s.loaded := rfl

@[simp] theorem State.evaluateAll_answer (s : State) :
    (s.evaluateAll).answer = s.answer := rfl

@[simp] theorem State.evaluateAll_draws (s : State) :
    (s.evaluateAll).draws = s.draws := rfl

@[simp] theorem State.evaluateAll_pending (s : State) :
    (s.evaluateAll).pending = s.pending := rfl

@[simp] theorem State.openBay_slots (s : State) (k : Fin 4) :
    (s.openBay k).slots = s.slots := rfl

@[simp] theorem State.openBay_doorReleased (s : State) (k : Fin 4) :
    (s.openBay k).doorReleased = s.doorReleased := rfl

@[simp] theorem State.openBay_crewKey (s : State) (k : Fin 4) :
    (s.openBay k).crewKey = s.crewKey := rfl

@[simp] theorem State.openBay_door (s : State) (k : Fin 4) :
    (s.openBay k).door = s.door := rfl

@[simp] theorem State.openBay_strings (s : State) (k : Fin 4) :
    (s.openBay k).strings = s.strings := rfl

@[simp] theorem State.openBay_buses (s : State) (k : Fin 4) :
    (s.openBay k).buses = s.buses := rfl

@[simp] theorem State.openBay_fire (s : State) (k : Fin 4) :
    (s.openBay k).fire = s.fire := rfl

@[simp] theorem State.openBay_cooling (s : State) (k : Fin 4) :
    (s.openBay k).cooling = s.cooling := rfl

@[simp] theorem State.openBay_contactors (s : State) (k : Fin 4) :
    (s.openBay k).contactors = 
      tab8 fun i => if bayOf i = k then s.contactors[i].openNow s.now else s.contactors[i] := rfl

@[simp] theorem State.openBay_serving (s : State) (k : Fin 4) :
    (s.openBay k).serving = s.serving := rfl

@[simp] theorem State.openBay_breaker (s : State) (k : Fin 4) :
    (s.openBay k).breaker = s.breaker := rfl

@[simp] theorem State.openBay_link (s : State) (k : Fin 4) :
    (s.openBay k).link = s.link := rfl

@[simp] theorem State.openBay_orderMemory (s : State) (k : Fin 4) :
    (s.openBay k).orderMemory = s.orderMemory := rfl

@[simp] theorem State.openBay_transaction (s : State) (k : Fin 4) :
    (s.openBay k).transaction = s.transaction := rfl

@[simp] theorem State.openBay_runner (s : State) (k : Fin 4) :
    (s.openBay k).runner = s.runner := rfl

@[simp] theorem State.openBay_attention (s : State) (k : Fin 4) :
    (s.openBay k).attention = s.attention := rfl

@[simp] theorem State.openBay_unit (s : State) (k : Fin 4) :
    (s.openBay k).unit = s.unit := rfl

@[simp] theorem State.openBay_now (s : State) (k : Fin 4) :
    (s.openBay k).now = s.now := rfl

@[simp] theorem State.openBay_loaded (s : State) (k : Fin 4) :
    (s.openBay k).loaded = s.loaded := rfl

@[simp] theorem State.openBay_answer (s : State) (k : Fin 4) :
    (s.openBay k).answer = s.answer := rfl

@[simp] theorem State.openBay_draws (s : State) (k : Fin 4) :
    (s.openBay k).draws = s.draws := rfl

@[simp] theorem State.openBay_pending (s : State) (k : Fin 4) :
    (s.openBay k).pending = s.pending := rfl

@[simp] theorem State.enqueue_slots (s : State) (r : OutFrame) :
    (s.enqueue r).slots = s.slots := rfl

@[simp] theorem State.enqueue_doorReleased (s : State) (r : OutFrame) :
    (s.enqueue r).doorReleased = s.doorReleased := rfl

@[simp] theorem State.enqueue_crewKey (s : State) (r : OutFrame) :
    (s.enqueue r).crewKey = s.crewKey := rfl

@[simp] theorem State.enqueue_door (s : State) (r : OutFrame) :
    (s.enqueue r).door = s.door := rfl

@[simp] theorem State.enqueue_strings (s : State) (r : OutFrame) :
    (s.enqueue r).strings = s.strings := rfl

@[simp] theorem State.enqueue_buses (s : State) (r : OutFrame) :
    (s.enqueue r).buses = s.buses := rfl

@[simp] theorem State.enqueue_fire (s : State) (r : OutFrame) :
    (s.enqueue r).fire = s.fire := rfl

@[simp] theorem State.enqueue_cooling (s : State) (r : OutFrame) :
    (s.enqueue r).cooling = s.cooling := rfl

@[simp] theorem State.enqueue_contactors (s : State) (r : OutFrame) :
    (s.enqueue r).contactors = s.contactors := rfl

@[simp] theorem State.enqueue_serving (s : State) (r : OutFrame) :
    (s.enqueue r).serving = s.serving := rfl

@[simp] theorem State.enqueue_breaker (s : State) (r : OutFrame) :
    (s.enqueue r).breaker = s.breaker := rfl

@[simp] theorem State.enqueue_link (s : State) (r : OutFrame) :
    (s.enqueue r).link = { s.link with queue := s.link.queue ++ [r] } := rfl

@[simp] theorem State.enqueue_orderMemory (s : State) (r : OutFrame) :
    (s.enqueue r).orderMemory = s.orderMemory := rfl

@[simp] theorem State.enqueue_transaction (s : State) (r : OutFrame) :
    (s.enqueue r).transaction = s.transaction := rfl

@[simp] theorem State.enqueue_runner (s : State) (r : OutFrame) :
    (s.enqueue r).runner = s.runner := rfl

@[simp] theorem State.enqueue_attention (s : State) (r : OutFrame) :
    (s.enqueue r).attention = s.attention := rfl

@[simp] theorem State.enqueue_unit (s : State) (r : OutFrame) :
    (s.enqueue r).unit = s.unit := rfl

@[simp] theorem State.enqueue_now (s : State) (r : OutFrame) :
    (s.enqueue r).now = s.now := rfl

@[simp] theorem State.enqueue_loaded (s : State) (r : OutFrame) :
    (s.enqueue r).loaded = s.loaded := rfl

@[simp] theorem State.enqueue_answer (s : State) (r : OutFrame) :
    (s.enqueue r).answer = s.answer := rfl

@[simp] theorem State.enqueue_draws (s : State) (r : OutFrame) :
    (s.enqueue r).draws = s.draws := rfl

@[simp] theorem State.enqueue_pending (s : State) (r : OutFrame) :
    (s.enqueue r).pending = s.pending := rfl

/-! ### Flags -/

/-- The attention line follows flags and enables after every one of its operations. -/
@[simp] theorem Attention.raise_line (a : Attention) (f : Flag) :
    (a.raise f).line = (((a.raise f).flags &&& (a.raise f).enables) != 0) := rfl

@[simp] theorem Attention.raise_flags (a : Attention) (f : Flag) : (a.raise f).flags = a.flags ||| f.mask := rfl

@[simp] theorem Attention.raise_enables (a : Attention) (f : Flag) : (a.raise f).enables = a.enables := rfl

@[simp] theorem Attention.clear_line (a : Attention) (w : Word) :
    (a.clear w).line = (((a.clear w).flags &&& (a.clear w).enables) != 0) := rfl

@[simp] theorem Attention.clear_flags (a : Attention) (w : Word) :
    (a.clear w).flags = a.flags &&& ~~~(w.extractLsb' 0 10) := rfl

@[simp] theorem Attention.clear_enables (a : Attention) (w : Word) : (a.clear w).enables = a.enables := rfl

@[simp] theorem Attention.enable_line (a : Attention) (w : Word) :
    (a.enable w).line = (((a.enable w).flags &&& (a.enable w).enables) != 0) := rfl

@[simp] theorem Attention.enable_flags (a : Attention) (w : Word) : (a.enable w).flags = a.flags := rfl

@[simp] theorem Attention.enable_enables (a : Attention) (w : Word) : (a.enable w).enables = w.extractLsb' 0 10 := rfl

end Sys2Proof.Machine
end

