-- ==== Sys2Proof/Laws/Frames.lean ====
section
/-! SUPPORT. The frame of every shared operation: one lemma an operation that says which fields it may change, and one
`@[simp]` lemma for every field that it leaves as it was. -/

namespace Sys2Proof.Machine

/-! ### Folds -/

/-- A reflexive and transitive relation that every turn of a fold keeps holds across the fold. -/
theorem foldl_rel {α σ : Type} (R : σ → σ → Prop) (refl : ∀ s, R s s) (trans : ∀ a b c, R a b → R b c → R a c)
    (g : σ → α → σ) (h : ∀ t i, R t (g t i)) (l : List α) (s : σ) : R s (l.foldl g s) := by
  induction l generalizing s with
  | nil => exact refl s
  | cons x xs ih => exact trans _ _ _ (h s x) (ih (g s x))

/-- A property that every turn of a fold keeps holds after the fold. -/
theorem foldl_keeps {α σ : Type} (P : σ → Prop) (g : σ → α → σ) (h : ∀ t i, P t → P (g t i)) (l : List α) (s : σ)
    (hs : P s) : P (l.foldl g s) := by
  induction l generalizing s with
  | nil => exact hs
  | cons x xs ih => exact ih (g s x) (h s x hs)

/-! ### Flags and the breaker -/

/-- A flag raised changes attention alone. -/
theorem State.raiseIf_frame (s : State) (c : Bool) (f : Flag) :
    ∃ x0, s.raiseIf c f = { s with attention := x0 } := by
  cases c <;> exact ⟨_, rfl⟩

/-- The Breaker Record after it was replaced. -/
@[simp] theorem State.setBreaker_breaker (s : State) (b : Breaker) : (s.setBreaker b).breaker = b := by
  simp [State.setBreaker]

/-- The Breaker Record replaced: breaker and attention alone. -/
theorem State.setBreaker_frame (s : State) (b : Breaker) :
    ∃ x0 x1, s.setBreaker b = { s with breaker := x0, attention := x1 } := by
  obtain ⟨x, h⟩ := State.raiseIf_frame { s with breaker := b } (b.state.code != s.breaker.state.code) .connection
  exact ⟨b, x, h⟩

@[simp] theorem State.setBreaker_slots (s : State) (b : Breaker) :
    (s.setBreaker b).slots = s.slots := by
  obtain ⟨_, _, h⟩ := State.setBreaker_frame s b; rw [h]

@[simp] theorem State.setBreaker_doorReleased (s : State) (b : Breaker) :
    (s.setBreaker b).doorReleased = s.doorReleased := by
  obtain ⟨_, _, h⟩ := State.setBreaker_frame s b; rw [h]

@[simp] theorem State.setBreaker_crewKey (s : State) (b : Breaker) :
    (s.setBreaker b).crewKey = s.crewKey := by
  obtain ⟨_, _, h⟩ := State.setBreaker_frame s b; rw [h]

@[simp] theorem State.setBreaker_door (s : State) (b : Breaker) :
    (s.setBreaker b).door = s.door := by
  obtain ⟨_, _, h⟩ := State.setBreaker_frame s b; rw [h]

@[simp] theorem State.setBreaker_strings (s : State) (b : Breaker) :
    (s.setBreaker b).strings = s.strings := by
  obtain ⟨_, _, h⟩ := State.setBreaker_frame s b; rw [h]

@[simp] theorem State.setBreaker_buses (s : State) (b : Breaker) :
    (s.setBreaker b).buses = s.buses := by
  obtain ⟨_, _, h⟩ := State.setBreaker_frame s b; rw [h]

@[simp] theorem State.setBreaker_fire (s : State) (b : Breaker) :
    (s.setBreaker b).fire = s.fire := by
  obtain ⟨_, _, h⟩ := State.setBreaker_frame s b; rw [h]

@[simp] theorem State.setBreaker_cooling (s : State) (b : Breaker) :
    (s.setBreaker b).cooling = s.cooling := by
  obtain ⟨_, _, h⟩ := State.setBreaker_frame s b; rw [h]

@[simp] theorem State.setBreaker_contactors (s : State) (b : Breaker) :
    (s.setBreaker b).contactors = s.contactors := by
  obtain ⟨_, _, h⟩ := State.setBreaker_frame s b; rw [h]

@[simp] theorem State.setBreaker_serving (s : State) (b : Breaker) :
    (s.setBreaker b).serving = s.serving := by
  obtain ⟨_, _, h⟩ := State.setBreaker_frame s b; rw [h]

@[simp] theorem State.setBreaker_link (s : State) (b : Breaker) :
    (s.setBreaker b).link = s.link := by
  obtain ⟨_, _, h⟩ := State.setBreaker_frame s b; rw [h]

@[simp] theorem State.setBreaker_orderMemory (s : State) (b : Breaker) :
    (s.setBreaker b).orderMemory = s.orderMemory := by
  obtain ⟨_, _, h⟩ := State.setBreaker_frame s b; rw [h]

@[simp] theorem State.setBreaker_transaction (s : State) (b : Breaker) :
    (s.setBreaker b).transaction = s.transaction := by
  obtain ⟨_, _, h⟩ := State.setBreaker_frame s b; rw [h]

@[simp] theorem State.setBreaker_runner (s : State) (b : Breaker) :
    (s.setBreaker b).runner = s.runner := by
  obtain ⟨_, _, h⟩ := State.setBreaker_frame s b; rw [h]

@[simp] theorem State.setBreaker_unit (s : State) (b : Breaker) :
    (s.setBreaker b).unit = s.unit := by
  obtain ⟨_, _, h⟩ := State.setBreaker_frame s b; rw [h]

@[simp] theorem State.setBreaker_now (s : State) (b : Breaker) :
    (s.setBreaker b).now = s.now := by
  obtain ⟨_, _, h⟩ := State.setBreaker_frame s b; rw [h]

@[simp] theorem State.setBreaker_loaded (s : State) (b : Breaker) :
    (s.setBreaker b).loaded = s.loaded := by
  obtain ⟨_, _, h⟩ := State.setBreaker_frame s b; rw [h]

@[simp] theorem State.setBreaker_answer (s : State) (b : Breaker) :
    (s.setBreaker b).answer = s.answer := by
  obtain ⟨_, _, h⟩ := State.setBreaker_frame s b; rw [h]

@[simp] theorem State.setBreaker_draws (s : State) (b : Breaker) :
    (s.setBreaker b).draws = s.draws := by
  obtain ⟨_, _, h⟩ := State.setBreaker_frame s b; rw [h]

@[simp] theorem State.setBreaker_pending (s : State) (b : Breaker) :
    (s.setBreaker b).pending = s.pending := by
  obtain ⟨_, _, h⟩ := State.setBreaker_frame s b; rw [h]

/-- A normal opening: breaker and attention alone. -/
theorem State.openBreaker_frame (s : State) :
    ∃ x0 x1, s.openBreaker = { s with breaker := x0, attention := x1 } := State.setBreaker_frame s _

@[simp] theorem State.openBreaker_slots (s : State) :
    (s.openBreaker).slots = s.slots := by
  obtain ⟨_, _, h⟩ := State.openBreaker_frame s; rw [h]

@[simp] theorem State.openBreaker_doorReleased (s : State) :
    (s.openBreaker).doorReleased = s.doorReleased := by
  obtain ⟨_, _, h⟩ := State.openBreaker_frame s; rw [h]

@[simp] theorem State.openBreaker_crewKey (s : State) :
    (s.openBreaker).crewKey = s.crewKey := by
  obtain ⟨_, _, h⟩ := State.openBreaker_frame s; rw [h]

@[simp] theorem State.openBreaker_door (s : State) :
    (s.openBreaker).door = s.door := by
  obtain ⟨_, _, h⟩ := State.openBreaker_frame s; rw [h]

@[simp] theorem State.openBreaker_strings (s : State) :
    (s.openBreaker).strings = s.strings := by
  obtain ⟨_, _, h⟩ := State.openBreaker_frame s; rw [h]

@[simp] theorem State.openBreaker_buses (s : State) :
    (s.openBreaker).buses = s.buses := by
  obtain ⟨_, _, h⟩ := State.openBreaker_frame s; rw [h]

@[simp] theorem State.openBreaker_fire (s : State) :
    (s.openBreaker).fire = s.fire := by
  obtain ⟨_, _, h⟩ := State.openBreaker_frame s; rw [h]

@[simp] theorem State.openBreaker_cooling (s : State) :
    (s.openBreaker).cooling = s.cooling := by
  obtain ⟨_, _, h⟩ := State.openBreaker_frame s; rw [h]

@[simp] theorem State.openBreaker_contactors (s : State) :
    (s.openBreaker).contactors = s.contactors := by
  obtain ⟨_, _, h⟩ := State.openBreaker_frame s; rw [h]

@[simp] theorem State.openBreaker_serving (s : State) :
    (s.openBreaker).serving = s.serving := by
  obtain ⟨_, _, h⟩ := State.openBreaker_frame s; rw [h]

@[simp] theorem State.openBreaker_link (s : State) :
    (s.openBreaker).link = s.link := by
  obtain ⟨_, _, h⟩ := State.openBreaker_frame s; rw [h]

@[simp] theorem State.openBreaker_orderMemory (s : State) :
    (s.openBreaker).orderMemory = s.orderMemory := by
  obtain ⟨_, _, h⟩ := State.openBreaker_frame s; rw [h]

@[simp] theorem State.openBreaker_transaction (s : State) :
    (s.openBreaker).transaction = s.transaction := by
  obtain ⟨_, _, h⟩ := State.openBreaker_frame s; rw [h]

@[simp] theorem State.openBreaker_runner (s : State) :
    (s.openBreaker).runner = s.runner := by
  obtain ⟨_, _, h⟩ := State.openBreaker_frame s; rw [h]

@[simp] theorem State.openBreaker_unit (s : State) :
    (s.openBreaker).unit = s.unit := by
  obtain ⟨_, _, h⟩ := State.openBreaker_frame s; rw [h]

@[simp] theorem State.openBreaker_now (s : State) :
    (s.openBreaker).now = s.now := by
  obtain ⟨_, _, h⟩ := State.openBreaker_frame s; rw [h]

@[simp] theorem State.openBreaker_loaded (s : State) :
    (s.openBreaker).loaded = s.loaded := by
  obtain ⟨_, _, h⟩ := State.openBreaker_frame s; rw [h]

@[simp] theorem State.openBreaker_answer (s : State) :
    (s.openBreaker).answer = s.answer := by
  obtain ⟨_, _, h⟩ := State.openBreaker_frame s; rw [h]

@[simp] theorem State.openBreaker_draws (s : State) :
    (s.openBreaker).draws = s.draws := by
  obtain ⟨_, _, h⟩ := State.openBreaker_frame s; rw [h]

@[simp] theorem State.openBreaker_pending (s : State) :
    (s.openBreaker).pending = s.pending := by
  obtain ⟨_, _, h⟩ := State.openBreaker_frame s; rw [h]

/-- A trip: breaker and attention alone. -/
theorem State.tripBreaker_frame (s : State) :
    ∃ x0 x1, s.tripBreaker = { s with breaker := x0, attention := x1 } := State.setBreaker_frame s _

@[simp] theorem State.tripBreaker_slots (s : State) :
    (s.tripBreaker).slots = s.slots := by
  obtain ⟨_, _, h⟩ := State.tripBreaker_frame s; rw [h]

@[simp] theorem State.tripBreaker_doorReleased (s : State) :
    (s.tripBreaker).doorReleased = s.doorReleased := by
  obtain ⟨_, _, h⟩ := State.tripBreaker_frame s; rw [h]

@[simp] theorem State.tripBreaker_crewKey (s : State) :
    (s.tripBreaker).crewKey = s.crewKey := by
  obtain ⟨_, _, h⟩ := State.tripBreaker_frame s; rw [h]

@[simp] theorem State.tripBreaker_door (s : State) :
    (s.tripBreaker).door = s.door := by
  obtain ⟨_, _, h⟩ := State.tripBreaker_frame s; rw [h]

@[simp] theorem State.tripBreaker_strings (s : State) :
    (s.tripBreaker).strings = s.strings := by
  obtain ⟨_, _, h⟩ := State.tripBreaker_frame s; rw [h]

@[simp] theorem State.tripBreaker_buses (s : State) :
    (s.tripBreaker).buses = s.buses := by
  obtain ⟨_, _, h⟩ := State.tripBreaker_frame s; rw [h]

@[simp] theorem State.tripBreaker_fire (s : State) :
    (s.tripBreaker).fire = s.fire := by
  obtain ⟨_, _, h⟩ := State.tripBreaker_frame s; rw [h]

@[simp] theorem State.tripBreaker_cooling (s : State) :
    (s.tripBreaker).cooling = s.cooling := by
  obtain ⟨_, _, h⟩ := State.tripBreaker_frame s; rw [h]

@[simp] theorem State.tripBreaker_contactors (s : State) :
    (s.tripBreaker).contactors = s.contactors := by
  obtain ⟨_, _, h⟩ := State.tripBreaker_frame s; rw [h]

@[simp] theorem State.tripBreaker_serving (s : State) :
    (s.tripBreaker).serving = s.serving := by
  obtain ⟨_, _, h⟩ := State.tripBreaker_frame s; rw [h]

@[simp] theorem State.tripBreaker_link (s : State) :
    (s.tripBreaker).link = s.link := by
  obtain ⟨_, _, h⟩ := State.tripBreaker_frame s; rw [h]

@[simp] theorem State.tripBreaker_orderMemory (s : State) :
    (s.tripBreaker).orderMemory = s.orderMemory := by
  obtain ⟨_, _, h⟩ := State.tripBreaker_frame s; rw [h]

@[simp] theorem State.tripBreaker_transaction (s : State) :
    (s.tripBreaker).transaction = s.transaction := by
  obtain ⟨_, _, h⟩ := State.tripBreaker_frame s; rw [h]

@[simp] theorem State.tripBreaker_runner (s : State) :
    (s.tripBreaker).runner = s.runner := by
  obtain ⟨_, _, h⟩ := State.tripBreaker_frame s; rw [h]

@[simp] theorem State.tripBreaker_unit (s : State) :
    (s.tripBreaker).unit = s.unit := by
  obtain ⟨_, _, h⟩ := State.tripBreaker_frame s; rw [h]

@[simp] theorem State.tripBreaker_now (s : State) :
    (s.tripBreaker).now = s.now := by
  obtain ⟨_, _, h⟩ := State.tripBreaker_frame s; rw [h]

@[simp] theorem State.tripBreaker_loaded (s : State) :
    (s.tripBreaker).loaded = s.loaded := by
  obtain ⟨_, _, h⟩ := State.tripBreaker_frame s; rw [h]

@[simp] theorem State.tripBreaker_answer (s : State) :
    (s.tripBreaker).answer = s.answer := by
  obtain ⟨_, _, h⟩ := State.tripBreaker_frame s; rw [h]

@[simp] theorem State.tripBreaker_draws (s : State) :
    (s.tripBreaker).draws = s.draws := by
  obtain ⟨_, _, h⟩ := State.tripBreaker_frame s; rw [h]

@[simp] theorem State.tripBreaker_pending (s : State) :
    (s.tripBreaker).pending = s.pending := by
  obtain ⟨_, _, h⟩ := State.tripBreaker_frame s; rw [h]

/-- A closing: breaker and attention alone. -/
theorem State.closeBreaker_frame (s : State) :
    ∃ x0 x1, s.closeBreaker = { s with breaker := x0, attention := x1 } := State.setBreaker_frame s _

@[simp] theorem State.closeBreaker_slots (s : State) :
    (s.closeBreaker).slots = s.slots := by
  obtain ⟨_, _, h⟩ := State.closeBreaker_frame s; rw [h]

@[simp] theorem State.closeBreaker_doorReleased (s : State) :
    (s.closeBreaker).doorReleased = s.doorReleased := by
  obtain ⟨_, _, h⟩ := State.closeBreaker_frame s; rw [h]

@[simp] theorem State.closeBreaker_crewKey (s : State) :
    (s.closeBreaker).crewKey = s.crewKey := by
  obtain ⟨_, _, h⟩ := State.closeBreaker_frame s; rw [h]

@[simp] theorem State.closeBreaker_door (s : State) :
    (s.closeBreaker).door = s.door := by
  obtain ⟨_, _, h⟩ := State.closeBreaker_frame s; rw [h]

@[simp] theorem State.closeBreaker_strings (s : State) :
    (s.closeBreaker).strings = s.strings := by
  obtain ⟨_, _, h⟩ := State.closeBreaker_frame s; rw [h]

@[simp] theorem State.closeBreaker_buses (s : State) :
    (s.closeBreaker).buses = s.buses := by
  obtain ⟨_, _, h⟩ := State.closeBreaker_frame s; rw [h]

@[simp] theorem State.closeBreaker_fire (s : State) :
    (s.closeBreaker).fire = s.fire := by
  obtain ⟨_, _, h⟩ := State.closeBreaker_frame s; rw [h]

@[simp] theorem State.closeBreaker_cooling (s : State) :
    (s.closeBreaker).cooling = s.cooling := by
  obtain ⟨_, _, h⟩ := State.closeBreaker_frame s; rw [h]

@[simp] theorem State.closeBreaker_contactors (s : State) :
    (s.closeBreaker).contactors = s.contactors := by
  obtain ⟨_, _, h⟩ := State.closeBreaker_frame s; rw [h]

@[simp] theorem State.closeBreaker_serving (s : State) :
    (s.closeBreaker).serving = s.serving := by
  obtain ⟨_, _, h⟩ := State.closeBreaker_frame s; rw [h]

@[simp] theorem State.closeBreaker_link (s : State) :
    (s.closeBreaker).link = s.link := by
  obtain ⟨_, _, h⟩ := State.closeBreaker_frame s; rw [h]

@[simp] theorem State.closeBreaker_orderMemory (s : State) :
    (s.closeBreaker).orderMemory = s.orderMemory := by
  obtain ⟨_, _, h⟩ := State.closeBreaker_frame s; rw [h]

@[simp] theorem State.closeBreaker_transaction (s : State) :
    (s.closeBreaker).transaction = s.transaction := by
  obtain ⟨_, _, h⟩ := State.closeBreaker_frame s; rw [h]

@[simp] theorem State.closeBreaker_runner (s : State) :
    (s.closeBreaker).runner = s.runner := by
  obtain ⟨_, _, h⟩ := State.closeBreaker_frame s; rw [h]

@[simp] theorem State.closeBreaker_unit (s : State) :
    (s.closeBreaker).unit = s.unit := by
  obtain ⟨_, _, h⟩ := State.closeBreaker_frame s; rw [h]

@[simp] theorem State.closeBreaker_now (s : State) :
    (s.closeBreaker).now = s.now := by
  obtain ⟨_, _, h⟩ := State.closeBreaker_frame s; rw [h]

@[simp] theorem State.closeBreaker_loaded (s : State) :
    (s.closeBreaker).loaded = s.loaded := by
  obtain ⟨_, _, h⟩ := State.closeBreaker_frame s; rw [h]

@[simp] theorem State.closeBreaker_answer (s : State) :
    (s.closeBreaker).answer = s.answer := by
  obtain ⟨_, _, h⟩ := State.closeBreaker_frame s; rw [h]

@[simp] theorem State.closeBreaker_draws (s : State) :
    (s.closeBreaker).draws = s.draws := by
  obtain ⟨_, _, h⟩ := State.closeBreaker_frame s; rw [h]

@[simp] theorem State.closeBreaker_pending (s : State) :
    (s.closeBreaker).pending = s.pending := by
  obtain ⟨_, _, h⟩ := State.closeBreaker_frame s; rw [h]

/-- The hand-off of a CONNECT that is gone: breaker and attention alone. -/
theorem State.connectGone_frame (s : State) (p : Permit) (fire : Bool) :
    ∃ x0 x1, s.connectGone p fire = { s with breaker := x0, attention := x1 } := by
  simp only [State.connectGone]
  split
  · split
    · obtain ⟨_, _, h⟩ := State.tripBreaker_frame s; rw [h]; exact ⟨_, _, rfl⟩
    · obtain ⟨_, _, h⟩ := State.openBreaker_frame s; rw [h]; exact ⟨_, _, rfl⟩
  · exact ⟨_, _, rfl⟩

@[simp] theorem State.connectGone_slots (s : State) (p : Permit) (fire : Bool) :
    (s.connectGone p fire).slots = s.slots := by
  obtain ⟨_, _, h⟩ := State.connectGone_frame s p fire; rw [h]

@[simp] theorem State.connectGone_doorReleased (s : State) (p : Permit) (fire : Bool) :
    (s.connectGone p fire).doorReleased = s.doorReleased := by
  obtain ⟨_, _, h⟩ := State.connectGone_frame s p fire; rw [h]

@[simp] theorem State.connectGone_crewKey (s : State) (p : Permit) (fire : Bool) :
    (s.connectGone p fire).crewKey = s.crewKey := by
  obtain ⟨_, _, h⟩ := State.connectGone_frame s p fire; rw [h]

@[simp] theorem State.connectGone_door (s : State) (p : Permit) (fire : Bool) :
    (s.connectGone p fire).door = s.door := by
  obtain ⟨_, _, h⟩ := State.connectGone_frame s p fire; rw [h]

@[simp] theorem State.connectGone_strings (s : State) (p : Permit) (fire : Bool) :
    (s.connectGone p fire).strings = s.strings := by
  obtain ⟨_, _, h⟩ := State.connectGone_frame s p fire; rw [h]

@[simp] theorem State.connectGone_buses (s : State) (p : Permit) (fire : Bool) :
    (s.connectGone p fire).buses = s.buses := by
  obtain ⟨_, _, h⟩ := State.connectGone_frame s p fire; rw [h]

@[simp] theorem State.connectGone_fire (s : State) (p : Permit) (fire : Bool) :
    (s.connectGone p fire).fire = s.fire := by
  obtain ⟨_, _, h⟩ := State.connectGone_frame s p fire; rw [h]

@[simp] theorem State.connectGone_cooling (s : State) (p : Permit) (fire : Bool) :
    (s.connectGone p fire).cooling = s.cooling := by
  obtain ⟨_, _, h⟩ := State.connectGone_frame s p fire; rw [h]

@[simp] theorem State.connectGone_contactors (s : State) (p : Permit) (fire : Bool) :
    (s.connectGone p fire).contactors = s.contactors := by
  obtain ⟨_, _, h⟩ := State.connectGone_frame s p fire; rw [h]

@[simp] theorem State.connectGone_serving (s : State) (p : Permit) (fire : Bool) :
    (s.connectGone p fire).serving = s.serving := by
  obtain ⟨_, _, h⟩ := State.connectGone_frame s p fire; rw [h]

@[simp] theorem State.connectGone_link (s : State) (p : Permit) (fire : Bool) :
    (s.connectGone p fire).link = s.link := by
  obtain ⟨_, _, h⟩ := State.connectGone_frame s p fire; rw [h]

@[simp] theorem State.connectGone_orderMemory (s : State) (p : Permit) (fire : Bool) :
    (s.connectGone p fire).orderMemory = s.orderMemory := by
  obtain ⟨_, _, h⟩ := State.connectGone_frame s p fire; rw [h]

@[simp] theorem State.connectGone_transaction (s : State) (p : Permit) (fire : Bool) :
    (s.connectGone p fire).transaction = s.transaction := by
  obtain ⟨_, _, h⟩ := State.connectGone_frame s p fire; rw [h]

@[simp] theorem State.connectGone_runner (s : State) (p : Permit) (fire : Bool) :
    (s.connectGone p fire).runner = s.runner := by
  obtain ⟨_, _, h⟩ := State.connectGone_frame s p fire; rw [h]

@[simp] theorem State.connectGone_unit (s : State) (p : Permit) (fire : Bool) :
    (s.connectGone p fire).unit = s.unit := by
  obtain ⟨_, _, h⟩ := State.connectGone_frame s p fire; rw [h]

@[simp] theorem State.connectGone_now (s : State) (p : Permit) (fire : Bool) :
    (s.connectGone p fire).now = s.now := by
  obtain ⟨_, _, h⟩ := State.connectGone_frame s p fire; rw [h]

@[simp] theorem State.connectGone_loaded (s : State) (p : Permit) (fire : Bool) :
    (s.connectGone p fire).loaded = s.loaded := by
  obtain ⟨_, _, h⟩ := State.connectGone_frame s p fire; rw [h]

@[simp] theorem State.connectGone_answer (s : State) (p : Permit) (fire : Bool) :
    (s.connectGone p fire).answer = s.answer := by
  obtain ⟨_, _, h⟩ := State.connectGone_frame s p fire; rw [h]

@[simp] theorem State.connectGone_draws (s : State) (p : Permit) (fire : Bool) :
    (s.connectGone p fire).draws = s.draws := by
  obtain ⟨_, _, h⟩ := State.connectGone_frame s p fire; rw [h]

@[simp] theorem State.connectGone_pending (s : State) (p : Permit) (fire : Bool) :
    (s.connectGone p fire).pending = s.pending := by
  obtain ⟨_, _, h⟩ := State.connectGone_frame s p fire; rw [h]

/-! ### The Permit Manager -/

/-- A retarget: slots and attention alone. -/
theorem State.retargetSlot_frame (s : State) (src : Source) (i : Fin 48) :
    ∃ x0 x1, s.retargetSlot src i = { s with slots := x0, attention := x1 } := by
  simp only [State.retargetSlot]
  split
  · exact ⟨_, _, rfl⟩
  · obtain ⟨_, h⟩ := State.raiseIf_frame (s.setPermit i _) _ .permit; rw [h]; exact ⟨_, _, rfl⟩

@[simp] theorem State.retargetSlot_doorReleased (s : State) (src : Source) (i : Fin 48) :
    (s.retargetSlot src i).doorReleased = s.doorReleased := by
  obtain ⟨_, _, h⟩ := State.retargetSlot_frame s src i; rw [h]

@[simp] theorem State.retargetSlot_crewKey (s : State) (src : Source) (i : Fin 48) :
    (s.retargetSlot src i).crewKey = s.crewKey := by
  obtain ⟨_, _, h⟩ := State.retargetSlot_frame s src i; rw [h]

@[simp] theorem State.retargetSlot_door (s : State) (src : Source) (i : Fin 48) :
    (s.retargetSlot src i).door = s.door := by
  obtain ⟨_, _, h⟩ := State.retargetSlot_frame s src i; rw [h]

@[simp] theorem State.retargetSlot_strings (s : State) (src : Source) (i : Fin 48) :
    (s.retargetSlot src i).strings = s.strings := by
  obtain ⟨_, _, h⟩ := State.retargetSlot_frame s src i; rw [h]

@[simp] theorem State.retargetSlot_buses (s : State) (src : Source) (i : Fin 48) :
    (s.retargetSlot src i).buses = s.buses := by
  obtain ⟨_, _, h⟩ := State.retargetSlot_frame s src i; rw [h]

@[simp] theorem State.retargetSlot_fire (s : State) (src : Source) (i : Fin 48) :
    (s.retargetSlot src i).fire = s.fire := by
  obtain ⟨_, _, h⟩ := State.retargetSlot_frame s src i; rw [h]

@[simp] theorem State.retargetSlot_cooling (s : State) (src : Source) (i : Fin 48) :
    (s.retargetSlot src i).cooling = s.cooling := by
  obtain ⟨_, _, h⟩ := State.retargetSlot_frame s src i; rw [h]

@[simp] theorem State.retargetSlot_contactors (s : State) (src : Source) (i : Fin 48) :
    (s.retargetSlot src i).contactors = s.contactors := by
  obtain ⟨_, _, h⟩ := State.retargetSlot_frame s src i; rw [h]

@[simp] theorem State.retargetSlot_serving (s : State) (src : Source) (i : Fin 48) :
    (s.retargetSlot src i).serving = s.serving := by
  obtain ⟨_, _, h⟩ := State.retargetSlot_frame s src i; rw [h]

@[simp] theorem State.retargetSlot_breaker (s : State) (src : Source) (i : Fin 48) :
    (s.retargetSlot src i).breaker = s.breaker := by
  obtain ⟨_, _, h⟩ := State.retargetSlot_frame s src i; rw [h]

@[simp] theorem State.retargetSlot_link (s : State) (src : Source) (i : Fin 48) :
    (s.retargetSlot src i).link = s.link := by
  obtain ⟨_, _, h⟩ := State.retargetSlot_frame s src i; rw [h]

@[simp] theorem State.retargetSlot_orderMemory (s : State) (src : Source) (i : Fin 48) :
    (s.retargetSlot src i).orderMemory = s.orderMemory := by
  obtain ⟨_, _, h⟩ := State.retargetSlot_frame s src i; rw [h]

@[simp] theorem State.retargetSlot_transaction (s : State) (src : Source) (i : Fin 48) :
    (s.retargetSlot src i).transaction = s.transaction := by
  obtain ⟨_, _, h⟩ := State.retargetSlot_frame s src i; rw [h]

@[simp] theorem State.retargetSlot_runner (s : State) (src : Source) (i : Fin 48) :
    (s.retargetSlot src i).runner = s.runner := by
  obtain ⟨_, _, h⟩ := State.retargetSlot_frame s src i; rw [h]

@[simp] theorem State.retargetSlot_unit (s : State) (src : Source) (i : Fin 48) :
    (s.retargetSlot src i).unit = s.unit := by
  obtain ⟨_, _, h⟩ := State.retargetSlot_frame s src i; rw [h]

@[simp] theorem State.retargetSlot_now (s : State) (src : Source) (i : Fin 48) :
    (s.retargetSlot src i).now = s.now := by
  obtain ⟨_, _, h⟩ := State.retargetSlot_frame s src i; rw [h]

@[simp] theorem State.retargetSlot_loaded (s : State) (src : Source) (i : Fin 48) :
    (s.retargetSlot src i).loaded = s.loaded := by
  obtain ⟨_, _, h⟩ := State.retargetSlot_frame s src i; rw [h]

@[simp] theorem State.retargetSlot_answer (s : State) (src : Source) (i : Fin 48) :
    (s.retargetSlot src i).answer = s.answer := by
  obtain ⟨_, _, h⟩ := State.retargetSlot_frame s src i; rw [h]

@[simp] theorem State.retargetSlot_draws (s : State) (src : Source) (i : Fin 48) :
    (s.retargetSlot src i).draws = s.draws := by
  obtain ⟨_, _, h⟩ := State.retargetSlot_frame s src i; rw [h]

@[simp] theorem State.retargetSlot_pending (s : State) (src : Source) (i : Fin 48) :
    (s.retargetSlot src i).pending = s.pending := by
  obtain ⟨_, _, h⟩ := State.retargetSlot_frame s src i; rw [h]

/-- A revocation: slots, breaker and attention alone. -/
theorem State.revokeSlot_frame (s : State) (reason : Reason) (byOrder : Bool) (i : Fin 48) :
    ∃ x0 x1 x2, s.revokeSlot reason byOrder i = { s with slots := x0, breaker := x1, attention := x2 } := by
  simp only [State.revokeSlot]
  split
  · exact ⟨_, _, _, rfl⟩
  · split
    · obtain ⟨_, _, h⟩ := State.connectGone_frame ((s.setPermit i _).raiseIf (!byOrder) .permit) _ _
      obtain ⟨_, h2⟩ := State.raiseIf_frame (s.setPermit i _) (!byOrder) .permit
      rw [h, h2]; exact ⟨_, _, _, rfl⟩
    · exact ⟨_, _, _, rfl⟩

@[simp] theorem State.revokeSlot_doorReleased (s : State) (reason : Reason) (byOrder : Bool) (i : Fin 48) :
    (s.revokeSlot reason byOrder i).doorReleased = s.doorReleased := by
  obtain ⟨_, _, _, h⟩ := State.revokeSlot_frame s reason byOrder i; rw [h]

@[simp] theorem State.revokeSlot_crewKey (s : State) (reason : Reason) (byOrder : Bool) (i : Fin 48) :
    (s.revokeSlot reason byOrder i).crewKey = s.crewKey := by
  obtain ⟨_, _, _, h⟩ := State.revokeSlot_frame s reason byOrder i; rw [h]

@[simp] theorem State.revokeSlot_door (s : State) (reason : Reason) (byOrder : Bool) (i : Fin 48) :
    (s.revokeSlot reason byOrder i).door = s.door := by
  obtain ⟨_, _, _, h⟩ := State.revokeSlot_frame s reason byOrder i; rw [h]

@[simp] theorem State.revokeSlot_strings (s : State) (reason : Reason) (byOrder : Bool) (i : Fin 48) :
    (s.revokeSlot reason byOrder i).strings = s.strings := by
  obtain ⟨_, _, _, h⟩ := State.revokeSlot_frame s reason byOrder i; rw [h]

@[simp] theorem State.revokeSlot_buses (s : State) (reason : Reason) (byOrder : Bool) (i : Fin 48) :
    (s.revokeSlot reason byOrder i).buses = s.buses := by
  obtain ⟨_, _, _, h⟩ := State.revokeSlot_frame s reason byOrder i; rw [h]

@[simp] theorem State.revokeSlot_fire (s : State) (reason : Reason) (byOrder : Bool) (i : Fin 48) :
    (s.revokeSlot reason byOrder i).fire = s.fire := by
  obtain ⟨_, _, _, h⟩ := State.revokeSlot_frame s reason byOrder i; rw [h]

@[simp] theorem State.revokeSlot_cooling (s : State) (reason : Reason) (byOrder : Bool) (i : Fin 48) :
    (s.revokeSlot reason byOrder i).cooling = s.cooling := by
  obtain ⟨_, _, _, h⟩ := State.revokeSlot_frame s reason byOrder i; rw [h]

@[simp] theorem State.revokeSlot_contactors (s : State) (reason : Reason) (byOrder : Bool) (i : Fin 48) :
    (s.revokeSlot reason byOrder i).contactors = s.contactors := by
  obtain ⟨_, _, _, h⟩ := State.revokeSlot_frame s reason byOrder i; rw [h]

@[simp] theorem State.revokeSlot_serving (s : State) (reason : Reason) (byOrder : Bool) (i : Fin 48) :
    (s.revokeSlot reason byOrder i).serving = s.serving := by
  obtain ⟨_, _, _, h⟩ := State.revokeSlot_frame s reason byOrder i; rw [h]

@[simp] theorem State.revokeSlot_link (s : State) (reason : Reason) (byOrder : Bool) (i : Fin 48) :
    (s.revokeSlot reason byOrder i).link = s.link := by
  obtain ⟨_, _, _, h⟩ := State.revokeSlot_frame s reason byOrder i; rw [h]

@[simp] theorem State.revokeSlot_orderMemory (s : State) (reason : Reason) (byOrder : Bool) (i : Fin 48) :
    (s.revokeSlot reason byOrder i).orderMemory = s.orderMemory := by
  obtain ⟨_, _, _, h⟩ := State.revokeSlot_frame s reason byOrder i; rw [h]

@[simp] theorem State.revokeSlot_transaction (s : State) (reason : Reason) (byOrder : Bool) (i : Fin 48) :
    (s.revokeSlot reason byOrder i).transaction = s.transaction := by
  obtain ⟨_, _, _, h⟩ := State.revokeSlot_frame s reason byOrder i; rw [h]

@[simp] theorem State.revokeSlot_runner (s : State) (reason : Reason) (byOrder : Bool) (i : Fin 48) :
    (s.revokeSlot reason byOrder i).runner = s.runner := by
  obtain ⟨_, _, _, h⟩ := State.revokeSlot_frame s reason byOrder i; rw [h]

@[simp] theorem State.revokeSlot_unit (s : State) (reason : Reason) (byOrder : Bool) (i : Fin 48) :
    (s.revokeSlot reason byOrder i).unit = s.unit := by
  obtain ⟨_, _, _, h⟩ := State.revokeSlot_frame s reason byOrder i; rw [h]

@[simp] theorem State.revokeSlot_now (s : State) (reason : Reason) (byOrder : Bool) (i : Fin 48) :
    (s.revokeSlot reason byOrder i).now = s.now := by
  obtain ⟨_, _, _, h⟩ := State.revokeSlot_frame s reason byOrder i; rw [h]

@[simp] theorem State.revokeSlot_loaded (s : State) (reason : Reason) (byOrder : Bool) (i : Fin 48) :
    (s.revokeSlot reason byOrder i).loaded = s.loaded := by
  obtain ⟨_, _, _, h⟩ := State.revokeSlot_frame s reason byOrder i; rw [h]

@[simp] theorem State.revokeSlot_answer (s : State) (reason : Reason) (byOrder : Bool) (i : Fin 48) :
    (s.revokeSlot reason byOrder i).answer = s.answer := by
  obtain ⟨_, _, _, h⟩ := State.revokeSlot_frame s reason byOrder i; rw [h]

@[simp] theorem State.revokeSlot_draws (s : State) (reason : Reason) (byOrder : Bool) (i : Fin 48) :
    (s.revokeSlot reason byOrder i).draws = s.draws := by
  obtain ⟨_, _, _, h⟩ := State.revokeSlot_frame s reason byOrder i; rw [h]

@[simp] theorem State.revokeSlot_pending (s : State) (reason : Reason) (byOrder : Bool) (i : Fin 48) :
    (s.revokeSlot reason byOrder i).pending = s.pending := by
  obtain ⟨_, _, _, h⟩ := State.revokeSlot_frame s reason byOrder i; rw [h]

/-- Revocations: slots, breaker and attention alone. -/
theorem State.revokeWhere_frame (s : State) (f : Permit → Bool) (reason : Reason) :
    ∃ x0 x1 x2, s.revokeWhere f reason = { s with slots := x0, breaker := x1, attention := x2 } := by
  refine foldl_rel (fun s t => ∃ x0 x1 x2, t = { s with slots := x0, breaker := x1, attention := x2 }) ?_ ?_ _ ?_ allSlots s
  · intro s; exact ⟨_, _, _, rfl⟩
  · rintro a _ _ ⟨_, _, _, rfl⟩ ⟨_, _, _, rfl⟩; exact ⟨_, _, _, rfl⟩
  · intro s i
    split
    · split
      · exact State.revokeSlot_frame s reason false i
      · exact ⟨_, _, _, rfl⟩
    · exact ⟨_, _, _, rfl⟩

@[simp] theorem State.revokeWhere_doorReleased (s : State) (f : Permit → Bool) (reason : Reason) :
    (s.revokeWhere f reason).doorReleased = s.doorReleased := by
  obtain ⟨_, _, _, h⟩ := State.revokeWhere_frame s f reason; rw [h]

@[simp] theorem State.revokeWhere_crewKey (s : State) (f : Permit → Bool) (reason : Reason) :
    (s.revokeWhere f reason).crewKey = s.crewKey := by
  obtain ⟨_, _, _, h⟩ := State.revokeWhere_frame s f reason; rw [h]

@[simp] theorem State.revokeWhere_door (s : State) (f : Permit → Bool) (reason : Reason) :
    (s.revokeWhere f reason).door = s.door := by
  obtain ⟨_, _, _, h⟩ := State.revokeWhere_frame s f reason; rw [h]

@[simp] theorem State.revokeWhere_strings (s : State) (f : Permit → Bool) (reason : Reason) :
    (s.revokeWhere f reason).strings = s.strings := by
  obtain ⟨_, _, _, h⟩ := State.revokeWhere_frame s f reason; rw [h]

@[simp] theorem State.revokeWhere_buses (s : State) (f : Permit → Bool) (reason : Reason) :
    (s.revokeWhere f reason).buses = s.buses := by
  obtain ⟨_, _, _, h⟩ := State.revokeWhere_frame s f reason; rw [h]

@[simp] theorem State.revokeWhere_fire (s : State) (f : Permit → Bool) (reason : Reason) :
    (s.revokeWhere f reason).fire = s.fire := by
  obtain ⟨_, _, _, h⟩ := State.revokeWhere_frame s f reason; rw [h]

@[simp] theorem State.revokeWhere_cooling (s : State) (f : Permit → Bool) (reason : Reason) :
    (s.revokeWhere f reason).cooling = s.cooling := by
  obtain ⟨_, _, _, h⟩ := State.revokeWhere_frame s f reason; rw [h]

@[simp] theorem State.revokeWhere_contactors (s : State) (f : Permit → Bool) (reason : Reason) :
    (s.revokeWhere f reason).contactors = s.contactors := by
  obtain ⟨_, _, _, h⟩ := State.revokeWhere_frame s f reason; rw [h]

@[simp] theorem State.revokeWhere_serving (s : State) (f : Permit → Bool) (reason : Reason) :
    (s.revokeWhere f reason).serving = s.serving := by
  obtain ⟨_, _, _, h⟩ := State.revokeWhere_frame s f reason; rw [h]

@[simp] theorem State.revokeWhere_link (s : State) (f : Permit → Bool) (reason : Reason) :
    (s.revokeWhere f reason).link = s.link := by
  obtain ⟨_, _, _, h⟩ := State.revokeWhere_frame s f reason; rw [h]

@[simp] theorem State.revokeWhere_orderMemory (s : State) (f : Permit → Bool) (reason : Reason) :
    (s.revokeWhere f reason).orderMemory = s.orderMemory := by
  obtain ⟨_, _, _, h⟩ := State.revokeWhere_frame s f reason; rw [h]

@[simp] theorem State.revokeWhere_transaction (s : State) (f : Permit → Bool) (reason : Reason) :
    (s.revokeWhere f reason).transaction = s.transaction := by
  obtain ⟨_, _, _, h⟩ := State.revokeWhere_frame s f reason; rw [h]

@[simp] theorem State.revokeWhere_runner (s : State) (f : Permit → Bool) (reason : Reason) :
    (s.revokeWhere f reason).runner = s.runner := by
  obtain ⟨_, _, _, h⟩ := State.revokeWhere_frame s f reason; rw [h]

@[simp] theorem State.revokeWhere_unit (s : State) (f : Permit → Bool) (reason : Reason) :
    (s.revokeWhere f reason).unit = s.unit := by
  obtain ⟨_, _, _, h⟩ := State.revokeWhere_frame s f reason; rw [h]

@[simp] theorem State.revokeWhere_now (s : State) (f : Permit → Bool) (reason : Reason) :
    (s.revokeWhere f reason).now = s.now := by
  obtain ⟨_, _, _, h⟩ := State.revokeWhere_frame s f reason; rw [h]

@[simp] theorem State.revokeWhere_loaded (s : State) (f : Permit → Bool) (reason : Reason) :
    (s.revokeWhere f reason).loaded = s.loaded := by
  obtain ⟨_, _, _, h⟩ := State.revokeWhere_frame s f reason; rw [h]

@[simp] theorem State.revokeWhere_answer (s : State) (f : Permit → Bool) (reason : Reason) :
    (s.revokeWhere f reason).answer = s.answer := by
  obtain ⟨_, _, _, h⟩ := State.revokeWhere_frame s f reason; rw [h]

@[simp] theorem State.revokeWhere_draws (s : State) (f : Permit → Bool) (reason : Reason) :
    (s.revokeWhere f reason).draws = s.draws := by
  obtain ⟨_, _, _, h⟩ := State.revokeWhere_frame s f reason; rw [h]

@[simp] theorem State.revokeWhere_pending (s : State) (f : Permit → Bool) (reason : Reason) :
    (s.revokeWhere f reason).pending = s.pending := by
  obtain ⟨_, _, _, h⟩ := State.revokeWhere_frame s f reason; rw [h]

/-- The expiry check: slots, breaker and attention alone. -/
theorem State.expiryCheck_frame (s : State) :
    ∃ x0 x1 x2, s.expiryCheck = { s with slots := x0, breaker := x1, attention := x2 } := State.revokeWhere_frame s _ _

@[simp] theorem State.expiryCheck_doorReleased (s : State) :
    (s.expiryCheck).doorReleased = s.doorReleased := by
  obtain ⟨_, _, _, h⟩ := State.expiryCheck_frame s; rw [h]

@[simp] theorem State.expiryCheck_crewKey (s : State) :
    (s.expiryCheck).crewKey = s.crewKey := by
  obtain ⟨_, _, _, h⟩ := State.expiryCheck_frame s; rw [h]

@[simp] theorem State.expiryCheck_door (s : State) :
    (s.expiryCheck).door = s.door := by
  obtain ⟨_, _, _, h⟩ := State.expiryCheck_frame s; rw [h]

@[simp] theorem State.expiryCheck_strings (s : State) :
    (s.expiryCheck).strings = s.strings := by
  obtain ⟨_, _, _, h⟩ := State.expiryCheck_frame s; rw [h]

@[simp] theorem State.expiryCheck_buses (s : State) :
    (s.expiryCheck).buses = s.buses := by
  obtain ⟨_, _, _, h⟩ := State.expiryCheck_frame s; rw [h]

@[simp] theorem State.expiryCheck_fire (s : State) :
    (s.expiryCheck).fire = s.fire := by
  obtain ⟨_, _, _, h⟩ := State.expiryCheck_frame s; rw [h]

@[simp] theorem State.expiryCheck_cooling (s : State) :
    (s.expiryCheck).cooling = s.cooling := by
  obtain ⟨_, _, _, h⟩ := State.expiryCheck_frame s; rw [h]

@[simp] theorem State.expiryCheck_contactors (s : State) :
    (s.expiryCheck).contactors = s.contactors := by
  obtain ⟨_, _, _, h⟩ := State.expiryCheck_frame s; rw [h]

@[simp] theorem State.expiryCheck_serving (s : State) :
    (s.expiryCheck).serving = s.serving := by
  obtain ⟨_, _, _, h⟩ := State.expiryCheck_frame s; rw [h]

@[simp] theorem State.expiryCheck_link (s : State) :
    (s.expiryCheck).link = s.link := by
  obtain ⟨_, _, _, h⟩ := State.expiryCheck_frame s; rw [h]

@[simp] theorem State.expiryCheck_orderMemory (s : State) :
    (s.expiryCheck).orderMemory = s.orderMemory := by
  obtain ⟨_, _, _, h⟩ := State.expiryCheck_frame s; rw [h]

@[simp] theorem State.expiryCheck_transaction (s : State) :
    (s.expiryCheck).transaction = s.transaction := by
  obtain ⟨_, _, _, h⟩ := State.expiryCheck_frame s; rw [h]

@[simp] theorem State.expiryCheck_runner (s : State) :
    (s.expiryCheck).runner = s.runner := by
  obtain ⟨_, _, _, h⟩ := State.expiryCheck_frame s; rw [h]

@[simp] theorem State.expiryCheck_unit (s : State) :
    (s.expiryCheck).unit = s.unit := by
  obtain ⟨_, _, _, h⟩ := State.expiryCheck_frame s; rw [h]

@[simp] theorem State.expiryCheck_now (s : State) :
    (s.expiryCheck).now = s.now := by
  obtain ⟨_, _, _, h⟩ := State.expiryCheck_frame s; rw [h]

@[simp] theorem State.expiryCheck_loaded (s : State) :
    (s.expiryCheck).loaded = s.loaded := by
  obtain ⟨_, _, _, h⟩ := State.expiryCheck_frame s; rw [h]

@[simp] theorem State.expiryCheck_answer (s : State) :
    (s.expiryCheck).answer = s.answer := by
  obtain ⟨_, _, _, h⟩ := State.expiryCheck_frame s; rw [h]

@[simp] theorem State.expiryCheck_draws (s : State) :
    (s.expiryCheck).draws = s.draws := by
  obtain ⟨_, _, _, h⟩ := State.expiryCheck_frame s; rw [h]

@[simp] theorem State.expiryCheck_pending (s : State) :
    (s.expiryCheck).pending = s.pending := by
  obtain ⟨_, _, _, h⟩ := State.expiryCheck_frame s; rw [h]

/-- A retirement: slots, breaker and attention alone. -/
theorem State.retireSlot_frame (s : State) (i : Fin 48) :
    ∃ x0 x1 x2, s.retireSlot i = { s with slots := x0, breaker := x1, attention := x2 } := by
  simp only [State.retireSlot]
  split
  · exact ⟨_, _, _, rfl⟩
  · obtain ⟨_, _, h⟩ := State.connectGone_frame (s.setSlot i _) _ false; rw [h]; exact ⟨_, _, _, rfl⟩

@[simp] theorem State.retireSlot_doorReleased (s : State) (i : Fin 48) :
    (s.retireSlot i).doorReleased = s.doorReleased := by
  obtain ⟨_, _, _, h⟩ := State.retireSlot_frame s i; rw [h]

@[simp] theorem State.retireSlot_crewKey (s : State) (i : Fin 48) :
    (s.retireSlot i).crewKey = s.crewKey := by
  obtain ⟨_, _, _, h⟩ := State.retireSlot_frame s i; rw [h]

@[simp] theorem State.retireSlot_door (s : State) (i : Fin 48) :
    (s.retireSlot i).door = s.door := by
  obtain ⟨_, _, _, h⟩ := State.retireSlot_frame s i; rw [h]

@[simp] theorem State.retireSlot_strings (s : State) (i : Fin 48) :
    (s.retireSlot i).strings = s.strings := by
  obtain ⟨_, _, _, h⟩ := State.retireSlot_frame s i; rw [h]

@[simp] theorem State.retireSlot_buses (s : State) (i : Fin 48) :
    (s.retireSlot i).buses = s.buses := by
  obtain ⟨_, _, _, h⟩ := State.retireSlot_frame s i; rw [h]

@[simp] theorem State.retireSlot_fire (s : State) (i : Fin 48) :
    (s.retireSlot i).fire = s.fire := by
  obtain ⟨_, _, _, h⟩ := State.retireSlot_frame s i; rw [h]

@[simp] theorem State.retireSlot_cooling (s : State) (i : Fin 48) :
    (s.retireSlot i).cooling = s.cooling := by
  obtain ⟨_, _, _, h⟩ := State.retireSlot_frame s i; rw [h]

@[simp] theorem State.retireSlot_contactors (s : State) (i : Fin 48) :
    (s.retireSlot i).contactors = s.contactors := by
  obtain ⟨_, _, _, h⟩ := State.retireSlot_frame s i; rw [h]

@[simp] theorem State.retireSlot_serving (s : State) (i : Fin 48) :
    (s.retireSlot i).serving = s.serving := by
  obtain ⟨_, _, _, h⟩ := State.retireSlot_frame s i; rw [h]

@[simp] theorem State.retireSlot_link (s : State) (i : Fin 48) :
    (s.retireSlot i).link = s.link := by
  obtain ⟨_, _, _, h⟩ := State.retireSlot_frame s i; rw [h]

@[simp] theorem State.retireSlot_orderMemory (s : State) (i : Fin 48) :
    (s.retireSlot i).orderMemory = s.orderMemory := by
  obtain ⟨_, _, _, h⟩ := State.retireSlot_frame s i; rw [h]

@[simp] theorem State.retireSlot_transaction (s : State) (i : Fin 48) :
    (s.retireSlot i).transaction = s.transaction := by
  obtain ⟨_, _, _, h⟩ := State.retireSlot_frame s i; rw [h]

@[simp] theorem State.retireSlot_runner (s : State) (i : Fin 48) :
    (s.retireSlot i).runner = s.runner := by
  obtain ⟨_, _, _, h⟩ := State.retireSlot_frame s i; rw [h]

@[simp] theorem State.retireSlot_unit (s : State) (i : Fin 48) :
    (s.retireSlot i).unit = s.unit := by
  obtain ⟨_, _, _, h⟩ := State.retireSlot_frame s i; rw [h]

@[simp] theorem State.retireSlot_now (s : State) (i : Fin 48) :
    (s.retireSlot i).now = s.now := by
  obtain ⟨_, _, _, h⟩ := State.retireSlot_frame s i; rw [h]

@[simp] theorem State.retireSlot_loaded (s : State) (i : Fin 48) :
    (s.retireSlot i).loaded = s.loaded := by
  obtain ⟨_, _, _, h⟩ := State.retireSlot_frame s i; rw [h]

@[simp] theorem State.retireSlot_answer (s : State) (i : Fin 48) :
    (s.retireSlot i).answer = s.answer := by
  obtain ⟨_, _, _, h⟩ := State.retireSlot_frame s i; rw [h]

@[simp] theorem State.retireSlot_draws (s : State) (i : Fin 48) :
    (s.retireSlot i).draws = s.draws := by
  obtain ⟨_, _, _, h⟩ := State.retireSlot_frame s i; rw [h]

@[simp] theorem State.retireSlot_pending (s : State) (i : Fin 48) :
    (s.retireSlot i).pending = s.pending := by
  obtain ⟨_, _, _, h⟩ := State.retireSlot_frame s i; rw [h]

/-- The fall of the grid at the permits: slots and attention alone. -/
theorem State.suspendConnect_frame (s : State) :
    ∃ x0 x1, s.suspendConnect = { s with slots := x0, attention := x1 } := by
  refine foldl_rel (fun s t => ∃ x0 x1, t = { s with slots := x0, attention := x1 }) ?_ ?_ _ ?_ allSlots s
  · intro s; exact ⟨_, _, rfl⟩
  · rintro a _ _ ⟨_, _, rfl⟩ ⟨_, _, rfl⟩; exact ⟨_, _, rfl⟩
  · intro s i
    split
    · split <;> exact ⟨_, _, rfl⟩
    · exact ⟨_, _, rfl⟩

@[simp] theorem State.suspendConnect_doorReleased (s : State) :
    (s.suspendConnect).doorReleased = s.doorReleased := by
  obtain ⟨_, _, h⟩ := State.suspendConnect_frame s; rw [h]

@[simp] theorem State.suspendConnect_crewKey (s : State) :
    (s.suspendConnect).crewKey = s.crewKey := by
  obtain ⟨_, _, h⟩ := State.suspendConnect_frame s; rw [h]

@[simp] theorem State.suspendConnect_door (s : State) :
    (s.suspendConnect).door = s.door := by
  obtain ⟨_, _, h⟩ := State.suspendConnect_frame s; rw [h]

@[simp] theorem State.suspendConnect_strings (s : State) :
    (s.suspendConnect).strings = s.strings := by
  obtain ⟨_, _, h⟩ := State.suspendConnect_frame s; rw [h]

@[simp] theorem State.suspendConnect_buses (s : State) :
    (s.suspendConnect).buses = s.buses := by
  obtain ⟨_, _, h⟩ := State.suspendConnect_frame s; rw [h]

@[simp] theorem State.suspendConnect_fire (s : State) :
    (s.suspendConnect).fire = s.fire := by
  obtain ⟨_, _, h⟩ := State.suspendConnect_frame s; rw [h]

@[simp] theorem State.suspendConnect_cooling (s : State) :
    (s.suspendConnect).cooling = s.cooling := by
  obtain ⟨_, _, h⟩ := State.suspendConnect_frame s; rw [h]

@[simp] theorem State.suspendConnect_contactors (s : State) :
    (s.suspendConnect).contactors = s.contactors := by
  obtain ⟨_, _, h⟩ := State.suspendConnect_frame s; rw [h]

@[simp] theorem State.suspendConnect_serving (s : State) :
    (s.suspendConnect).serving = s.serving := by
  obtain ⟨_, _, h⟩ := State.suspendConnect_frame s; rw [h]

@[simp] theorem State.suspendConnect_breaker (s : State) :
    (s.suspendConnect).breaker = s.breaker := by
  obtain ⟨_, _, h⟩ := State.suspendConnect_frame s; rw [h]

@[simp] theorem State.suspendConnect_link (s : State) :
    (s.suspendConnect).link = s.link := by
  obtain ⟨_, _, h⟩ := State.suspendConnect_frame s; rw [h]

@[simp] theorem State.suspendConnect_orderMemory (s : State) :
    (s.suspendConnect).orderMemory = s.orderMemory := by
  obtain ⟨_, _, h⟩ := State.suspendConnect_frame s; rw [h]

@[simp] theorem State.suspendConnect_transaction (s : State) :
    (s.suspendConnect).transaction = s.transaction := by
  obtain ⟨_, _, h⟩ := State.suspendConnect_frame s; rw [h]

@[simp] theorem State.suspendConnect_runner (s : State) :
    (s.suspendConnect).runner = s.runner := by
  obtain ⟨_, _, h⟩ := State.suspendConnect_frame s; rw [h]

@[simp] theorem State.suspendConnect_unit (s : State) :
    (s.suspendConnect).unit = s.unit := by
  obtain ⟨_, _, h⟩ := State.suspendConnect_frame s; rw [h]

@[simp] theorem State.suspendConnect_now (s : State) :
    (s.suspendConnect).now = s.now := by
  obtain ⟨_, _, h⟩ := State.suspendConnect_frame s; rw [h]

@[simp] theorem State.suspendConnect_loaded (s : State) :
    (s.suspendConnect).loaded = s.loaded := by
  obtain ⟨_, _, h⟩ := State.suspendConnect_frame s; rw [h]

@[simp] theorem State.suspendConnect_answer (s : State) :
    (s.suspendConnect).answer = s.answer := by
  obtain ⟨_, _, h⟩ := State.suspendConnect_frame s; rw [h]

@[simp] theorem State.suspendConnect_draws (s : State) :
    (s.suspendConnect).draws = s.draws := by
  obtain ⟨_, _, h⟩ := State.suspendConnect_frame s; rw [h]

@[simp] theorem State.suspendConnect_pending (s : State) :
    (s.suspendConnect).pending = s.pending := by
  obtain ⟨_, _, h⟩ := State.suspendConnect_frame s; rw [h]

/-- The return of the grid at the permits: slots, breaker and attention alone. -/
theorem State.resumeConnect_frame (s : State) :
    ∃ x0 x1 x2, s.resumeConnect = { s with slots := x0, breaker := x1, attention := x2 } := by
  refine foldl_rel (fun s t => ∃ x0 x1 x2, t = { s with slots := x0, breaker := x1, attention := x2 }) ?_ ?_ _ ?_ allSlots s
  · intro s; exact ⟨_, _, _, rfl⟩
  · rintro a _ _ ⟨_, _, _, rfl⟩ ⟨_, _, _, rfl⟩; exact ⟨_, _, _, rfl⟩
  · intro s i
    split
    · split
      · simp only
        split
        · obtain ⟨_, _, h⟩ := State.closeBreaker_frame (((s.setPermit i _).raise .permit).arm _)
          rw [h]; exact ⟨_, _, _, rfl⟩
        · exact ⟨_, _, _, rfl⟩
      · exact ⟨_, _, _, rfl⟩
    · exact ⟨_, _, _, rfl⟩

@[simp] theorem State.resumeConnect_doorReleased (s : State) :
    (s.resumeConnect).doorReleased = s.doorReleased := by
  obtain ⟨_, _, _, h⟩ := State.resumeConnect_frame s; rw [h]

@[simp] theorem State.resumeConnect_crewKey (s : State) :
    (s.resumeConnect).crewKey = s.crewKey := by
  obtain ⟨_, _, _, h⟩ := State.resumeConnect_frame s; rw [h]

@[simp] theorem State.resumeConnect_door (s : State) :
    (s.resumeConnect).door = s.door := by
  obtain ⟨_, _, _, h⟩ := State.resumeConnect_frame s; rw [h]

@[simp] theorem State.resumeConnect_strings (s : State) :
    (s.resumeConnect).strings = s.strings := by
  obtain ⟨_, _, _, h⟩ := State.resumeConnect_frame s; rw [h]

@[simp] theorem State.resumeConnect_buses (s : State) :
    (s.resumeConnect).buses = s.buses := by
  obtain ⟨_, _, _, h⟩ := State.resumeConnect_frame s; rw [h]

@[simp] theorem State.resumeConnect_fire (s : State) :
    (s.resumeConnect).fire = s.fire := by
  obtain ⟨_, _, _, h⟩ := State.resumeConnect_frame s; rw [h]

@[simp] theorem State.resumeConnect_cooling (s : State) :
    (s.resumeConnect).cooling = s.cooling := by
  obtain ⟨_, _, _, h⟩ := State.resumeConnect_frame s; rw [h]

@[simp] theorem State.resumeConnect_contactors (s : State) :
    (s.resumeConnect).contactors = s.contactors := by
  obtain ⟨_, _, _, h⟩ := State.resumeConnect_frame s; rw [h]

@[simp] theorem State.resumeConnect_serving (s : State) :
    (s.resumeConnect).serving = s.serving := by
  obtain ⟨_, _, _, h⟩ := State.resumeConnect_frame s; rw [h]

@[simp] theorem State.resumeConnect_link (s : State) :
    (s.resumeConnect).link = s.link := by
  obtain ⟨_, _, _, h⟩ := State.resumeConnect_frame s; rw [h]

@[simp] theorem State.resumeConnect_orderMemory (s : State) :
    (s.resumeConnect).orderMemory = s.orderMemory := by
  obtain ⟨_, _, _, h⟩ := State.resumeConnect_frame s; rw [h]

@[simp] theorem State.resumeConnect_transaction (s : State) :
    (s.resumeConnect).transaction = s.transaction := by
  obtain ⟨_, _, _, h⟩ := State.resumeConnect_frame s; rw [h]

@[simp] theorem State.resumeConnect_runner (s : State) :
    (s.resumeConnect).runner = s.runner := by
  obtain ⟨_, _, _, h⟩ := State.resumeConnect_frame s; rw [h]

@[simp] theorem State.resumeConnect_unit (s : State) :
    (s.resumeConnect).unit = s.unit := by
  obtain ⟨_, _, _, h⟩ := State.resumeConnect_frame s; rw [h]

@[simp] theorem State.resumeConnect_now (s : State) :
    (s.resumeConnect).now = s.now := by
  obtain ⟨_, _, _, h⟩ := State.resumeConnect_frame s; rw [h]

@[simp] theorem State.resumeConnect_loaded (s : State) :
    (s.resumeConnect).loaded = s.loaded := by
  obtain ⟨_, _, _, h⟩ := State.resumeConnect_frame s; rw [h]

@[simp] theorem State.resumeConnect_answer (s : State) :
    (s.resumeConnect).answer = s.answer := by
  obtain ⟨_, _, _, h⟩ := State.resumeConnect_frame s; rw [h]

@[simp] theorem State.resumeConnect_draws (s : State) :
    (s.resumeConnect).draws = s.draws := by
  obtain ⟨_, _, _, h⟩ := State.resumeConnect_frame s; rw [h]

@[simp] theorem State.resumeConnect_pending (s : State) :
    (s.resumeConnect).pending = s.pending := by
  obtain ⟨_, _, _, h⟩ := State.resumeConnect_frame s; rw [h]

/-! ### The Envelope Unit -/

/-- A string record replaced with its flag: strings and attention alone. -/
theorem State.updateBand_frame (s : State) (i : Fin 8) (r : StringRec) :
    ∃ x0 x1, s.updateBand i r = { s with strings := x0, attention := x1 } := by
  obtain ⟨x, h⟩ := State.raiseIf_frame (s.setString i r) (r.band != s.strings[i].band) .band
  exact ⟨_, x, h⟩

/-- An aggregation: strings and attention alone. -/
theorem State.aggregate_frame (s : State) (i : Fin 8) :
    ∃ x0 x1, s.aggregate i = { s with strings := x0, attention := x1 } := by
  simp only [State.aggregate]
  split <;> exact State.updateBand_frame s i _

@[simp] theorem State.aggregate_slots (s : State) (i : Fin 8) :
    (s.aggregate i).slots = s.slots := by
  obtain ⟨_, _, h⟩ := State.aggregate_frame s i; rw [h]

@[simp] theorem State.aggregate_doorReleased (s : State) (i : Fin 8) :
    (s.aggregate i).doorReleased = s.doorReleased := by
  obtain ⟨_, _, h⟩ := State.aggregate_frame s i; rw [h]

@[simp] theorem State.aggregate_crewKey (s : State) (i : Fin 8) :
    (s.aggregate i).crewKey = s.crewKey := by
  obtain ⟨_, _, h⟩ := State.aggregate_frame s i; rw [h]

@[simp] theorem State.aggregate_door (s : State) (i : Fin 8) :
    (s.aggregate i).door = s.door := by
  obtain ⟨_, _, h⟩ := State.aggregate_frame s i; rw [h]

@[simp] theorem State.aggregate_buses (s : State) (i : Fin 8) :
    (s.aggregate i).buses = s.buses := by
  obtain ⟨_, _, h⟩ := State.aggregate_frame s i; rw [h]

@[simp] theorem State.aggregate_fire (s : State) (i : Fin 8) :
    (s.aggregate i).fire = s.fire := by
  obtain ⟨_, _, h⟩ := State.aggregate_frame s i; rw [h]

@[simp] theorem State.aggregate_cooling (s : State) (i : Fin 8) :
    (s.aggregate i).cooling = s.cooling := by
  obtain ⟨_, _, h⟩ := State.aggregate_frame s i; rw [h]

@[simp] theorem State.aggregate_contactors (s : State) (i : Fin 8) :
    (s.aggregate i).contactors = s.contactors := by
  obtain ⟨_, _, h⟩ := State.aggregate_frame s i; rw [h]

@[simp] theorem State.aggregate_serving (s : State) (i : Fin 8) :
    (s.aggregate i).serving = s.serving := by
  obtain ⟨_, _, h⟩ := State.aggregate_frame s i; rw [h]

@[simp] theorem State.aggregate_breaker (s : State) (i : Fin 8) :
    (s.aggregate i).breaker = s.breaker := by
  obtain ⟨_, _, h⟩ := State.aggregate_frame s i; rw [h]

@[simp] theorem State.aggregate_link (s : State) (i : Fin 8) :
    (s.aggregate i).link = s.link := by
  obtain ⟨_, _, h⟩ := State.aggregate_frame s i; rw [h]

@[simp] theorem State.aggregate_orderMemory (s : State) (i : Fin 8) :
    (s.aggregate i).orderMemory = s.orderMemory := by
  obtain ⟨_, _, h⟩ := State.aggregate_frame s i; rw [h]

@[simp] theorem State.aggregate_transaction (s : State) (i : Fin 8) :
    (s.aggregate i).transaction = s.transaction := by
  obtain ⟨_, _, h⟩ := State.aggregate_frame s i; rw [h]

@[simp] theorem State.aggregate_runner (s : State) (i : Fin 8) :
    (s.aggregate i).runner = s.runner := by
  obtain ⟨_, _, h⟩ := State.aggregate_frame s i; rw [h]

@[simp] theorem State.aggregate_unit (s : State) (i : Fin 8) :
    (s.aggregate i).unit = s.unit := by
  obtain ⟨_, _, h⟩ := State.aggregate_frame s i; rw [h]

@[simp] theorem State.aggregate_now (s : State) (i : Fin 8) :
    (s.aggregate i).now = s.now := by
  obtain ⟨_, _, h⟩ := State.aggregate_frame s i; rw [h]

@[simp] theorem State.aggregate_loaded (s : State) (i : Fin 8) :
    (s.aggregate i).loaded = s.loaded := by
  obtain ⟨_, _, h⟩ := State.aggregate_frame s i; rw [h]

@[simp] theorem State.aggregate_answer (s : State) (i : Fin 8) :
    (s.aggregate i).answer = s.answer := by
  obtain ⟨_, _, h⟩ := State.aggregate_frame s i; rw [h]

@[simp] theorem State.aggregate_draws (s : State) (i : Fin 8) :
    (s.aggregate i).draws = s.draws := by
  obtain ⟨_, _, h⟩ := State.aggregate_frame s i; rw [h]

@[simp] theorem State.aggregate_pending (s : State) (i : Fin 8) :
    (s.aggregate i).pending = s.pending := by
  obtain ⟨_, _, h⟩ := State.aggregate_frame s i; rw [h]

/-- The hand-off of envelopes: slots and attention alone. -/
theorem State.handOff_frame (s : State) (old : Vector StringRec 8) :
    ∃ x0 x1, s.handOff old = { s with slots := x0, attention := x1 } := by
  refine foldl_rel (fun s t => ∃ x0 x1, t = { s with slots := x0, attention := x1 }) ?_ ?_ _ ?_ allSlots s
  · intro s; exact ⟨_, _, rfl⟩
  · rintro a _ _ ⟨_, _, rfl⟩ ⟨_, _, rfl⟩; exact ⟨_, _, rfl⟩
  · intro s i
    split
    · split
      · exact State.retargetSlot_frame s .other i
      · exact ⟨_, _, rfl⟩
    · exact ⟨_, _, rfl⟩

@[simp] theorem State.handOff_doorReleased (s : State) (old : Vector StringRec 8) :
    (s.handOff old).doorReleased = s.doorReleased := by
  obtain ⟨_, _, h⟩ := State.handOff_frame s old; rw [h]

@[simp] theorem State.handOff_crewKey (s : State) (old : Vector StringRec 8) :
    (s.handOff old).crewKey = s.crewKey := by
  obtain ⟨_, _, h⟩ := State.handOff_frame s old; rw [h]

@[simp] theorem State.handOff_door (s : State) (old : Vector StringRec 8) :
    (s.handOff old).door = s.door := by
  obtain ⟨_, _, h⟩ := State.handOff_frame s old; rw [h]

@[simp] theorem State.handOff_strings (s : State) (old : Vector StringRec 8) :
    (s.handOff old).strings = s.strings := by
  obtain ⟨_, _, h⟩ := State.handOff_frame s old; rw [h]

@[simp] theorem State.handOff_buses (s : State) (old : Vector StringRec 8) :
    (s.handOff old).buses = s.buses := by
  obtain ⟨_, _, h⟩ := State.handOff_frame s old; rw [h]

@[simp] theorem State.handOff_fire (s : State) (old : Vector StringRec 8) :
    (s.handOff old).fire = s.fire := by
  obtain ⟨_, _, h⟩ := State.handOff_frame s old; rw [h]

@[simp] theorem State.handOff_cooling (s : State) (old : Vector StringRec 8) :
    (s.handOff old).cooling = s.cooling := by
  obtain ⟨_, _, h⟩ := State.handOff_frame s old; rw [h]

@[simp] theorem State.handOff_contactors (s : State) (old : Vector StringRec 8) :
    (s.handOff old).contactors = s.contactors := by
  obtain ⟨_, _, h⟩ := State.handOff_frame s old; rw [h]

@[simp] theorem State.handOff_serving (s : State) (old : Vector StringRec 8) :
    (s.handOff old).serving = s.serving := by
  obtain ⟨_, _, h⟩ := State.handOff_frame s old; rw [h]

@[simp] theorem State.handOff_breaker (s : State) (old : Vector StringRec 8) :
    (s.handOff old).breaker = s.breaker := by
  obtain ⟨_, _, h⟩ := State.handOff_frame s old; rw [h]

@[simp] theorem State.handOff_link (s : State) (old : Vector StringRec 8) :
    (s.handOff old).link = s.link := by
  obtain ⟨_, _, h⟩ := State.handOff_frame s old; rw [h]

@[simp] theorem State.handOff_orderMemory (s : State) (old : Vector StringRec 8) :
    (s.handOff old).orderMemory = s.orderMemory := by
  obtain ⟨_, _, h⟩ := State.handOff_frame s old; rw [h]

@[simp] theorem State.handOff_transaction (s : State) (old : Vector StringRec 8) :
    (s.handOff old).transaction = s.transaction := by
  obtain ⟨_, _, h⟩ := State.handOff_frame s old; rw [h]

@[simp] theorem State.handOff_runner (s : State) (old : Vector StringRec 8) :
    (s.handOff old).runner = s.runner := by
  obtain ⟨_, _, h⟩ := State.handOff_frame s old; rw [h]

@[simp] theorem State.handOff_unit (s : State) (old : Vector StringRec 8) :
    (s.handOff old).unit = s.unit := by
  obtain ⟨_, _, h⟩ := State.handOff_frame s old; rw [h]

@[simp] theorem State.handOff_now (s : State) (old : Vector StringRec 8) :
    (s.handOff old).now = s.now := by
  obtain ⟨_, _, h⟩ := State.handOff_frame s old; rw [h]

@[simp] theorem State.handOff_loaded (s : State) (old : Vector StringRec 8) :
    (s.handOff old).loaded = s.loaded := by
  obtain ⟨_, _, h⟩ := State.handOff_frame s old; rw [h]

@[simp] theorem State.handOff_answer (s : State) (old : Vector StringRec 8) :
    (s.handOff old).answer = s.answer := by
  obtain ⟨_, _, h⟩ := State.handOff_frame s old; rw [h]

@[simp] theorem State.handOff_draws (s : State) (old : Vector StringRec 8) :
    (s.handOff old).draws = s.draws := by
  obtain ⟨_, _, h⟩ := State.handOff_frame s old; rw [h]

@[simp] theorem State.handOff_pending (s : State) (old : Vector StringRec 8) :
    (s.handOff old).pending = s.pending := by
  obtain ⟨_, _, h⟩ := State.handOff_frame s old; rw [h]

/-- The evaluation of an event: strings, slots and attention alone. -/
theorem State.evaluateStage_frame (s : State) :
    ∃ x0 x1 x2, s.evaluateStage = { s with strings := x0, slots := x1, attention := x2 } := by
  simp only [State.evaluateStage]
  split
  · obtain ⟨_, _, h⟩ := State.handOff_frame s.evaluateAll s.strings; rw [h]; exact ⟨_, _, _, rfl⟩
  · exact ⟨_, _, _, rfl⟩

@[simp] theorem State.evaluateStage_doorReleased (s : State) :
    (s.evaluateStage).doorReleased = s.doorReleased := by
  obtain ⟨_, _, _, h⟩ := State.evaluateStage_frame s; rw [h]

@[simp] theorem State.evaluateStage_crewKey (s : State) :
    (s.evaluateStage).crewKey = s.crewKey := by
  obtain ⟨_, _, _, h⟩ := State.evaluateStage_frame s; rw [h]

@[simp] theorem State.evaluateStage_door (s : State) :
    (s.evaluateStage).door = s.door := by
  obtain ⟨_, _, _, h⟩ := State.evaluateStage_frame s; rw [h]

@[simp] theorem State.evaluateStage_buses (s : State) :
    (s.evaluateStage).buses = s.buses := by
  obtain ⟨_, _, _, h⟩ := State.evaluateStage_frame s; rw [h]

@[simp] theorem State.evaluateStage_fire (s : State) :
    (s.evaluateStage).fire = s.fire := by
  obtain ⟨_, _, _, h⟩ := State.evaluateStage_frame s; rw [h]

@[simp] theorem State.evaluateStage_cooling (s : State) :
    (s.evaluateStage).cooling = s.cooling := by
  obtain ⟨_, _, _, h⟩ := State.evaluateStage_frame s; rw [h]

@[simp] theorem State.evaluateStage_contactors (s : State) :
    (s.evaluateStage).contactors = s.contactors := by
  obtain ⟨_, _, _, h⟩ := State.evaluateStage_frame s; rw [h]

@[simp] theorem State.evaluateStage_serving (s : State) :
    (s.evaluateStage).serving = s.serving := by
  obtain ⟨_, _, _, h⟩ := State.evaluateStage_frame s; rw [h]

@[simp] theorem State.evaluateStage_breaker (s : State) :
    (s.evaluateStage).breaker = s.breaker := by
  obtain ⟨_, _, _, h⟩ := State.evaluateStage_frame s; rw [h]

@[simp] theorem State.evaluateStage_link (s : State) :
    (s.evaluateStage).link = s.link := by
  obtain ⟨_, _, _, h⟩ := State.evaluateStage_frame s; rw [h]

@[simp] theorem State.evaluateStage_orderMemory (s : State) :
    (s.evaluateStage).orderMemory = s.orderMemory := by
  obtain ⟨_, _, _, h⟩ := State.evaluateStage_frame s; rw [h]

@[simp] theorem State.evaluateStage_transaction (s : State) :
    (s.evaluateStage).transaction = s.transaction := by
  obtain ⟨_, _, _, h⟩ := State.evaluateStage_frame s; rw [h]

@[simp] theorem State.evaluateStage_runner (s : State) :
    (s.evaluateStage).runner = s.runner := by
  obtain ⟨_, _, _, h⟩ := State.evaluateStage_frame s; rw [h]

@[simp] theorem State.evaluateStage_unit (s : State) :
    (s.evaluateStage).unit = s.unit := by
  obtain ⟨_, _, _, h⟩ := State.evaluateStage_frame s; rw [h]

@[simp] theorem State.evaluateStage_now (s : State) :
    (s.evaluateStage).now = s.now := by
  obtain ⟨_, _, _, h⟩ := State.evaluateStage_frame s; rw [h]

@[simp] theorem State.evaluateStage_loaded (s : State) :
    (s.evaluateStage).loaded = s.loaded := by
  obtain ⟨_, _, _, h⟩ := State.evaluateStage_frame s; rw [h]

@[simp] theorem State.evaluateStage_answer (s : State) :
    (s.evaluateStage).answer = s.answer := by
  obtain ⟨_, _, _, h⟩ := State.evaluateStage_frame s; rw [h]

@[simp] theorem State.evaluateStage_draws (s : State) :
    (s.evaluateStage).draws = s.draws := by
  obtain ⟨_, _, _, h⟩ := State.evaluateStage_frame s; rw [h]

@[simp] theorem State.evaluateStage_pending (s : State) :
    (s.evaluateStage).pending = s.pending := by
  obtain ⟨_, _, _, h⟩ := State.evaluateStage_frame s; rw [h]

/-! ### The Fire Controller -/

/-- The Bay Fire Table replaced: fire and attention alone. -/
theorem State.setFireTable_frame (s : State) (fire : Vector FireRec 4) :
    ∃ x0 x1, s.setFireTable fire = { s with fire := x0, attention := x1 } := by
  obtain ⟨x, h⟩ := State.raiseIf_frame { s with fire := contain fire } (fireChanged s.fire fire) .fire
  exact ⟨_, x, h⟩

@[simp] theorem State.setFireTable_slots (s : State) (fire : Vector FireRec 4) :
    (s.setFireTable fire).slots = s.slots := by
  obtain ⟨_, _, h⟩ := State.setFireTable_frame s fire; rw [h]

@[simp] theorem State.setFireTable_doorReleased (s : State) (fire : Vector FireRec 4) :
    (s.setFireTable fire).doorReleased = s.doorReleased := by
  obtain ⟨_, _, h⟩ := State.setFireTable_frame s fire; rw [h]

@[simp] theorem State.setFireTable_crewKey (s : State) (fire : Vector FireRec 4) :
    (s.setFireTable fire).crewKey = s.crewKey := by
  obtain ⟨_, _, h⟩ := State.setFireTable_frame s fire; rw [h]

@[simp] theorem State.setFireTable_door (s : State) (fire : Vector FireRec 4) :
    (s.setFireTable fire).door = s.door := by
  obtain ⟨_, _, h⟩ := State.setFireTable_frame s fire; rw [h]

@[simp] theorem State.setFireTable_strings (s : State) (fire : Vector FireRec 4) :
    (s.setFireTable fire).strings = s.strings := by
  obtain ⟨_, _, h⟩ := State.setFireTable_frame s fire; rw [h]

@[simp] theorem State.setFireTable_buses (s : State) (fire : Vector FireRec 4) :
    (s.setFireTable fire).buses = s.buses := by
  obtain ⟨_, _, h⟩ := State.setFireTable_frame s fire; rw [h]

@[simp] theorem State.setFireTable_cooling (s : State) (fire : Vector FireRec 4) :
    (s.setFireTable fire).cooling = s.cooling := by
  obtain ⟨_, _, h⟩ := State.setFireTable_frame s fire; rw [h]

@[simp] theorem State.setFireTable_contactors (s : State) (fire : Vector FireRec 4) :
    (s.setFireTable fire).contactors = s.contactors := by
  obtain ⟨_, _, h⟩ := State.setFireTable_frame s fire; rw [h]

@[simp] theorem State.setFireTable_serving (s : State) (fire : Vector FireRec 4) :
    (s.setFireTable fire).serving = s.serving := by
  obtain ⟨_, _, h⟩ := State.setFireTable_frame s fire; rw [h]

@[simp] theorem State.setFireTable_breaker (s : State) (fire : Vector FireRec 4) :
    (s.setFireTable fire).breaker = s.breaker := by
  obtain ⟨_, _, h⟩ := State.setFireTable_frame s fire; rw [h]

@[simp] theorem State.setFireTable_link (s : State) (fire : Vector FireRec 4) :
    (s.setFireTable fire).link = s.link := by
  obtain ⟨_, _, h⟩ := State.setFireTable_frame s fire; rw [h]

@[simp] theorem State.setFireTable_orderMemory (s : State) (fire : Vector FireRec 4) :
    (s.setFireTable fire).orderMemory = s.orderMemory := by
  obtain ⟨_, _, h⟩ := State.setFireTable_frame s fire; rw [h]

@[simp] theorem State.setFireTable_transaction (s : State) (fire : Vector FireRec 4) :
    (s.setFireTable fire).transaction = s.transaction := by
  obtain ⟨_, _, h⟩ := State.setFireTable_frame s fire; rw [h]

@[simp] theorem State.setFireTable_runner (s : State) (fire : Vector FireRec 4) :
    (s.setFireTable fire).runner = s.runner := by
  obtain ⟨_, _, h⟩ := State.setFireTable_frame s fire; rw [h]

@[simp] theorem State.setFireTable_unit (s : State) (fire : Vector FireRec 4) :
    (s.setFireTable fire).unit = s.unit := by
  obtain ⟨_, _, h⟩ := State.setFireTable_frame s fire; rw [h]

@[simp] theorem State.setFireTable_now (s : State) (fire : Vector FireRec 4) :
    (s.setFireTable fire).now = s.now := by
  obtain ⟨_, _, h⟩ := State.setFireTable_frame s fire; rw [h]

@[simp] theorem State.setFireTable_loaded (s : State) (fire : Vector FireRec 4) :
    (s.setFireTable fire).loaded = s.loaded := by
  obtain ⟨_, _, h⟩ := State.setFireTable_frame s fire; rw [h]

@[simp] theorem State.setFireTable_answer (s : State) (fire : Vector FireRec 4) :
    (s.setFireTable fire).answer = s.answer := by
  obtain ⟨_, _, h⟩ := State.setFireTable_frame s fire; rw [h]

@[simp] theorem State.setFireTable_draws (s : State) (fire : Vector FireRec 4) :
    (s.setFireTable fire).draws = s.draws := by
  obtain ⟨_, _, h⟩ := State.setFireTable_frame s fire; rw [h]

@[simp] theorem State.setFireTable_pending (s : State) (fire : Vector FireRec 4) :
    (s.setFireTable fire).pending = s.pending := by
  obtain ⟨_, _, h⟩ := State.setFireTable_frame s fire; rw [h]

/-- The Bay Fire Table after it was replaced. -/
@[simp] theorem State.setFireTable_fire (s : State) (fire : Vector FireRec 4) :
    (s.setFireTable fire).fire = contain fire := by
  simp [State.setFireTable]

/-- The fire evaluation: fire and attention alone. -/
theorem State.fireStage_frame (s : State) :
    ∃ x0 x1, s.fireStage = { s with fire := x0, attention := x1 } := State.setFireTable_frame s _

@[simp] theorem State.fireStage_slots (s : State) :
    (s.fireStage).slots = s.slots := by
  obtain ⟨_, _, h⟩ := State.fireStage_frame s; rw [h]

@[simp] theorem State.fireStage_doorReleased (s : State) :
    (s.fireStage).doorReleased = s.doorReleased := by
  obtain ⟨_, _, h⟩ := State.fireStage_frame s; rw [h]

@[simp] theorem State.fireStage_crewKey (s : State) :
    (s.fireStage).crewKey = s.crewKey := by
  obtain ⟨_, _, h⟩ := State.fireStage_frame s; rw [h]

@[simp] theorem State.fireStage_door (s : State) :
    (s.fireStage).door = s.door := by
  obtain ⟨_, _, h⟩ := State.fireStage_frame s; rw [h]

@[simp] theorem State.fireStage_strings (s : State) :
    (s.fireStage).strings = s.strings := by
  obtain ⟨_, _, h⟩ := State.fireStage_frame s; rw [h]

@[simp] theorem State.fireStage_buses (s : State) :
    (s.fireStage).buses = s.buses := by
  obtain ⟨_, _, h⟩ := State.fireStage_frame s; rw [h]

@[simp] theorem State.fireStage_cooling (s : State) :
    (s.fireStage).cooling = s.cooling := by
  obtain ⟨_, _, h⟩ := State.fireStage_frame s; rw [h]

@[simp] theorem State.fireStage_contactors (s : State) :
    (s.fireStage).contactors = s.contactors := by
  obtain ⟨_, _, h⟩ := State.fireStage_frame s; rw [h]

@[simp] theorem State.fireStage_serving (s : State) :
    (s.fireStage).serving = s.serving := by
  obtain ⟨_, _, h⟩ := State.fireStage_frame s; rw [h]

@[simp] theorem State.fireStage_breaker (s : State) :
    (s.fireStage).breaker = s.breaker := by
  obtain ⟨_, _, h⟩ := State.fireStage_frame s; rw [h]

@[simp] theorem State.fireStage_link (s : State) :
    (s.fireStage).link = s.link := by
  obtain ⟨_, _, h⟩ := State.fireStage_frame s; rw [h]

@[simp] theorem State.fireStage_orderMemory (s : State) :
    (s.fireStage).orderMemory = s.orderMemory := by
  obtain ⟨_, _, h⟩ := State.fireStage_frame s; rw [h]

@[simp] theorem State.fireStage_transaction (s : State) :
    (s.fireStage).transaction = s.transaction := by
  obtain ⟨_, _, h⟩ := State.fireStage_frame s; rw [h]

@[simp] theorem State.fireStage_runner (s : State) :
    (s.fireStage).runner = s.runner := by
  obtain ⟨_, _, h⟩ := State.fireStage_frame s; rw [h]

@[simp] theorem State.fireStage_unit (s : State) :
    (s.fireStage).unit = s.unit := by
  obtain ⟨_, _, h⟩ := State.fireStage_frame s; rw [h]

@[simp] theorem State.fireStage_now (s : State) :
    (s.fireStage).now = s.now := by
  obtain ⟨_, _, h⟩ := State.fireStage_frame s; rw [h]

@[simp] theorem State.fireStage_loaded (s : State) :
    (s.fireStage).loaded = s.loaded := by
  obtain ⟨_, _, h⟩ := State.fireStage_frame s; rw [h]

@[simp] theorem State.fireStage_answer (s : State) :
    (s.fireStage).answer = s.answer := by
  obtain ⟨_, _, h⟩ := State.fireStage_frame s; rw [h]

@[simp] theorem State.fireStage_draws (s : State) :
    (s.fireStage).draws = s.draws := by
  obtain ⟨_, _, h⟩ := State.fireStage_frame s; rw [h]

@[simp] theorem State.fireStage_pending (s : State) :
    (s.fireStage).pending = s.pending := by
  obtain ⟨_, _, h⟩ := State.fireStage_frame s; rw [h]

/-! ### The Connection Sequencer -/

/-- A check of the match: contactors and the path alone. -/
theorem State.checkMatch_frame (s : State) :
    ∃ x0 x1, s.checkMatch = { s with contactors := x0, serving := x1 } := by
  simp only [State.checkMatch]
  split
  · exact ⟨_, _, rfl⟩
  · split <;> exact ⟨_, _, rfl⟩

@[simp] theorem State.checkMatch_slots (s : State) :
    (s.checkMatch).slots = s.slots := by
  obtain ⟨_, _, h⟩ := State.checkMatch_frame s; rw [h]

@[simp] theorem State.checkMatch_doorReleased (s : State) :
    (s.checkMatch).doorReleased = s.doorReleased := by
  obtain ⟨_, _, h⟩ := State.checkMatch_frame s; rw [h]

@[simp] theorem State.checkMatch_crewKey (s : State) :
    (s.checkMatch).crewKey = s.crewKey := by
  obtain ⟨_, _, h⟩ := State.checkMatch_frame s; rw [h]

@[simp] theorem State.checkMatch_door (s : State) :
    (s.checkMatch).door = s.door := by
  obtain ⟨_, _, h⟩ := State.checkMatch_frame s; rw [h]

@[simp] theorem State.checkMatch_strings (s : State) :
    (s.checkMatch).strings = s.strings := by
  obtain ⟨_, _, h⟩ := State.checkMatch_frame s; rw [h]

@[simp] theorem State.checkMatch_buses (s : State) :
    (s.checkMatch).buses = s.buses := by
  obtain ⟨_, _, h⟩ := State.checkMatch_frame s; rw [h]

@[simp] theorem State.checkMatch_fire (s : State) :
    (s.checkMatch).fire = s.fire := by
  obtain ⟨_, _, h⟩ := State.checkMatch_frame s; rw [h]

@[simp] theorem State.checkMatch_cooling (s : State) :
    (s.checkMatch).cooling = s.cooling := by
  obtain ⟨_, _, h⟩ := State.checkMatch_frame s; rw [h]

@[simp] theorem State.checkMatch_breaker (s : State) :
    (s.checkMatch).breaker = s.breaker := by
  obtain ⟨_, _, h⟩ := State.checkMatch_frame s; rw [h]

@[simp] theorem State.checkMatch_link (s : State) :
    (s.checkMatch).link = s.link := by
  obtain ⟨_, _, h⟩ := State.checkMatch_frame s; rw [h]

@[simp] theorem State.checkMatch_orderMemory (s : State) :
    (s.checkMatch).orderMemory = s.orderMemory := by
  obtain ⟨_, _, h⟩ := State.checkMatch_frame s; rw [h]

@[simp] theorem State.checkMatch_transaction (s : State) :
    (s.checkMatch).transaction = s.transaction := by
  obtain ⟨_, _, h⟩ := State.checkMatch_frame s; rw [h]

@[simp] theorem State.checkMatch_runner (s : State) :
    (s.checkMatch).runner = s.runner := by
  obtain ⟨_, _, h⟩ := State.checkMatch_frame s; rw [h]

@[simp] theorem State.checkMatch_attention (s : State) :
    (s.checkMatch).attention = s.attention := by
  obtain ⟨_, _, h⟩ := State.checkMatch_frame s; rw [h]

@[simp] theorem State.checkMatch_unit (s : State) :
    (s.checkMatch).unit = s.unit := by
  obtain ⟨_, _, h⟩ := State.checkMatch_frame s; rw [h]

@[simp] theorem State.checkMatch_now (s : State) :
    (s.checkMatch).now = s.now := by
  obtain ⟨_, _, h⟩ := State.checkMatch_frame s; rw [h]

@[simp] theorem State.checkMatch_loaded (s : State) :
    (s.checkMatch).loaded = s.loaded := by
  obtain ⟨_, _, h⟩ := State.checkMatch_frame s; rw [h]

@[simp] theorem State.checkMatch_answer (s : State) :
    (s.checkMatch).answer = s.answer := by
  obtain ⟨_, _, h⟩ := State.checkMatch_frame s; rw [h]

@[simp] theorem State.checkMatch_draws (s : State) :
    (s.checkMatch).draws = s.draws := by
  obtain ⟨_, _, h⟩ := State.checkMatch_frame s; rw [h]

@[simp] theorem State.checkMatch_pending (s : State) :
    (s.checkMatch).pending = s.pending := by
  obtain ⟨_, _, h⟩ := State.checkMatch_frame s; rw [h]

/-- The path given to a string: contactors and the path alone. -/
theorem State.startPrecharge_frame (s : State) (i : Fin 8) :
    ∃ x0 x1, s.startPrecharge i = { s with contactors := x0, serving := x1 } := by
  simp only [State.startPrecharge]
  obtain ⟨_, _, h⟩ := State.checkMatch_frame
    { s.setContactor i (s.contactors[i].enter (.precharging (s.now + Config.prechargeTime)) s.now) with serving := some i }
  rw [h]; exact ⟨_, _, rfl⟩

/-- The arbiter: contactors and the path alone. -/
theorem State.arbitrate_frame (n : Nat) (s : State) :
    ∃ x0 x1, State.arbitrate n s = { s with contactors := x0, serving := x1 } := by
  induction n generalizing s with
  | zero => exact ⟨_, _, rfl⟩
  | succ n ih =>
    simp only [State.arbitrate]
    split
    · obtain ⟨_, _, h⟩ := State.startPrecharge_frame s _
      obtain ⟨_, _, h2⟩ := ih (s.startPrecharge _)
      rw [h2, h]; exact ⟨_, _, rfl⟩
    · exact ⟨_, _, rfl⟩

/-- The Connection Sequencer at an event: contactors and the path alone. -/
theorem State.connectStage_frame (s : State) :
    ∃ x0 x1, s.connectStage = { s with contactors := x0, serving := x1 } := by
  simp only [State.connectStage]
  obtain ⟨_, _, h⟩ := State.arbitrate_frame 8 (({ s with contactors := tab8 s.connectString }).freePath)
  rw [h]; exact ⟨_, _, rfl⟩

@[simp] theorem State.connectStage_slots (s : State) :
    (s.connectStage).slots = s.slots := by
  obtain ⟨_, _, h⟩ := State.connectStage_frame s; rw [h]

@[simp] theorem State.connectStage_doorReleased (s : State) :
    (s.connectStage).doorReleased = s.doorReleased := by
  obtain ⟨_, _, h⟩ := State.connectStage_frame s; rw [h]

@[simp] theorem State.connectStage_crewKey (s : State) :
    (s.connectStage).crewKey = s.crewKey := by
  obtain ⟨_, _, h⟩ := State.connectStage_frame s; rw [h]

@[simp] theorem State.connectStage_door (s : State) :
    (s.connectStage).door = s.door := by
  obtain ⟨_, _, h⟩ := State.connectStage_frame s; rw [h]

@[simp] theorem State.connectStage_strings (s : State) :
    (s.connectStage).strings = s.strings := by
  obtain ⟨_, _, h⟩ := State.connectStage_frame s; rw [h]

@[simp] theorem State.connectStage_buses (s : State) :
    (s.connectStage).buses = s.buses := by
  obtain ⟨_, _, h⟩ := State.connectStage_frame s; rw [h]

@[simp] theorem State.connectStage_fire (s : State) :
    (s.connectStage).fire = s.fire := by
  obtain ⟨_, _, h⟩ := State.connectStage_frame s; rw [h]

@[simp] theorem State.connectStage_cooling (s : State) :
    (s.connectStage).cooling = s.cooling := by
  obtain ⟨_, _, h⟩ := State.connectStage_frame s; rw [h]

@[simp] theorem State.connectStage_breaker (s : State) :
    (s.connectStage).breaker = s.breaker := by
  obtain ⟨_, _, h⟩ := State.connectStage_frame s; rw [h]

@[simp] theorem State.connectStage_link (s : State) :
    (s.connectStage).link = s.link := by
  obtain ⟨_, _, h⟩ := State.connectStage_frame s; rw [h]

@[simp] theorem State.connectStage_orderMemory (s : State) :
    (s.connectStage).orderMemory = s.orderMemory := by
  obtain ⟨_, _, h⟩ := State.connectStage_frame s; rw [h]

@[simp] theorem State.connectStage_transaction (s : State) :
    (s.connectStage).transaction = s.transaction := by
  obtain ⟨_, _, h⟩ := State.connectStage_frame s; rw [h]

@[simp] theorem State.connectStage_runner (s : State) :
    (s.connectStage).runner = s.runner := by
  obtain ⟨_, _, h⟩ := State.connectStage_frame s; rw [h]

@[simp] theorem State.connectStage_attention (s : State) :
    (s.connectStage).attention = s.attention := by
  obtain ⟨_, _, h⟩ := State.connectStage_frame s; rw [h]

@[simp] theorem State.connectStage_unit (s : State) :
    (s.connectStage).unit = s.unit := by
  obtain ⟨_, _, h⟩ := State.connectStage_frame s; rw [h]

@[simp] theorem State.connectStage_now (s : State) :
    (s.connectStage).now = s.now := by
  obtain ⟨_, _, h⟩ := State.connectStage_frame s; rw [h]

@[simp] theorem State.connectStage_loaded (s : State) :
    (s.connectStage).loaded = s.loaded := by
  obtain ⟨_, _, h⟩ := State.connectStage_frame s; rw [h]

@[simp] theorem State.connectStage_answer (s : State) :
    (s.connectStage).answer = s.answer := by
  obtain ⟨_, _, h⟩ := State.connectStage_frame s; rw [h]

@[simp] theorem State.connectStage_draws (s : State) :
    (s.connectStage).draws = s.draws := by
  obtain ⟨_, _, h⟩ := State.connectStage_frame s; rw [h]

@[simp] theorem State.connectStage_pending (s : State) :
    (s.connectStage).pending = s.pending := by
  obtain ⟨_, _, h⟩ := State.connectStage_frame s; rw [h]

/-- The completion of isolations: slots and attention alone. -/
theorem State.isolateStage_frame (s : State) (granted : Option (Fin 48)) :
    ∃ x0 x1, s.isolateStage granted = { s with slots := x0, attention := x1 } := by
  refine foldl_rel (fun s t => ∃ x0 x1, t = { s with slots := x0, attention := x1 }) ?_ ?_ _ ?_ allSlots s
  · intro s; exact ⟨_, _, rfl⟩
  · rintro a _ _ ⟨_, _, rfl⟩ ⟨_, _, rfl⟩; exact ⟨_, _, rfl⟩
  · intro t i
    split
    · split
      · split <;> exact ⟨_, _, rfl⟩
      · exact ⟨_, _, rfl⟩
    · exact ⟨_, _, rfl⟩

@[simp] theorem State.isolateStage_doorReleased (s : State) (granted : Option (Fin 48)) :
    (s.isolateStage granted).doorReleased = s.doorReleased := by
  obtain ⟨_, _, h⟩ := State.isolateStage_frame s granted; rw [h]

@[simp] theorem State.isolateStage_crewKey (s : State) (granted : Option (Fin 48)) :
    (s.isolateStage granted).crewKey = s.crewKey := by
  obtain ⟨_, _, h⟩ := State.isolateStage_frame s granted; rw [h]

@[simp] theorem State.isolateStage_door (s : State) (granted : Option (Fin 48)) :
    (s.isolateStage granted).door = s.door := by
  obtain ⟨_, _, h⟩ := State.isolateStage_frame s granted; rw [h]

@[simp] theorem State.isolateStage_strings (s : State) (granted : Option (Fin 48)) :
    (s.isolateStage granted).strings = s.strings := by
  obtain ⟨_, _, h⟩ := State.isolateStage_frame s granted; rw [h]

@[simp] theorem State.isolateStage_buses (s : State) (granted : Option (Fin 48)) :
    (s.isolateStage granted).buses = s.buses := by
  obtain ⟨_, _, h⟩ := State.isolateStage_frame s granted; rw [h]

@[simp] theorem State.isolateStage_fire (s : State) (granted : Option (Fin 48)) :
    (s.isolateStage granted).fire = s.fire := by
  obtain ⟨_, _, h⟩ := State.isolateStage_frame s granted; rw [h]

@[simp] theorem State.isolateStage_cooling (s : State) (granted : Option (Fin 48)) :
    (s.isolateStage granted).cooling = s.cooling := by
  obtain ⟨_, _, h⟩ := State.isolateStage_frame s granted; rw [h]

@[simp] theorem State.isolateStage_contactors (s : State) (granted : Option (Fin 48)) :
    (s.isolateStage granted).contactors = s.contactors := by
  obtain ⟨_, _, h⟩ := State.isolateStage_frame s granted; rw [h]

@[simp] theorem State.isolateStage_serving (s : State) (granted : Option (Fin 48)) :
    (s.isolateStage granted).serving = s.serving := by
  obtain ⟨_, _, h⟩ := State.isolateStage_frame s granted; rw [h]

@[simp] theorem State.isolateStage_breaker (s : State) (granted : Option (Fin 48)) :
    (s.isolateStage granted).breaker = s.breaker := by
  obtain ⟨_, _, h⟩ := State.isolateStage_frame s granted; rw [h]

@[simp] theorem State.isolateStage_link (s : State) (granted : Option (Fin 48)) :
    (s.isolateStage granted).link = s.link := by
  obtain ⟨_, _, h⟩ := State.isolateStage_frame s granted; rw [h]

@[simp] theorem State.isolateStage_orderMemory (s : State) (granted : Option (Fin 48)) :
    (s.isolateStage granted).orderMemory = s.orderMemory := by
  obtain ⟨_, _, h⟩ := State.isolateStage_frame s granted; rw [h]

@[simp] theorem State.isolateStage_transaction (s : State) (granted : Option (Fin 48)) :
    (s.isolateStage granted).transaction = s.transaction := by
  obtain ⟨_, _, h⟩ := State.isolateStage_frame s granted; rw [h]

@[simp] theorem State.isolateStage_runner (s : State) (granted : Option (Fin 48)) :
    (s.isolateStage granted).runner = s.runner := by
  obtain ⟨_, _, h⟩ := State.isolateStage_frame s granted; rw [h]

@[simp] theorem State.isolateStage_unit (s : State) (granted : Option (Fin 48)) :
    (s.isolateStage granted).unit = s.unit := by
  obtain ⟨_, _, h⟩ := State.isolateStage_frame s granted; rw [h]

@[simp] theorem State.isolateStage_now (s : State) (granted : Option (Fin 48)) :
    (s.isolateStage granted).now = s.now := by
  obtain ⟨_, _, h⟩ := State.isolateStage_frame s granted; rw [h]

@[simp] theorem State.isolateStage_loaded (s : State) (granted : Option (Fin 48)) :
    (s.isolateStage granted).loaded = s.loaded := by
  obtain ⟨_, _, h⟩ := State.isolateStage_frame s granted; rw [h]

@[simp] theorem State.isolateStage_answer (s : State) (granted : Option (Fin 48)) :
    (s.isolateStage granted).answer = s.answer := by
  obtain ⟨_, _, h⟩ := State.isolateStage_frame s granted; rw [h]

@[simp] theorem State.isolateStage_draws (s : State) (granted : Option (Fin 48)) :
    (s.isolateStage granted).draws = s.draws := by
  obtain ⟨_, _, h⟩ := State.isolateStage_frame s granted; rw [h]

@[simp] theorem State.isolateStage_pending (s : State) (granted : Option (Fin 48)) :
    (s.isolateStage granted).pending = s.pending := by
  obtain ⟨_, _, h⟩ := State.isolateStage_frame s granted; rw [h]

/-- The entry of a bay to an alarm state, handed on: slots, breaker, attention, contactors and the path alone. -/
theorem State.alarmEntry_frame (s : State) (k : Fin 4) :
    ∃ x0 x1 x2 x3 x4, s.alarmEntry k = { s with slots := x0, breaker := x1, attention := x2, contactors := x3, serving := x4 } := by
  simp only [State.alarmEntry]
  obtain ⟨_, _, _, h⟩ := State.revokeWhere_frame s (fun p => p.kind == .connect ||
    ((p.kind == .charge || p.kind == .discharge) && meetsBay p.scope k)) .fire
  obtain ⟨_, _, h2⟩ := State.tripBreaker_frame (s.revokeWhere (fun p => p.kind == .connect ||
    ((p.kind == .charge || p.kind == .discharge) && meetsBay p.scope k)) .fire)
  rw [h2, h]; exact ⟨_, _, _, _, _, rfl⟩

/-- The alarm entries of an event. -/
theorem State.alarmStage_frame (s : State) (entries : List (Fin 4)) :
    ∃ x0 x1 x2 x3 x4, s.alarmStage entries = { s with slots := x0, breaker := x1, attention := x2, contactors := x3, serving := x4 } := by
  refine foldl_rel (fun s t => ∃ x0 x1 x2 x3 x4, t = { s with slots := x0, breaker := x1, attention := x2, contactors := x3, serving := x4 }) ?_ ?_ _ ?_ entries s
  · intro s; exact ⟨_, _, _, _, _, rfl⟩
  · rintro a _ _ ⟨_, _, _, _, _, rfl⟩ ⟨_, _, _, _, _, rfl⟩; exact ⟨_, _, _, _, _, rfl⟩
  · intro t k; exact State.alarmEntry_frame t k

/-- The fire evaluation of an event with its alarm entries. -/
theorem State.fireAndAlarm_frame (s : State) :
    ∃ x0 x1 x2 x3 x4 x5, s.fireAndAlarm = { s with slots := x0, breaker := x1, attention := x2, contactors := x3, serving := x4, fire := x5 } := by
  simp only [State.fireAndAlarm]
  obtain ⟨_, _, _, _, _, h⟩ := State.alarmStage_frame s.fireStage (alarmEntries s.fire s.fireStage.fire)
  obtain ⟨_, _, h2⟩ := State.fireStage_frame s
  rw [h, h2]; exact ⟨_, _, _, _, _, _, rfl⟩

@[simp] theorem State.fireAndAlarm_doorReleased (s : State) :
    (s.fireAndAlarm).doorReleased = s.doorReleased := by
  obtain ⟨_, _, _, _, _, _, h⟩ := State.fireAndAlarm_frame s; rw [h]

@[simp] theorem State.fireAndAlarm_crewKey (s : State) :
    (s.fireAndAlarm).crewKey = s.crewKey := by
  obtain ⟨_, _, _, _, _, _, h⟩ := State.fireAndAlarm_frame s; rw [h]

@[simp] theorem State.fireAndAlarm_door (s : State) :
    (s.fireAndAlarm).door = s.door := by
  obtain ⟨_, _, _, _, _, _, h⟩ := State.fireAndAlarm_frame s; rw [h]

@[simp] theorem State.fireAndAlarm_strings (s : State) :
    (s.fireAndAlarm).strings = s.strings := by
  obtain ⟨_, _, _, _, _, _, h⟩ := State.fireAndAlarm_frame s; rw [h]

@[simp] theorem State.fireAndAlarm_buses (s : State) :
    (s.fireAndAlarm).buses = s.buses := by
  obtain ⟨_, _, _, _, _, _, h⟩ := State.fireAndAlarm_frame s; rw [h]

@[simp] theorem State.fireAndAlarm_cooling (s : State) :
    (s.fireAndAlarm).cooling = s.cooling := by
  obtain ⟨_, _, _, _, _, _, h⟩ := State.fireAndAlarm_frame s; rw [h]

@[simp] theorem State.fireAndAlarm_link (s : State) :
    (s.fireAndAlarm).link = s.link := by
  obtain ⟨_, _, _, _, _, _, h⟩ := State.fireAndAlarm_frame s; rw [h]

@[simp] theorem State.fireAndAlarm_orderMemory (s : State) :
    (s.fireAndAlarm).orderMemory = s.orderMemory := by
  obtain ⟨_, _, _, _, _, _, h⟩ := State.fireAndAlarm_frame s; rw [h]

@[simp] theorem State.fireAndAlarm_transaction (s : State) :
    (s.fireAndAlarm).transaction = s.transaction := by
  obtain ⟨_, _, _, _, _, _, h⟩ := State.fireAndAlarm_frame s; rw [h]

@[simp] theorem State.fireAndAlarm_runner (s : State) :
    (s.fireAndAlarm).runner = s.runner := by
  obtain ⟨_, _, _, _, _, _, h⟩ := State.fireAndAlarm_frame s; rw [h]

@[simp] theorem State.fireAndAlarm_unit (s : State) :
    (s.fireAndAlarm).unit = s.unit := by
  obtain ⟨_, _, _, _, _, _, h⟩ := State.fireAndAlarm_frame s; rw [h]

@[simp] theorem State.fireAndAlarm_now (s : State) :
    (s.fireAndAlarm).now = s.now := by
  obtain ⟨_, _, _, _, _, _, h⟩ := State.fireAndAlarm_frame s; rw [h]

@[simp] theorem State.fireAndAlarm_loaded (s : State) :
    (s.fireAndAlarm).loaded = s.loaded := by
  obtain ⟨_, _, _, _, _, _, h⟩ := State.fireAndAlarm_frame s; rw [h]

@[simp] theorem State.fireAndAlarm_answer (s : State) :
    (s.fireAndAlarm).answer = s.answer := by
  obtain ⟨_, _, _, _, _, _, h⟩ := State.fireAndAlarm_frame s; rw [h]

@[simp] theorem State.fireAndAlarm_draws (s : State) :
    (s.fireAndAlarm).draws = s.draws := by
  obtain ⟨_, _, _, _, _, _, h⟩ := State.fireAndAlarm_frame s; rw [h]

@[simp] theorem State.fireAndAlarm_pending (s : State) :
    (s.fireAndAlarm).pending = s.pending := by
  obtain ⟨_, _, _, _, _, _, h⟩ := State.fireAndAlarm_frame s; rw [h]

/-! ### The Converter Link and start-up -/

/-- The transmitter at an event: the link and the notice mark of a slot alone. -/
theorem State.linkStage_frame (s : State) :
    ∃ x0 x1, s.linkStage = { s with slots := x0, link := x1 } := by
  simp only [State.linkStage]
  split
  · split
    · exact ⟨_, _, rfl⟩
    · split
      · split <;> exact ⟨_, _, rfl⟩
      · exact ⟨_, _, rfl⟩
  · exact ⟨_, _, rfl⟩

@[simp] theorem State.linkStage_doorReleased (s : State) :
    (s.linkStage).doorReleased = s.doorReleased := by
  obtain ⟨_, _, h⟩ := State.linkStage_frame s; rw [h]

@[simp] theorem State.linkStage_crewKey (s : State) :
    (s.linkStage).crewKey = s.crewKey := by
  obtain ⟨_, _, h⟩ := State.linkStage_frame s; rw [h]

@[simp] theorem State.linkStage_door (s : State) :
    (s.linkStage).door = s.door := by
  obtain ⟨_, _, h⟩ := State.linkStage_frame s; rw [h]

@[simp] theorem State.linkStage_strings (s : State) :
    (s.linkStage).strings = s.strings := by
  obtain ⟨_, _, h⟩ := State.linkStage_frame s; rw [h]

@[simp] theorem State.linkStage_buses (s : State) :
    (s.linkStage).buses = s.buses := by
  obtain ⟨_, _, h⟩ := State.linkStage_frame s; rw [h]

@[simp] theorem State.linkStage_fire (s : State) :
    (s.linkStage).fire = s.fire := by
  obtain ⟨_, _, h⟩ := State.linkStage_frame s; rw [h]

@[simp] theorem State.linkStage_cooling (s : State) :
    (s.linkStage).cooling = s.cooling := by
  obtain ⟨_, _, h⟩ := State.linkStage_frame s; rw [h]

@[simp] theorem State.linkStage_contactors (s : State) :
    (s.linkStage).contactors = s.contactors := by
  obtain ⟨_, _, h⟩ := State.linkStage_frame s; rw [h]

@[simp] theorem State.linkStage_serving (s : State) :
    (s.linkStage).serving = s.serving := by
  obtain ⟨_, _, h⟩ := State.linkStage_frame s; rw [h]

@[simp] theorem State.linkStage_breaker (s : State) :
    (s.linkStage).breaker = s.breaker := by
  obtain ⟨_, _, h⟩ := State.linkStage_frame s; rw [h]

@[simp] theorem State.linkStage_orderMemory (s : State) :
    (s.linkStage).orderMemory = s.orderMemory := by
  obtain ⟨_, _, h⟩ := State.linkStage_frame s; rw [h]

@[simp] theorem State.linkStage_transaction (s : State) :
    (s.linkStage).transaction = s.transaction := by
  obtain ⟨_, _, h⟩ := State.linkStage_frame s; rw [h]

@[simp] theorem State.linkStage_runner (s : State) :
    (s.linkStage).runner = s.runner := by
  obtain ⟨_, _, h⟩ := State.linkStage_frame s; rw [h]

@[simp] theorem State.linkStage_attention (s : State) :
    (s.linkStage).attention = s.attention := by
  obtain ⟨_, _, h⟩ := State.linkStage_frame s; rw [h]

@[simp] theorem State.linkStage_unit (s : State) :
    (s.linkStage).unit = s.unit := by
  obtain ⟨_, _, h⟩ := State.linkStage_frame s; rw [h]

@[simp] theorem State.linkStage_now (s : State) :
    (s.linkStage).now = s.now := by
  obtain ⟨_, _, h⟩ := State.linkStage_frame s; rw [h]

@[simp] theorem State.linkStage_loaded (s : State) :
    (s.linkStage).loaded = s.loaded := by
  obtain ⟨_, _, h⟩ := State.linkStage_frame s; rw [h]

@[simp] theorem State.linkStage_answer (s : State) :
    (s.linkStage).answer = s.answer := by
  obtain ⟨_, _, h⟩ := State.linkStage_frame s; rw [h]

@[simp] theorem State.linkStage_draws (s : State) :
    (s.linkStage).draws = s.draws := by
  obtain ⟨_, _, h⟩ := State.linkStage_frame s; rw [h]

@[simp] theorem State.linkStage_pending (s : State) :
    (s.linkStage).pending = s.pending := by
  obtain ⟨_, _, h⟩ := State.linkStage_frame s; rw [h]

/-- The end of start-up: the start-up record and attention alone. -/
theorem State.startUpStage_frame (s : State) :
    ∃ x0 x1, s.startUpStage = { s with unit := { s.unit with startUp := x0 }, attention := x1 } := by
  simp only [State.startUpStage]
  split
  · exact ⟨_, _, rfl⟩
  · split <;> exact ⟨_, _, rfl⟩

@[simp] theorem State.startUpStage_slots (s : State) :
    (s.startUpStage).slots = s.slots := by
  obtain ⟨_, _, h⟩ := State.startUpStage_frame s; rw [h]

@[simp] theorem State.startUpStage_doorReleased (s : State) :
    (s.startUpStage).doorReleased = s.doorReleased := by
  obtain ⟨_, _, h⟩ := State.startUpStage_frame s; rw [h]

@[simp] theorem State.startUpStage_crewKey (s : State) :
    (s.startUpStage).crewKey = s.crewKey := by
  obtain ⟨_, _, h⟩ := State.startUpStage_frame s; rw [h]

@[simp] theorem State.startUpStage_door (s : State) :
    (s.startUpStage).door = s.door := by
  obtain ⟨_, _, h⟩ := State.startUpStage_frame s; rw [h]

@[simp] theorem State.startUpStage_strings (s : State) :
    (s.startUpStage).strings = s.strings := by
  obtain ⟨_, _, h⟩ := State.startUpStage_frame s; rw [h]

@[simp] theorem State.startUpStage_buses (s : State) :
    (s.startUpStage).buses = s.buses := by
  obtain ⟨_, _, h⟩ := State.startUpStage_frame s; rw [h]

@[simp] theorem State.startUpStage_fire (s : State) :
    (s.startUpStage).fire = s.fire := by
  obtain ⟨_, _, h⟩ := State.startUpStage_frame s; rw [h]

@[simp] theorem State.startUpStage_cooling (s : State) :
    (s.startUpStage).cooling = s.cooling := by
  obtain ⟨_, _, h⟩ := State.startUpStage_frame s; rw [h]

@[simp] theorem State.startUpStage_contactors (s : State) :
    (s.startUpStage).contactors = s.contactors := by
  obtain ⟨_, _, h⟩ := State.startUpStage_frame s; rw [h]

@[simp] theorem State.startUpStage_serving (s : State) :
    (s.startUpStage).serving = s.serving := by
  obtain ⟨_, _, h⟩ := State.startUpStage_frame s; rw [h]

@[simp] theorem State.startUpStage_breaker (s : State) :
    (s.startUpStage).breaker = s.breaker := by
  obtain ⟨_, _, h⟩ := State.startUpStage_frame s; rw [h]

@[simp] theorem State.startUpStage_link (s : State) :
    (s.startUpStage).link = s.link := by
  obtain ⟨_, _, h⟩ := State.startUpStage_frame s; rw [h]

@[simp] theorem State.startUpStage_orderMemory (s : State) :
    (s.startUpStage).orderMemory = s.orderMemory := by
  obtain ⟨_, _, h⟩ := State.startUpStage_frame s; rw [h]

@[simp] theorem State.startUpStage_transaction (s : State) :
    (s.startUpStage).transaction = s.transaction := by
  obtain ⟨_, _, h⟩ := State.startUpStage_frame s; rw [h]

@[simp] theorem State.startUpStage_runner (s : State) :
    (s.startUpStage).runner = s.runner := by
  obtain ⟨_, _, h⟩ := State.startUpStage_frame s; rw [h]

@[simp] theorem State.startUpStage_mode (s : State) :
    (s.startUpStage).unit.mode = s.unit.mode := by
  obtain ⟨_, _, h⟩ := State.startUpStage_frame s; rw [h]

@[simp] theorem State.startUpStage_working (s : State) :
    (s.startUpStage).unit.working = s.unit.working := by
  obtain ⟨_, _, h⟩ := State.startUpStage_frame s; rw [h]

@[simp] theorem State.startUpStage_active (s : State) :
    (s.startUpStage).unit.active = s.unit.active := by
  obtain ⟨_, _, h⟩ := State.startUpStage_frame s; rw [h]

@[simp] theorem State.startUpStage_stored (s : State) :
    (s.startUpStage).unit.stored = s.unit.stored := by
  obtain ⟨_, _, h⟩ := State.startUpStage_frame s; rw [h]

@[simp] theorem State.startUpStage_storedGood (s : State) :
    (s.startUpStage).unit.storedGood = s.unit.storedGood := by
  obtain ⟨_, _, h⟩ := State.startUpStage_frame s; rw [h]

@[simp] theorem State.startUpStage_committed (s : State) :
    (s.startUpStage).unit.committed = s.unit.committed := by
  obtain ⟨_, _, h⟩ := State.startUpStage_frame s; rw [h]

@[simp] theorem State.startUpStage_writing (s : State) :
    (s.startUpStage).unit.writing = s.unit.writing := by
  obtain ⟨_, _, h⟩ := State.startUpStage_frame s; rw [h]

@[simp] theorem State.startUpStage_clock (s : State) :
    (s.startUpStage).unit.clock = s.unit.clock := by
  obtain ⟨_, _, h⟩ := State.startUpStage_frame s; rw [h]

@[simp] theorem State.startUpStage_nextSecond (s : State) :
    (s.startUpStage).unit.nextSecond = s.unit.nextSecond := by
  obtain ⟨_, _, h⟩ := State.startUpStage_frame s; rw [h]

@[simp] theorem State.startUpStage_now (s : State) :
    (s.startUpStage).now = s.now := by
  obtain ⟨_, _, h⟩ := State.startUpStage_frame s; rw [h]

@[simp] theorem State.startUpStage_loaded (s : State) :
    (s.startUpStage).loaded = s.loaded := by
  obtain ⟨_, _, h⟩ := State.startUpStage_frame s; rw [h]

@[simp] theorem State.startUpStage_answer (s : State) :
    (s.startUpStage).answer = s.answer := by
  obtain ⟨_, _, h⟩ := State.startUpStage_frame s; rw [h]

@[simp] theorem State.startUpStage_draws (s : State) :
    (s.startUpStage).draws = s.draws := by
  obtain ⟨_, _, h⟩ := State.startUpStage_frame s; rw [h]

@[simp] theorem State.startUpStage_pending (s : State) :
    (s.startUpStage).pending = s.pending := by
  obtain ⟨_, _, h⟩ := State.startUpStage_frame s; rw [h]

/-- A hand-off to the start-up record: that record alone. -/
theorem State.noteStartUp_frame (s : State) (b : Fin 8) (f : BusStart → BusStart) :
    ∃ x0, s.noteStartUp b f = { s with unit := { s.unit with startUp := x0 } } := by
  simp only [State.noteStartUp]
  split <;> exact ⟨_, rfl⟩

@[simp] theorem State.noteStartUp_slots (s : State) (b : Fin 8) (f : BusStart → BusStart) :
    (s.noteStartUp b f).slots = s.slots := by
  obtain ⟨_, h⟩ := State.noteStartUp_frame s b f; rw [h]

@[simp] theorem State.noteStartUp_doorReleased (s : State) (b : Fin 8) (f : BusStart → BusStart) :
    (s.noteStartUp b f).doorReleased = s.doorReleased := by
  obtain ⟨_, h⟩ := State.noteStartUp_frame s b f; rw [h]

@[simp] theorem State.noteStartUp_crewKey (s : State) (b : Fin 8) (f : BusStart → BusStart) :
    (s.noteStartUp b f).crewKey = s.crewKey := by
  obtain ⟨_, h⟩ := State.noteStartUp_frame s b f; rw [h]

@[simp] theorem State.noteStartUp_door (s : State) (b : Fin 8) (f : BusStart → BusStart) :
    (s.noteStartUp b f).door = s.door := by
  obtain ⟨_, h⟩ := State.noteStartUp_frame s b f; rw [h]

@[simp] theorem State.noteStartUp_strings (s : State) (b : Fin 8) (f : BusStart → BusStart) :
    (s.noteStartUp b f).strings = s.strings := by
  obtain ⟨_, h⟩ := State.noteStartUp_frame s b f; rw [h]

@[simp] theorem State.noteStartUp_buses (s : State) (b : Fin 8) (f : BusStart → BusStart) :
    (s.noteStartUp b f).buses = s.buses := by
  obtain ⟨_, h⟩ := State.noteStartUp_frame s b f; rw [h]

@[simp] theorem State.noteStartUp_fire (s : State) (b : Fin 8) (f : BusStart → BusStart) :
    (s.noteStartUp b f).fire = s.fire := by
  obtain ⟨_, h⟩ := State.noteStartUp_frame s b f; rw [h]

@[simp] theorem State.noteStartUp_cooling (s : State) (b : Fin 8) (f : BusStart → BusStart) :
    (s.noteStartUp b f).cooling = s.cooling := by
  obtain ⟨_, h⟩ := State.noteStartUp_frame s b f; rw [h]

@[simp] theorem State.noteStartUp_contactors (s : State) (b : Fin 8) (f : BusStart → BusStart) :
    (s.noteStartUp b f).contactors = s.contactors := by
  obtain ⟨_, h⟩ := State.noteStartUp_frame s b f; rw [h]

@[simp] theorem State.noteStartUp_serving (s : State) (b : Fin 8) (f : BusStart → BusStart) :
    (s.noteStartUp b f).serving = s.serving := by
  obtain ⟨_, h⟩ := State.noteStartUp_frame s b f; rw [h]

@[simp] theorem State.noteStartUp_breaker (s : State) (b : Fin 8) (f : BusStart → BusStart) :
    (s.noteStartUp b f).breaker = s.breaker := by
  obtain ⟨_, h⟩ := State.noteStartUp_frame s b f; rw [h]

@[simp] theorem State.noteStartUp_link (s : State) (b : Fin 8) (f : BusStart → BusStart) :
    (s.noteStartUp b f).link = s.link := by
  obtain ⟨_, h⟩ := State.noteStartUp_frame s b f; rw [h]

@[simp] theorem State.noteStartUp_orderMemory (s : State) (b : Fin 8) (f : BusStart → BusStart) :
    (s.noteStartUp b f).orderMemory = s.orderMemory := by
  obtain ⟨_, h⟩ := State.noteStartUp_frame s b f; rw [h]

@[simp] theorem State.noteStartUp_transaction (s : State) (b : Fin 8) (f : BusStart → BusStart) :
    (s.noteStartUp b f).transaction = s.transaction := by
  obtain ⟨_, h⟩ := State.noteStartUp_frame s b f; rw [h]

@[simp] theorem State.noteStartUp_runner (s : State) (b : Fin 8) (f : BusStart → BusStart) :
    (s.noteStartUp b f).runner = s.runner := by
  obtain ⟨_, h⟩ := State.noteStartUp_frame s b f; rw [h]

@[simp] theorem State.noteStartUp_attention (s : State) (b : Fin 8) (f : BusStart → BusStart) :
    (s.noteStartUp b f).attention = s.attention := by
  obtain ⟨_, h⟩ := State.noteStartUp_frame s b f; rw [h]

@[simp] theorem State.noteStartUp_mode (s : State) (b : Fin 8) (f : BusStart → BusStart) :
    (s.noteStartUp b f).unit.mode = s.unit.mode := by
  obtain ⟨_, h⟩ := State.noteStartUp_frame s b f; rw [h]

@[simp] theorem State.noteStartUp_working (s : State) (b : Fin 8) (f : BusStart → BusStart) :
    (s.noteStartUp b f).unit.working = s.unit.working := by
  obtain ⟨_, h⟩ := State.noteStartUp_frame s b f; rw [h]

@[simp] theorem State.noteStartUp_active (s : State) (b : Fin 8) (f : BusStart → BusStart) :
    (s.noteStartUp b f).unit.active = s.unit.active := by
  obtain ⟨_, h⟩ := State.noteStartUp_frame s b f; rw [h]

@[simp] theorem State.noteStartUp_stored (s : State) (b : Fin 8) (f : BusStart → BusStart) :
    (s.noteStartUp b f).unit.stored = s.unit.stored := by
  obtain ⟨_, h⟩ := State.noteStartUp_frame s b f; rw [h]

@[simp] theorem State.noteStartUp_storedGood (s : State) (b : Fin 8) (f : BusStart → BusStart) :
    (s.noteStartUp b f).unit.storedGood = s.unit.storedGood := by
  obtain ⟨_, h⟩ := State.noteStartUp_frame s b f; rw [h]

@[simp] theorem State.noteStartUp_committed (s : State) (b : Fin 8) (f : BusStart → BusStart) :
    (s.noteStartUp b f).unit.committed = s.unit.committed := by
  obtain ⟨_, h⟩ := State.noteStartUp_frame s b f; rw [h]

@[simp] theorem State.noteStartUp_writing (s : State) (b : Fin 8) (f : BusStart → BusStart) :
    (s.noteStartUp b f).unit.writing = s.unit.writing := by
  obtain ⟨_, h⟩ := State.noteStartUp_frame s b f; rw [h]

@[simp] theorem State.noteStartUp_clock (s : State) (b : Fin 8) (f : BusStart → BusStart) :
    (s.noteStartUp b f).unit.clock = s.unit.clock := by
  obtain ⟨_, h⟩ := State.noteStartUp_frame s b f; rw [h]

@[simp] theorem State.noteStartUp_nextSecond (s : State) (b : Fin 8) (f : BusStart → BusStart) :
    (s.noteStartUp b f).unit.nextSecond = s.unit.nextSecond := by
  obtain ⟨_, h⟩ := State.noteStartUp_frame s b f; rw [h]

@[simp] theorem State.noteStartUp_now (s : State) (b : Fin 8) (f : BusStart → BusStart) :
    (s.noteStartUp b f).now = s.now := by
  obtain ⟨_, h⟩ := State.noteStartUp_frame s b f; rw [h]

@[simp] theorem State.noteStartUp_loaded (s : State) (b : Fin 8) (f : BusStart → BusStart) :
    (s.noteStartUp b f).loaded = s.loaded := by
  obtain ⟨_, h⟩ := State.noteStartUp_frame s b f; rw [h]

@[simp] theorem State.noteStartUp_answer (s : State) (b : Fin 8) (f : BusStart → BusStart) :
    (s.noteStartUp b f).answer = s.answer := by
  obtain ⟨_, h⟩ := State.noteStartUp_frame s b f; rw [h]

@[simp] theorem State.noteStartUp_draws (s : State) (b : Fin 8) (f : BusStart → BusStart) :
    (s.noteStartUp b f).draws = s.draws := by
  obtain ⟨_, h⟩ := State.noteStartUp_frame s b f; rw [h]

@[simp] theorem State.noteStartUp_pending (s : State) (b : Fin 8) (f : BusStart → BusStart) :
    (s.noteStartUp b f).pending = s.pending := by
  obtain ⟨_, h⟩ := State.noteStartUp_frame s b f; rw [h]

/-! ### The settling of an event -/

/-- What the settling of an event may change: a state that differs from another in these fields alone. -/
def State.SettlesTo (s t : State) : Prop :=
  ∃ x0 x1 x2 x3 x4 x5 x6 x7 x8 x9 x10, t = { s with slots := x0, doorReleased := x1, strings := x2, fire := x3, cooling := x4, contactors := x5, serving := x6, breaker := x7, link := x8, attention := x9, unit := { s.unit with startUp := x10 } }

theorem State.SettlesTo.trans {s t u : State} (h : s.SettlesTo t) (k : t.SettlesTo u) : s.SettlesTo u := by
  obtain ⟨_, _, _, _, _, _, _, _, _, _, _, rfl⟩ := h
  obtain ⟨_, _, _, _, _, _, _, _, _, _, _, rfl⟩ := k
  exact ⟨_, _, _, _, _, _, _, _, _, _, _, rfl⟩

theorem State.doorStage_settles (s : State) : s.SettlesTo (s.doorStage) := by
  exact ⟨_, _, _, _, _, _, _, _, _, _, _, rfl⟩

theorem State.fireAndAlarm_settles (s : State) : s.SettlesTo (s.fireAndAlarm) := by
  obtain ⟨_, _, _, _, _, _, h⟩ := State.fireAndAlarm_frame s; rw [h]; exact ⟨_, _, _, _, _, _, _, _, _, _, _, rfl⟩

theorem State.coolStage_settles (s : State) : s.SettlesTo (s.coolStage) := by
  exact ⟨_, _, _, _, _, _, _, _, _, _, _, rfl⟩

theorem State.connectStage_settles (s : State) : s.SettlesTo (s.connectStage) := by
  obtain ⟨_, _, h⟩ := State.connectStage_frame s; rw [h]; exact ⟨_, _, _, _, _, _, _, _, _, _, _, rfl⟩

theorem State.isolateStage_settles (s : State) (g : Option (Fin 48)) : s.SettlesTo (s.isolateStage g) := by
  obtain ⟨_, _, h⟩ := State.isolateStage_frame s g; rw [h]; exact ⟨_, _, _, _, _, _, _, _, _, _, _, rfl⟩

theorem State.evaluateStage_settles (s : State) : s.SettlesTo (s.evaluateStage) := by
  obtain ⟨_, _, _, h⟩ := State.evaluateStage_frame s; rw [h]; exact ⟨_, _, _, _, _, _, _, _, _, _, _, rfl⟩

theorem State.linkStage_settles (s : State) : s.SettlesTo (s.linkStage) := by
  obtain ⟨_, _, h⟩ := State.linkStage_frame s; rw [h]; exact ⟨_, _, _, _, _, _, _, _, _, _, _, rfl⟩

theorem State.startUpStage_settles (s : State) : s.SettlesTo (s.startUpStage) := by
  obtain ⟨_, _, h⟩ := State.startUpStage_frame s; rw [h]; exact ⟨_, _, _, _, _, _, _, _, _, _, _, rfl⟩

/-- What the settling of an event may change. -/
theorem State.settleWith_frame (s : State) (granted : Option (Fin 48)) :
    ∃ x0 x1 x2 x3 x4 x5 x6 x7 x8 x9 x10, s.settleWith granted = { s with slots := x0, doorReleased := x1, strings := x2, fire := x3, cooling := x4, contactors := x5, serving := x6, breaker := x7, link := x8, attention := x9, unit := { s.unit with startUp := x10 } } := (((((((s.doorStage_settles).trans (State.fireAndAlarm_settles _)).trans
    (State.coolStage_settles _)).trans (State.connectStage_settles _)).trans (State.isolateStage_settles _ granted)).trans
    (State.evaluateStage_settles _)).trans (State.linkStage_settles _)).trans (State.startUpStage_settles _)

@[simp] theorem State.settleWith_crewKey (s : State) (granted : Option (Fin 48)) :
    (s.settleWith granted).crewKey = s.crewKey := by
  obtain ⟨_, _, _, _, _, _, _, _, _, _, _, h⟩ := State.settleWith_frame s granted; rw [h]

@[simp] theorem State.settleWith_door (s : State) (granted : Option (Fin 48)) :
    (s.settleWith granted).door = s.door := by
  obtain ⟨_, _, _, _, _, _, _, _, _, _, _, h⟩ := State.settleWith_frame s granted; rw [h]

@[simp] theorem State.settleWith_buses (s : State) (granted : Option (Fin 48)) :
    (s.settleWith granted).buses = s.buses := by
  obtain ⟨_, _, _, _, _, _, _, _, _, _, _, h⟩ := State.settleWith_frame s granted; rw [h]

@[simp] theorem State.settleWith_orderMemory (s : State) (granted : Option (Fin 48)) :
    (s.settleWith granted).orderMemory = s.orderMemory := by
  obtain ⟨_, _, _, _, _, _, _, _, _, _, _, h⟩ := State.settleWith_frame s granted; rw [h]

@[simp] theorem State.settleWith_transaction (s : State) (granted : Option (Fin 48)) :
    (s.settleWith granted).transaction = s.transaction := by
  obtain ⟨_, _, _, _, _, _, _, _, _, _, _, h⟩ := State.settleWith_frame s granted; rw [h]

@[simp] theorem State.settleWith_runner (s : State) (granted : Option (Fin 48)) :
    (s.settleWith granted).runner = s.runner := by
  obtain ⟨_, _, _, _, _, _, _, _, _, _, _, h⟩ := State.settleWith_frame s granted; rw [h]

@[simp] theorem State.settleWith_mode (s : State) (granted : Option (Fin 48)) :
    (s.settleWith granted).unit.mode = s.unit.mode := by
  obtain ⟨_, _, _, _, _, _, _, _, _, _, _, h⟩ := State.settleWith_frame s granted; rw [h]

@[simp] theorem State.settleWith_working (s : State) (granted : Option (Fin 48)) :
    (s.settleWith granted).unit.working = s.unit.working := by
  obtain ⟨_, _, _, _, _, _, _, _, _, _, _, h⟩ := State.settleWith_frame s granted; rw [h]

@[simp] theorem State.settleWith_active (s : State) (granted : Option (Fin 48)) :
    (s.settleWith granted).unit.active = s.unit.active := by
  obtain ⟨_, _, _, _, _, _, _, _, _, _, _, h⟩ := State.settleWith_frame s granted; rw [h]

@[simp] theorem State.settleWith_stored (s : State) (granted : Option (Fin 48)) :
    (s.settleWith granted).unit.stored = s.unit.stored := by
  obtain ⟨_, _, _, _, _, _, _, _, _, _, _, h⟩ := State.settleWith_frame s granted; rw [h]

@[simp] theorem State.settleWith_storedGood (s : State) (granted : Option (Fin 48)) :
    (s.settleWith granted).unit.storedGood = s.unit.storedGood := by
  obtain ⟨_, _, _, _, _, _, _, _, _, _, _, h⟩ := State.settleWith_frame s granted; rw [h]

@[simp] theorem State.settleWith_committed (s : State) (granted : Option (Fin 48)) :
    (s.settleWith granted).unit.committed = s.unit.committed := by
  obtain ⟨_, _, _, _, _, _, _, _, _, _, _, h⟩ := State.settleWith_frame s granted; rw [h]

@[simp] theorem State.settleWith_writing (s : State) (granted : Option (Fin 48)) :
    (s.settleWith granted).unit.writing = s.unit.writing := by
  obtain ⟨_, _, _, _, _, _, _, _, _, _, _, h⟩ := State.settleWith_frame s granted; rw [h]

@[simp] theorem State.settleWith_clock (s : State) (granted : Option (Fin 48)) :
    (s.settleWith granted).unit.clock = s.unit.clock := by
  obtain ⟨_, _, _, _, _, _, _, _, _, _, _, h⟩ := State.settleWith_frame s granted; rw [h]

@[simp] theorem State.settleWith_nextSecond (s : State) (granted : Option (Fin 48)) :
    (s.settleWith granted).unit.nextSecond = s.unit.nextSecond := by
  obtain ⟨_, _, _, _, _, _, _, _, _, _, _, h⟩ := State.settleWith_frame s granted; rw [h]

@[simp] theorem State.settleWith_now (s : State) (granted : Option (Fin 48)) :
    (s.settleWith granted).now = s.now := by
  obtain ⟨_, _, _, _, _, _, _, _, _, _, _, h⟩ := State.settleWith_frame s granted; rw [h]

@[simp] theorem State.settleWith_loaded (s : State) (granted : Option (Fin 48)) :
    (s.settleWith granted).loaded = s.loaded := by
  obtain ⟨_, _, _, _, _, _, _, _, _, _, _, h⟩ := State.settleWith_frame s granted; rw [h]

@[simp] theorem State.settleWith_answer (s : State) (granted : Option (Fin 48)) :
    (s.settleWith granted).answer = s.answer := by
  obtain ⟨_, _, _, _, _, _, _, _, _, _, _, h⟩ := State.settleWith_frame s granted; rw [h]

@[simp] theorem State.settleWith_draws (s : State) (granted : Option (Fin 48)) :
    (s.settleWith granted).draws = s.draws := by
  obtain ⟨_, _, _, _, _, _, _, _, _, _, _, h⟩ := State.settleWith_frame s granted; rw [h]

@[simp] theorem State.settleWith_pending (s : State) (granted : Option (Fin 48)) :
    (s.settleWith granted).pending = s.pending := by
  obtain ⟨_, _, _, _, _, _, _, _, _, _, _, h⟩ := State.settleWith_frame s granted; rw [h]

/-- What the settling of an event may change. -/
theorem State.settle_frame (s : State) :
    ∃ x0 x1 x2 x3 x4 x5 x6 x7 x8 x9 x10, s.settle = { s with slots := x0, doorReleased := x1, strings := x2, fire := x3, cooling := x4, contactors := x5, serving := x6, breaker := x7, link := x8, attention := x9, unit := { s.unit with startUp := x10 } } := State.settleWith_frame s none

@[simp] theorem State.settle_crewKey (s : State) :
    (s.settle).crewKey = s.crewKey := by
  obtain ⟨_, _, _, _, _, _, _, _, _, _, _, h⟩ := State.settle_frame s; rw [h]

@[simp] theorem State.settle_door (s : State) :
    (s.settle).door = s.door := by
  obtain ⟨_, _, _, _, _, _, _, _, _, _, _, h⟩ := State.settle_frame s; rw [h]

@[simp] theorem State.settle_buses (s : State) :
    (s.settle).buses = s.buses := by
  obtain ⟨_, _, _, _, _, _, _, _, _, _, _, h⟩ := State.settle_frame s; rw [h]

@[simp] theorem State.settle_orderMemory (s : State) :
    (s.settle).orderMemory = s.orderMemory := by
  obtain ⟨_, _, _, _, _, _, _, _, _, _, _, h⟩ := State.settle_frame s; rw [h]

@[simp] theorem State.settle_transaction (s : State) :
    (s.settle).transaction = s.transaction := by
  obtain ⟨_, _, _, _, _, _, _, _, _, _, _, h⟩ := State.settle_frame s; rw [h]

@[simp] theorem State.settle_runner (s : State) :
    (s.settle).runner = s.runner := by
  obtain ⟨_, _, _, _, _, _, _, _, _, _, _, h⟩ := State.settle_frame s; rw [h]

@[simp] theorem State.settle_mode (s : State) :
    (s.settle).unit.mode = s.unit.mode := by
  obtain ⟨_, _, _, _, _, _, _, _, _, _, _, h⟩ := State.settle_frame s; rw [h]

@[simp] theorem State.settle_working (s : State) :
    (s.settle).unit.working = s.unit.working := by
  obtain ⟨_, _, _, _, _, _, _, _, _, _, _, h⟩ := State.settle_frame s; rw [h]

@[simp] theorem State.settle_active (s : State) :
    (s.settle).unit.active = s.unit.active := by
  obtain ⟨_, _, _, _, _, _, _, _, _, _, _, h⟩ := State.settle_frame s; rw [h]

@[simp] theorem State.settle_stored (s : State) :
    (s.settle).unit.stored = s.unit.stored := by
  obtain ⟨_, _, _, _, _, _, _, _, _, _, _, h⟩ := State.settle_frame s; rw [h]

@[simp] theorem State.settle_storedGood (s : State) :
    (s.settle).unit.storedGood = s.unit.storedGood := by
  obtain ⟨_, _, _, _, _, _, _, _, _, _, _, h⟩ := State.settle_frame s; rw [h]

@[simp] theorem State.settle_committed (s : State) :
    (s.settle).unit.committed = s.unit.committed := by
  obtain ⟨_, _, _, _, _, _, _, _, _, _, _, h⟩ := State.settle_frame s; rw [h]

@[simp] theorem State.settle_writing (s : State) :
    (s.settle).unit.writing = s.unit.writing := by
  obtain ⟨_, _, _, _, _, _, _, _, _, _, _, h⟩ := State.settle_frame s; rw [h]

@[simp] theorem State.settle_clock (s : State) :
    (s.settle).unit.clock = s.unit.clock := by
  obtain ⟨_, _, _, _, _, _, _, _, _, _, _, h⟩ := State.settle_frame s; rw [h]

@[simp] theorem State.settle_nextSecond (s : State) :
    (s.settle).unit.nextSecond = s.unit.nextSecond := by
  obtain ⟨_, _, _, _, _, _, _, _, _, _, _, h⟩ := State.settle_frame s; rw [h]

@[simp] theorem State.settle_now (s : State) :
    (s.settle).now = s.now := by
  obtain ⟨_, _, _, _, _, _, _, _, _, _, _, h⟩ := State.settle_frame s; rw [h]

@[simp] theorem State.settle_loaded (s : State) :
    (s.settle).loaded = s.loaded := by
  obtain ⟨_, _, _, _, _, _, _, _, _, _, _, h⟩ := State.settle_frame s; rw [h]

@[simp] theorem State.settle_answer (s : State) :
    (s.settle).answer = s.answer := by
  obtain ⟨_, _, _, _, _, _, _, _, _, _, _, h⟩ := State.settle_frame s; rw [h]

@[simp] theorem State.settle_draws (s : State) :
    (s.settle).draws = s.draws := by
  obtain ⟨_, _, _, _, _, _, _, _, _, _, _, h⟩ := State.settle_frame s; rw [h]

@[simp] theorem State.settle_pending (s : State) :
    (s.settle).pending = s.pending := by
  obtain ⟨_, _, _, _, _, _, _, _, _, _, _, h⟩ := State.settle_frame s; rw [h]

/-! ### The Chain Runner -/

/-- A 33rd slot: runner and attention alone. -/
theorem State.chainLong_frame (s : State) (slot : BitVec 5) :
    ∃ x0 x1, s.chainLong slot = { s with runner := x0, attention := x1 } := ⟨_, _, rfl⟩

@[simp] theorem State.chainLong_slots (s : State) (slot : BitVec 5) :
    (s.chainLong slot).slots = s.slots := by
  obtain ⟨_, _, h⟩ := State.chainLong_frame s slot; rw [h]

@[simp] theorem State.chainLong_doorReleased (s : State) (slot : BitVec 5) :
    (s.chainLong slot).doorReleased = s.doorReleased := by
  obtain ⟨_, _, h⟩ := State.chainLong_frame s slot; rw [h]

@[simp] theorem State.chainLong_crewKey (s : State) (slot : BitVec 5) :
    (s.chainLong slot).crewKey = s.crewKey := by
  obtain ⟨_, _, h⟩ := State.chainLong_frame s slot; rw [h]

@[simp] theorem State.chainLong_door (s : State) (slot : BitVec 5) :
    (s.chainLong slot).door = s.door := by
  obtain ⟨_, _, h⟩ := State.chainLong_frame s slot; rw [h]

@[simp] theorem State.chainLong_strings (s : State) (slot : BitVec 5) :
    (s.chainLong slot).strings = s.strings := by
  obtain ⟨_, _, h⟩ := State.chainLong_frame s slot; rw [h]

@[simp] theorem State.chainLong_buses (s : State) (slot : BitVec 5) :
    (s.chainLong slot).buses = s.buses := by
  obtain ⟨_, _, h⟩ := State.chainLong_frame s slot; rw [h]

@[simp] theorem State.chainLong_fire (s : State) (slot : BitVec 5) :
    (s.chainLong slot).fire = s.fire := by
  obtain ⟨_, _, h⟩ := State.chainLong_frame s slot; rw [h]

@[simp] theorem State.chainLong_cooling (s : State) (slot : BitVec 5) :
    (s.chainLong slot).cooling = s.cooling := by
  obtain ⟨_, _, h⟩ := State.chainLong_frame s slot; rw [h]

@[simp] theorem State.chainLong_contactors (s : State) (slot : BitVec 5) :
    (s.chainLong slot).contactors = s.contactors := by
  obtain ⟨_, _, h⟩ := State.chainLong_frame s slot; rw [h]

@[simp] theorem State.chainLong_serving (s : State) (slot : BitVec 5) :
    (s.chainLong slot).serving = s.serving := by
  obtain ⟨_, _, h⟩ := State.chainLong_frame s slot; rw [h]

@[simp] theorem State.chainLong_breaker (s : State) (slot : BitVec 5) :
    (s.chainLong slot).breaker = s.breaker := by
  obtain ⟨_, _, h⟩ := State.chainLong_frame s slot; rw [h]

@[simp] theorem State.chainLong_link (s : State) (slot : BitVec 5) :
    (s.chainLong slot).link = s.link := by
  obtain ⟨_, _, h⟩ := State.chainLong_frame s slot; rw [h]

@[simp] theorem State.chainLong_orderMemory (s : State) (slot : BitVec 5) :
    (s.chainLong slot).orderMemory = s.orderMemory := by
  obtain ⟨_, _, h⟩ := State.chainLong_frame s slot; rw [h]

@[simp] theorem State.chainLong_transaction (s : State) (slot : BitVec 5) :
    (s.chainLong slot).transaction = s.transaction := by
  obtain ⟨_, _, h⟩ := State.chainLong_frame s slot; rw [h]

@[simp] theorem State.chainLong_unit (s : State) (slot : BitVec 5) :
    (s.chainLong slot).unit = s.unit := by
  obtain ⟨_, _, h⟩ := State.chainLong_frame s slot; rw [h]

@[simp] theorem State.chainLong_now (s : State) (slot : BitVec 5) :
    (s.chainLong slot).now = s.now := by
  obtain ⟨_, _, h⟩ := State.chainLong_frame s slot; rw [h]

@[simp] theorem State.chainLong_loaded (s : State) (slot : BitVec 5) :
    (s.chainLong slot).loaded = s.loaded := by
  obtain ⟨_, _, h⟩ := State.chainLong_frame s slot; rw [h]

@[simp] theorem State.chainLong_answer (s : State) (slot : BitVec 5) :
    (s.chainLong slot).answer = s.answer := by
  obtain ⟨_, _, h⟩ := State.chainLong_frame s slot; rw [h]

@[simp] theorem State.chainLong_draws (s : State) (slot : BitVec 5) :
    (s.chainLong slot).draws = s.draws := by
  obtain ⟨_, _, h⟩ := State.chainLong_frame s slot; rw [h]

@[simp] theorem State.chainLong_pending (s : State) (slot : BitVec 5) :
    (s.chainLong slot).pending = s.pending := by
  obtain ⟨_, _, h⟩ := State.chainLong_frame s slot; rw [h]

/-- The end of an order: order memory, runner and attention alone. -/
theorem State.endOrder_frame (s : State) (slot : BitVec 5) (x : Snapshot) (stop : Bool) (a : Answer) :
    ∃ x0 x1 x2, (s.endOrder slot x stop a).1 = { s with orderMemory := x0, runner := x1, attention := x2 } := by
  simp only [State.endOrder]
  obtain ⟨_, h⟩ := State.raiseIf_frame (s.writeOutcome slot a)
    (if a.refusal.isSome then x.notifyRefusal else x.notifyDone) .chain
  rw [h]
  split
  · exact ⟨_, _, _, rfl⟩
  · split
    · exact ⟨_, _, _, rfl⟩
    · split <;> exact ⟨_, _, _, rfl⟩

@[simp] theorem State.endOrder_slots (s : State) (slot : BitVec 5) (x : Snapshot) (stop : Bool) (a : Answer) :
    ((s.endOrder slot x stop a).1).slots = s.slots := by
  obtain ⟨_, _, _, h⟩ := State.endOrder_frame s slot x stop a; rw [h]

@[simp] theorem State.endOrder_doorReleased (s : State) (slot : BitVec 5) (x : Snapshot) (stop : Bool) (a : Answer) :
    ((s.endOrder slot x stop a).1).doorReleased = s.doorReleased := by
  obtain ⟨_, _, _, h⟩ := State.endOrder_frame s slot x stop a; rw [h]

@[simp] theorem State.endOrder_crewKey (s : State) (slot : BitVec 5) (x : Snapshot) (stop : Bool) (a : Answer) :
    ((s.endOrder slot x stop a).1).crewKey = s.crewKey := by
  obtain ⟨_, _, _, h⟩ := State.endOrder_frame s slot x stop a; rw [h]

@[simp] theorem State.endOrder_door (s : State) (slot : BitVec 5) (x : Snapshot) (stop : Bool) (a : Answer) :
    ((s.endOrder slot x stop a).1).door = s.door := by
  obtain ⟨_, _, _, h⟩ := State.endOrder_frame s slot x stop a; rw [h]

@[simp] theorem State.endOrder_strings (s : State) (slot : BitVec 5) (x : Snapshot) (stop : Bool) (a : Answer) :
    ((s.endOrder slot x stop a).1).strings = s.strings := by
  obtain ⟨_, _, _, h⟩ := State.endOrder_frame s slot x stop a; rw [h]

@[simp] theorem State.endOrder_buses (s : State) (slot : BitVec 5) (x : Snapshot) (stop : Bool) (a : Answer) :
    ((s.endOrder slot x stop a).1).buses = s.buses := by
  obtain ⟨_, _, _, h⟩ := State.endOrder_frame s slot x stop a; rw [h]

@[simp] theorem State.endOrder_fire (s : State) (slot : BitVec 5) (x : Snapshot) (stop : Bool) (a : Answer) :
    ((s.endOrder slot x stop a).1).fire = s.fire := by
  obtain ⟨_, _, _, h⟩ := State.endOrder_frame s slot x stop a; rw [h]

@[simp] theorem State.endOrder_cooling (s : State) (slot : BitVec 5) (x : Snapshot) (stop : Bool) (a : Answer) :
    ((s.endOrder slot x stop a).1).cooling = s.cooling := by
  obtain ⟨_, _, _, h⟩ := State.endOrder_frame s slot x stop a; rw [h]

@[simp] theorem State.endOrder_contactors (s : State) (slot : BitVec 5) (x : Snapshot) (stop : Bool) (a : Answer) :
    ((s.endOrder slot x stop a).1).contactors = s.contactors := by
  obtain ⟨_, _, _, h⟩ := State.endOrder_frame s slot x stop a; rw [h]

@[simp] theorem State.endOrder_serving (s : State) (slot : BitVec 5) (x : Snapshot) (stop : Bool) (a : Answer) :
    ((s.endOrder slot x stop a).1).serving = s.serving := by
  obtain ⟨_, _, _, h⟩ := State.endOrder_frame s slot x stop a; rw [h]

@[simp] theorem State.endOrder_breaker (s : State) (slot : BitVec 5) (x : Snapshot) (stop : Bool) (a : Answer) :
    ((s.endOrder slot x stop a).1).breaker = s.breaker := by
  obtain ⟨_, _, _, h⟩ := State.endOrder_frame s slot x stop a; rw [h]

@[simp] theorem State.endOrder_link (s : State) (slot : BitVec 5) (x : Snapshot) (stop : Bool) (a : Answer) :
    ((s.endOrder slot x stop a).1).link = s.link := by
  obtain ⟨_, _, _, h⟩ := State.endOrder_frame s slot x stop a; rw [h]

@[simp] theorem State.endOrder_transaction (s : State) (slot : BitVec 5) (x : Snapshot) (stop : Bool) (a : Answer) :
    ((s.endOrder slot x stop a).1).transaction = s.transaction := by
  obtain ⟨_, _, _, h⟩ := State.endOrder_frame s slot x stop a; rw [h]

@[simp] theorem State.endOrder_unit (s : State) (slot : BitVec 5) (x : Snapshot) (stop : Bool) (a : Answer) :
    ((s.endOrder slot x stop a).1).unit = s.unit := by
  obtain ⟨_, _, _, h⟩ := State.endOrder_frame s slot x stop a; rw [h]

@[simp] theorem State.endOrder_now (s : State) (slot : BitVec 5) (x : Snapshot) (stop : Bool) (a : Answer) :
    ((s.endOrder slot x stop a).1).now = s.now := by
  obtain ⟨_, _, _, h⟩ := State.endOrder_frame s slot x stop a; rw [h]

@[simp] theorem State.endOrder_loaded (s : State) (slot : BitVec 5) (x : Snapshot) (stop : Bool) (a : Answer) :
    ((s.endOrder slot x stop a).1).loaded = s.loaded := by
  obtain ⟨_, _, _, h⟩ := State.endOrder_frame s slot x stop a; rw [h]

@[simp] theorem State.endOrder_answer (s : State) (slot : BitVec 5) (x : Snapshot) (stop : Bool) (a : Answer) :
    ((s.endOrder slot x stop a).1).answer = s.answer := by
  obtain ⟨_, _, _, h⟩ := State.endOrder_frame s slot x stop a; rw [h]

@[simp] theorem State.endOrder_draws (s : State) (slot : BitVec 5) (x : Snapshot) (stop : Bool) (a : Answer) :
    ((s.endOrder slot x stop a).1).draws = s.draws := by
  obtain ⟨_, _, _, h⟩ := State.endOrder_frame s slot x stop a; rw [h]

@[simp] theorem State.endOrder_pending (s : State) (slot : BitVec 5) (x : Snapshot) (stop : Bool) (a : Answer) :
    ((s.endOrder slot x stop a).1).pending = s.pending := by
  obtain ⟨_, _, _, h⟩ := State.endOrder_frame s slot x stop a; rw [h]

/-- Slots taken: order memory, runner and attention alone. -/
theorem State.takeSlot_frame (n : Nat) (slot : BitVec 5) (s : State) :
    ∃ x0 x1 x2, State.takeSlot n slot s = { s with orderMemory := x0, runner := x1, attention := x2 } := by
  induction n generalizing slot s with
  | zero => exact ⟨_, _, _, rfl⟩
  | succ n ih =>
    simp only [State.takeSlot]
    split
    · exact ⟨_, _, _, rfl⟩
    · split
      · exact ⟨_, _, _, rfl⟩
      · next r _ =>
        have he := State.endOrder_frame (s.takeSnapshot slot) slot (s.snapshotOf slot) false (refuse r)
        split
        · next s2 h2 =>
          rw [h2] at he
          obtain ⟨_, _, _, he⟩ := he
          exact ⟨_, _, _, he⟩
        · next s2 m h2 =>
          rw [h2] at he
          obtain ⟨_, _, _, he⟩ := he
          obtain ⟨_, _, _, h3⟩ := ih m s2
          rw [h3]; simp only at he; subst he; exact ⟨_, _, _, rfl⟩

@[simp] theorem State.takeSlot_slots (n : Nat) (slot : BitVec 5) (s : State) :
    (State.takeSlot n slot s).slots = s.slots := by
  obtain ⟨_, _, _, h⟩ := State.takeSlot_frame n slot s; rw [h]

@[simp] theorem State.takeSlot_doorReleased (n : Nat) (slot : BitVec 5) (s : State) :
    (State.takeSlot n slot s).doorReleased = s.doorReleased := by
  obtain ⟨_, _, _, h⟩ := State.takeSlot_frame n slot s; rw [h]

@[simp] theorem State.takeSlot_crewKey (n : Nat) (slot : BitVec 5) (s : State) :
    (State.takeSlot n slot s).crewKey = s.crewKey := by
  obtain ⟨_, _, _, h⟩ := State.takeSlot_frame n slot s; rw [h]

@[simp] theorem State.takeSlot_door (n : Nat) (slot : BitVec 5) (s : State) :
    (State.takeSlot n slot s).door = s.door := by
  obtain ⟨_, _, _, h⟩ := State.takeSlot_frame n slot s; rw [h]

@[simp] theorem State.takeSlot_strings (n : Nat) (slot : BitVec 5) (s : State) :
    (State.takeSlot n slot s).strings = s.strings := by
  obtain ⟨_, _, _, h⟩ := State.takeSlot_frame n slot s; rw [h]

@[simp] theorem State.takeSlot_buses (n : Nat) (slot : BitVec 5) (s : State) :
    (State.takeSlot n slot s).buses = s.buses := by
  obtain ⟨_, _, _, h⟩ := State.takeSlot_frame n slot s; rw [h]

@[simp] theorem State.takeSlot_fire (n : Nat) (slot : BitVec 5) (s : State) :
    (State.takeSlot n slot s).fire = s.fire := by
  obtain ⟨_, _, _, h⟩ := State.takeSlot_frame n slot s; rw [h]

@[simp] theorem State.takeSlot_cooling (n : Nat) (slot : BitVec 5) (s : State) :
    (State.takeSlot n slot s).cooling = s.cooling := by
  obtain ⟨_, _, _, h⟩ := State.takeSlot_frame n slot s; rw [h]

@[simp] theorem State.takeSlot_contactors (n : Nat) (slot : BitVec 5) (s : State) :
    (State.takeSlot n slot s).contactors = s.contactors := by
  obtain ⟨_, _, _, h⟩ := State.takeSlot_frame n slot s; rw [h]

@[simp] theorem State.takeSlot_serving (n : Nat) (slot : BitVec 5) (s : State) :
    (State.takeSlot n slot s).serving = s.serving := by
  obtain ⟨_, _, _, h⟩ := State.takeSlot_frame n slot s; rw [h]

@[simp] theorem State.takeSlot_breaker (n : Nat) (slot : BitVec 5) (s : State) :
    (State.takeSlot n slot s).breaker = s.breaker := by
  obtain ⟨_, _, _, h⟩ := State.takeSlot_frame n slot s; rw [h]

@[simp] theorem State.takeSlot_link (n : Nat) (slot : BitVec 5) (s : State) :
    (State.takeSlot n slot s).link = s.link := by
  obtain ⟨_, _, _, h⟩ := State.takeSlot_frame n slot s; rw [h]

@[simp] theorem State.takeSlot_transaction (n : Nat) (slot : BitVec 5) (s : State) :
    (State.takeSlot n slot s).transaction = s.transaction := by
  obtain ⟨_, _, _, h⟩ := State.takeSlot_frame n slot s; rw [h]

@[simp] theorem State.takeSlot_unit (n : Nat) (slot : BitVec 5) (s : State) :
    (State.takeSlot n slot s).unit = s.unit := by
  obtain ⟨_, _, _, h⟩ := State.takeSlot_frame n slot s; rw [h]

@[simp] theorem State.takeSlot_now (n : Nat) (slot : BitVec 5) (s : State) :
    (State.takeSlot n slot s).now = s.now := by
  obtain ⟨_, _, _, h⟩ := State.takeSlot_frame n slot s; rw [h]

@[simp] theorem State.takeSlot_loaded (n : Nat) (slot : BitVec 5) (s : State) :
    (State.takeSlot n slot s).loaded = s.loaded := by
  obtain ⟨_, _, _, h⟩ := State.takeSlot_frame n slot s; rw [h]

@[simp] theorem State.takeSlot_answer (n : Nat) (slot : BitVec 5) (s : State) :
    (State.takeSlot n slot s).answer = s.answer := by
  obtain ⟨_, _, _, h⟩ := State.takeSlot_frame n slot s; rw [h]

@[simp] theorem State.takeSlot_draws (n : Nat) (slot : BitVec 5) (s : State) :
    (State.takeSlot n slot s).draws = s.draws := by
  obtain ⟨_, _, _, h⟩ := State.takeSlot_frame n slot s; rw [h]

@[simp] theorem State.takeSlot_pending (n : Nat) (slot : BitVec 5) (s : State) :
    (State.takeSlot n slot s).pending = s.pending := by
  obtain ⟨_, _, _, h⟩ := State.takeSlot_frame n slot s; rw [h]

/-- An order answered: order memory, runner and attention alone. -/
theorem State.answerOrder_frame (s : State) (slot : BitVec 5) (x : Snapshot) (stop : Bool) (a : Answer) :
    ∃ x0 x1 x2, s.answerOrder slot x stop a = { s with orderMemory := x0, runner := x1, attention := x2 } := by
  simp only [State.answerOrder]
  have he := State.endOrder_frame s slot x stop a
  split
  · next s2 h2 => rw [h2] at he; exact he
  · next s2 m h2 =>
    rw [h2] at he
    obtain ⟨_, _, _, he⟩ := he
    obtain ⟨_, _, _, h3⟩ := State.takeSlot_frame 33 m s2
    rw [h3]; simp only at he; subst he; exact ⟨_, _, _, rfl⟩

@[simp] theorem State.answerOrder_slots (s : State) (slot : BitVec 5) (x : Snapshot) (stop : Bool) (a : Answer) :
    (s.answerOrder slot x stop a).slots = s.slots := by
  obtain ⟨_, _, _, h⟩ := State.answerOrder_frame s slot x stop a; rw [h]

@[simp] theorem State.answerOrder_doorReleased (s : State) (slot : BitVec 5) (x : Snapshot) (stop : Bool) (a : Answer) :
    (s.answerOrder slot x stop a).doorReleased = s.doorReleased := by
  obtain ⟨_, _, _, h⟩ := State.answerOrder_frame s slot x stop a; rw [h]

@[simp] theorem State.answerOrder_crewKey (s : State) (slot : BitVec 5) (x : Snapshot) (stop : Bool) (a : Answer) :
    (s.answerOrder slot x stop a).crewKey = s.crewKey := by
  obtain ⟨_, _, _, h⟩ := State.answerOrder_frame s slot x stop a; rw [h]

@[simp] theorem State.answerOrder_door (s : State) (slot : BitVec 5) (x : Snapshot) (stop : Bool) (a : Answer) :
    (s.answerOrder slot x stop a).door = s.door := by
  obtain ⟨_, _, _, h⟩ := State.answerOrder_frame s slot x stop a; rw [h]

@[simp] theorem State.answerOrder_strings (s : State) (slot : BitVec 5) (x : Snapshot) (stop : Bool) (a : Answer) :
    (s.answerOrder slot x stop a).strings = s.strings := by
  obtain ⟨_, _, _, h⟩ := State.answerOrder_frame s slot x stop a; rw [h]

@[simp] theorem State.answerOrder_buses (s : State) (slot : BitVec 5) (x : Snapshot) (stop : Bool) (a : Answer) :
    (s.answerOrder slot x stop a).buses = s.buses := by
  obtain ⟨_, _, _, h⟩ := State.answerOrder_frame s slot x stop a; rw [h]

@[simp] theorem State.answerOrder_fire (s : State) (slot : BitVec 5) (x : Snapshot) (stop : Bool) (a : Answer) :
    (s.answerOrder slot x stop a).fire = s.fire := by
  obtain ⟨_, _, _, h⟩ := State.answerOrder_frame s slot x stop a; rw [h]

@[simp] theorem State.answerOrder_cooling (s : State) (slot : BitVec 5) (x : Snapshot) (stop : Bool) (a : Answer) :
    (s.answerOrder slot x stop a).cooling = s.cooling := by
  obtain ⟨_, _, _, h⟩ := State.answerOrder_frame s slot x stop a; rw [h]

@[simp] theorem State.answerOrder_contactors (s : State) (slot : BitVec 5) (x : Snapshot) (stop : Bool) (a : Answer) :
    (s.answerOrder slot x stop a).contactors = s.contactors := by
  obtain ⟨_, _, _, h⟩ := State.answerOrder_frame s slot x stop a; rw [h]

@[simp] theorem State.answerOrder_serving (s : State) (slot : BitVec 5) (x : Snapshot) (stop : Bool) (a : Answer) :
    (s.answerOrder slot x stop a).serving = s.serving := by
  obtain ⟨_, _, _, h⟩ := State.answerOrder_frame s slot x stop a; rw [h]

@[simp] theorem State.answerOrder_breaker (s : State) (slot : BitVec 5) (x : Snapshot) (stop : Bool) (a : Answer) :
    (s.answerOrder slot x stop a).breaker = s.breaker := by
  obtain ⟨_, _, _, h⟩ := State.answerOrder_frame s slot x stop a; rw [h]

@[simp] theorem State.answerOrder_link (s : State) (slot : BitVec 5) (x : Snapshot) (stop : Bool) (a : Answer) :
    (s.answerOrder slot x stop a).link = s.link := by
  obtain ⟨_, _, _, h⟩ := State.answerOrder_frame s slot x stop a; rw [h]

@[simp] theorem State.answerOrder_transaction (s : State) (slot : BitVec 5) (x : Snapshot) (stop : Bool) (a : Answer) :
    (s.answerOrder slot x stop a).transaction = s.transaction := by
  obtain ⟨_, _, _, h⟩ := State.answerOrder_frame s slot x stop a; rw [h]

@[simp] theorem State.answerOrder_unit (s : State) (slot : BitVec 5) (x : Snapshot) (stop : Bool) (a : Answer) :
    (s.answerOrder slot x stop a).unit = s.unit := by
  obtain ⟨_, _, _, h⟩ := State.answerOrder_frame s slot x stop a; rw [h]

@[simp] theorem State.answerOrder_now (s : State) (slot : BitVec 5) (x : Snapshot) (stop : Bool) (a : Answer) :
    (s.answerOrder slot x stop a).now = s.now := by
  obtain ⟨_, _, _, h⟩ := State.answerOrder_frame s slot x stop a; rw [h]

@[simp] theorem State.answerOrder_loaded (s : State) (slot : BitVec 5) (x : Snapshot) (stop : Bool) (a : Answer) :
    (s.answerOrder slot x stop a).loaded = s.loaded := by
  obtain ⟨_, _, _, h⟩ := State.answerOrder_frame s slot x stop a; rw [h]

@[simp] theorem State.answerOrder_answer (s : State) (slot : BitVec 5) (x : Snapshot) (stop : Bool) (a : Answer) :
    (s.answerOrder slot x stop a).answer = s.answer := by
  obtain ⟨_, _, _, h⟩ := State.answerOrder_frame s slot x stop a; rw [h]

@[simp] theorem State.answerOrder_draws (s : State) (slot : BitVec 5) (x : Snapshot) (stop : Bool) (a : Answer) :
    (s.answerOrder slot x stop a).draws = s.draws := by
  obtain ⟨_, _, _, h⟩ := State.answerOrder_frame s slot x stop a; rw [h]

@[simp] theorem State.answerOrder_pending (s : State) (slot : BitVec 5) (x : Snapshot) (stop : Bool) (a : Answer) :
    (s.answerOrder slot x stop a).pending = s.pending := by
  obtain ⟨_, _, _, h⟩ := State.answerOrder_frame s slot x stop a; rw [h]

/-- An answer delivered: runner and the model's own `answer` alone. -/
theorem State.deliver_frame (s : State) (a : Answer) (order : Instr) :
    ∃ x0 x1, s.deliver a order = { s with runner := x0, answer := x1 } := by
  simp only [State.deliver]
  split
  · split <;> exact ⟨_, _, rfl⟩
  · exact ⟨_, _, rfl⟩

@[simp] theorem State.deliver_orderMemory (s : State) (a : Answer) (order : Instr) :
    (s.deliver a order).orderMemory = s.orderMemory := by
  obtain ⟨_, _, h⟩ := State.deliver_frame s a order; rw [h]

@[simp] theorem State.deliver_attention (s : State) (a : Answer) (order : Instr) :
    (s.deliver a order).attention = s.attention := by
  obtain ⟨_, _, h⟩ := State.deliver_frame s a order; rw [h]

@[simp] theorem State.deliver_slots (s : State) (a : Answer) (order : Instr) :
    (s.deliver a order).slots = s.slots := by
  obtain ⟨_, _, h⟩ := State.deliver_frame s a order; rw [h]

@[simp] theorem State.deliver_doorReleased (s : State) (a : Answer) (order : Instr) :
    (s.deliver a order).doorReleased = s.doorReleased := by
  obtain ⟨_, _, h⟩ := State.deliver_frame s a order; rw [h]

@[simp] theorem State.deliver_crewKey (s : State) (a : Answer) (order : Instr) :
    (s.deliver a order).crewKey = s.crewKey := by
  obtain ⟨_, _, h⟩ := State.deliver_frame s a order; rw [h]

@[simp] theorem State.deliver_door (s : State) (a : Answer) (order : Instr) :
    (s.deliver a order).door = s.door := by
  obtain ⟨_, _, h⟩ := State.deliver_frame s a order; rw [h]

@[simp] theorem State.deliver_strings (s : State) (a : Answer) (order : Instr) :
    (s.deliver a order).strings = s.strings := by
  obtain ⟨_, _, h⟩ := State.deliver_frame s a order; rw [h]

@[simp] theorem State.deliver_buses (s : State) (a : Answer) (order : Instr) :
    (s.deliver a order).buses = s.buses := by
  obtain ⟨_, _, h⟩ := State.deliver_frame s a order; rw [h]

@[simp] theorem State.deliver_fire (s : State) (a : Answer) (order : Instr) :
    (s.deliver a order).fire = s.fire := by
  obtain ⟨_, _, h⟩ := State.deliver_frame s a order; rw [h]

@[simp] theorem State.deliver_cooling (s : State) (a : Answer) (order : Instr) :
    (s.deliver a order).cooling = s.cooling := by
  obtain ⟨_, _, h⟩ := State.deliver_frame s a order; rw [h]

@[simp] theorem State.deliver_contactors (s : State) (a : Answer) (order : Instr) :
    (s.deliver a order).contactors = s.contactors := by
  obtain ⟨_, _, h⟩ := State.deliver_frame s a order; rw [h]

@[simp] theorem State.deliver_serving (s : State) (a : Answer) (order : Instr) :
    (s.deliver a order).serving = s.serving := by
  obtain ⟨_, _, h⟩ := State.deliver_frame s a order; rw [h]

@[simp] theorem State.deliver_breaker (s : State) (a : Answer) (order : Instr) :
    (s.deliver a order).breaker = s.breaker := by
  obtain ⟨_, _, h⟩ := State.deliver_frame s a order; rw [h]

@[simp] theorem State.deliver_link (s : State) (a : Answer) (order : Instr) :
    (s.deliver a order).link = s.link := by
  obtain ⟨_, _, h⟩ := State.deliver_frame s a order; rw [h]

@[simp] theorem State.deliver_transaction (s : State) (a : Answer) (order : Instr) :
    (s.deliver a order).transaction = s.transaction := by
  obtain ⟨_, _, h⟩ := State.deliver_frame s a order; rw [h]

@[simp] theorem State.deliver_unit (s : State) (a : Answer) (order : Instr) :
    (s.deliver a order).unit = s.unit := by
  obtain ⟨_, _, h⟩ := State.deliver_frame s a order; rw [h]

@[simp] theorem State.deliver_now (s : State) (a : Answer) (order : Instr) :
    (s.deliver a order).now = s.now := by
  obtain ⟨_, _, h⟩ := State.deliver_frame s a order; rw [h]

@[simp] theorem State.deliver_loaded (s : State) (a : Answer) (order : Instr) :
    (s.deliver a order).loaded = s.loaded := by
  obtain ⟨_, _, h⟩ := State.deliver_frame s a order; rw [h]

@[simp] theorem State.deliver_draws (s : State) (a : Answer) (order : Instr) :
    (s.deliver a order).draws = s.draws := by
  obtain ⟨_, _, h⟩ := State.deliver_frame s a order; rw [h]

@[simp] theorem State.deliver_pending (s : State) (a : Answer) (order : Instr) :
    (s.deliver a order).pending = s.pending := by
  obtain ⟨_, _, h⟩ := State.deliver_frame s a order; rw [h]

/-- A RUN command: order memory, runner and attention alone. -/
theorem State.runCommand_frame (s : State) (slot : BitVec 5) :
    ∃ x0 x1 x2, s.runCommand slot = { s with orderMemory := x0, runner := x1, attention := x2 } := by
  simp only [State.runCommand]
  split
  · exact ⟨_, _, _, rfl⟩
  · obtain ⟨_, _, _, h⟩ := State.takeSlot_frame 33 slot { s with runner := ⟨.idle _, 0, false⟩ }
    rw [h]; exact ⟨_, _, _, rfl⟩
  · obtain ⟨_, _, _, h⟩ := State.takeSlot_frame 33 slot { s with runner := ⟨.halted _ _, 0, false⟩ }
    rw [h]; exact ⟨_, _, _, rfl⟩

@[simp] theorem State.runCommand_slots (s : State) (slot : BitVec 5) :
    (s.runCommand slot).slots = s.slots := by
  obtain ⟨_, _, _, h⟩ := State.runCommand_frame s slot; rw [h]

@[simp] theorem State.runCommand_doorReleased (s : State) (slot : BitVec 5) :
    (s.runCommand slot).doorReleased = s.doorReleased := by
  obtain ⟨_, _, _, h⟩ := State.runCommand_frame s slot; rw [h]

@[simp] theorem State.runCommand_crewKey (s : State) (slot : BitVec 5) :
    (s.runCommand slot).crewKey = s.crewKey := by
  obtain ⟨_, _, _, h⟩ := State.runCommand_frame s slot; rw [h]

@[simp] theorem State.runCommand_door (s : State) (slot : BitVec 5) :
    (s.runCommand slot).door = s.door := by
  obtain ⟨_, _, _, h⟩ := State.runCommand_frame s slot; rw [h]

@[simp] theorem State.runCommand_strings (s : State) (slot : BitVec 5) :
    (s.runCommand slot).strings = s.strings := by
  obtain ⟨_, _, _, h⟩ := State.runCommand_frame s slot; rw [h]

@[simp] theorem State.runCommand_buses (s : State) (slot : BitVec 5) :
    (s.runCommand slot).buses = s.buses := by
  obtain ⟨_, _, _, h⟩ := State.runCommand_frame s slot; rw [h]

@[simp] theorem State.runCommand_fire (s : State) (slot : BitVec 5) :
    (s.runCommand slot).fire = s.fire := by
  obtain ⟨_, _, _, h⟩ := State.runCommand_frame s slot; rw [h]

@[simp] theorem State.runCommand_cooling (s : State) (slot : BitVec 5) :
    (s.runCommand slot).cooling = s.cooling := by
  obtain ⟨_, _, _, h⟩ := State.runCommand_frame s slot; rw [h]

@[simp] theorem State.runCommand_contactors (s : State) (slot : BitVec 5) :
    (s.runCommand slot).contactors = s.contactors := by
  obtain ⟨_, _, _, h⟩ := State.runCommand_frame s slot; rw [h]

@[simp] theorem State.runCommand_serving (s : State) (slot : BitVec 5) :
    (s.runCommand slot).serving = s.serving := by
  obtain ⟨_, _, _, h⟩ := State.runCommand_frame s slot; rw [h]

@[simp] theorem State.runCommand_breaker (s : State) (slot : BitVec 5) :
    (s.runCommand slot).breaker = s.breaker := by
  obtain ⟨_, _, _, h⟩ := State.runCommand_frame s slot; rw [h]

@[simp] theorem State.runCommand_link (s : State) (slot : BitVec 5) :
    (s.runCommand slot).link = s.link := by
  obtain ⟨_, _, _, h⟩ := State.runCommand_frame s slot; rw [h]

@[simp] theorem State.runCommand_transaction (s : State) (slot : BitVec 5) :
    (s.runCommand slot).transaction = s.transaction := by
  obtain ⟨_, _, _, h⟩ := State.runCommand_frame s slot; rw [h]

@[simp] theorem State.runCommand_unit (s : State) (slot : BitVec 5) :
    (s.runCommand slot).unit = s.unit := by
  obtain ⟨_, _, _, h⟩ := State.runCommand_frame s slot; rw [h]

@[simp] theorem State.runCommand_now (s : State) (slot : BitVec 5) :
    (s.runCommand slot).now = s.now := by
  obtain ⟨_, _, _, h⟩ := State.runCommand_frame s slot; rw [h]

@[simp] theorem State.runCommand_loaded (s : State) (slot : BitVec 5) :
    (s.runCommand slot).loaded = s.loaded := by
  obtain ⟨_, _, _, h⟩ := State.runCommand_frame s slot; rw [h]

@[simp] theorem State.runCommand_answer (s : State) (slot : BitVec 5) :
    (s.runCommand slot).answer = s.answer := by
  obtain ⟨_, _, _, h⟩ := State.runCommand_frame s slot; rw [h]

@[simp] theorem State.runCommand_draws (s : State) (slot : BitVec 5) :
    (s.runCommand slot).draws = s.draws := by
  obtain ⟨_, _, _, h⟩ := State.runCommand_frame s slot; rw [h]

@[simp] theorem State.runCommand_pending (s : State) (slot : BitVec 5) :
    (s.runCommand slot).pending = s.pending := by
  obtain ⟨_, _, _, h⟩ := State.runCommand_frame s slot; rw [h]

/-- A STOP command: the runner alone. -/
theorem State.stopCommand_frame (s : State) :
    ∃ x0, s.stopCommand = { s with runner := x0 } := by
  simp only [State.stopCommand]
  split <;> exact ⟨_, rfl⟩

@[simp] theorem State.stopCommand_slots (s : State) :
    (s.stopCommand).slots = s.slots := by
  obtain ⟨_, h⟩ := State.stopCommand_frame s; rw [h]

@[simp] theorem State.stopCommand_doorReleased (s : State) :
    (s.stopCommand).doorReleased = s.doorReleased := by
  obtain ⟨_, h⟩ := State.stopCommand_frame s; rw [h]

@[simp] theorem State.stopCommand_crewKey (s : State) :
    (s.stopCommand).crewKey = s.crewKey := by
  obtain ⟨_, h⟩ := State.stopCommand_frame s; rw [h]

@[simp] theorem State.stopCommand_door (s : State) :
    (s.stopCommand).door = s.door := by
  obtain ⟨_, h⟩ := State.stopCommand_frame s; rw [h]

@[simp] theorem State.stopCommand_strings (s : State) :
    (s.stopCommand).strings = s.strings := by
  obtain ⟨_, h⟩ := State.stopCommand_frame s; rw [h]

@[simp] theorem State.stopCommand_buses (s : State) :
    (s.stopCommand).buses = s.buses := by
  obtain ⟨_, h⟩ := State.stopCommand_frame s; rw [h]

@[simp] theorem State.stopCommand_fire (s : State) :
    (s.stopCommand).fire = s.fire := by
  obtain ⟨_, h⟩ := State.stopCommand_frame s; rw [h]

@[simp] theorem State.stopCommand_cooling (s : State) :
    (s.stopCommand).cooling = s.cooling := by
  obtain ⟨_, h⟩ := State.stopCommand_frame s; rw [h]

@[simp] theorem State.stopCommand_contactors (s : State) :
    (s.stopCommand).contactors = s.contactors := by
  obtain ⟨_, h⟩ := State.stopCommand_frame s; rw [h]

@[simp] theorem State.stopCommand_serving (s : State) :
    (s.stopCommand).serving = s.serving := by
  obtain ⟨_, h⟩ := State.stopCommand_frame s; rw [h]

@[simp] theorem State.stopCommand_breaker (s : State) :
    (s.stopCommand).breaker = s.breaker := by
  obtain ⟨_, h⟩ := State.stopCommand_frame s; rw [h]

@[simp] theorem State.stopCommand_link (s : State) :
    (s.stopCommand).link = s.link := by
  obtain ⟨_, h⟩ := State.stopCommand_frame s; rw [h]

@[simp] theorem State.stopCommand_orderMemory (s : State) :
    (s.stopCommand).orderMemory = s.orderMemory := by
  obtain ⟨_, h⟩ := State.stopCommand_frame s; rw [h]

@[simp] theorem State.stopCommand_transaction (s : State) :
    (s.stopCommand).transaction = s.transaction := by
  obtain ⟨_, h⟩ := State.stopCommand_frame s; rw [h]

@[simp] theorem State.stopCommand_attention (s : State) :
    (s.stopCommand).attention = s.attention := by
  obtain ⟨_, h⟩ := State.stopCommand_frame s; rw [h]

@[simp] theorem State.stopCommand_unit (s : State) :
    (s.stopCommand).unit = s.unit := by
  obtain ⟨_, h⟩ := State.stopCommand_frame s; rw [h]

@[simp] theorem State.stopCommand_now (s : State) :
    (s.stopCommand).now = s.now := by
  obtain ⟨_, h⟩ := State.stopCommand_frame s; rw [h]

@[simp] theorem State.stopCommand_loaded (s : State) :
    (s.stopCommand).loaded = s.loaded := by
  obtain ⟨_, h⟩ := State.stopCommand_frame s; rw [h]

@[simp] theorem State.stopCommand_answer (s : State) :
    (s.stopCommand).answer = s.answer := by
  obtain ⟨_, h⟩ := State.stopCommand_frame s; rw [h]

@[simp] theorem State.stopCommand_draws (s : State) :
    (s.stopCommand).draws = s.draws := by
  obtain ⟨_, h⟩ := State.stopCommand_frame s; rw [h]

@[simp] theorem State.stopCommand_pending (s : State) :
    (s.stopCommand).pending = s.pending := by
  obtain ⟨_, h⟩ := State.stopCommand_frame s; rw [h]

end Sys2Proof.Machine
end

