-- ==== Sys2Proof/Laws/Memory.lean ====
section
/-! SUPPORT. The laws of order memory: a write keeps the canonical form, puts its byte where it is written and leaves
every other byte as it was. -/

namespace Sys2Proof.Machine

/-- The canonical form of a list with a head. -/
theorem Memory.wf_cons (a : Nat) (x : BitVec 8) (m : List Host.Cell) :
    Memory.wf ((a, x) :: m) = true ↔ x ≠ 0 ∧ (∀ c ∈ m, a < c.1) ∧ Memory.wf m = true := by
  induction m generalizing a x with
  | nil => simp [Memory.wf]
  | cons c t ih =>
    obtain ⟨b, y⟩ := c
    simp only [Memory.wf, Bool.and_eq_true, bne_iff_ne, ne_eq, decide_eq_true_eq, List.mem_cons, forall_eq_or_imp, ih]
    constructor
    · rintro ⟨⟨hx, hab⟩, hy, hlt, hw⟩
      exact ⟨hx, ⟨hab, fun c hc => lt_trans hab (hlt c hc)⟩, hy, hlt, hw⟩
    · rintro ⟨hx, ⟨hab, -⟩, hy, hlt, hw⟩
      exact ⟨⟨hx, hab⟩, hy, hlt, hw⟩

/-- The addresses a write leaves listed: those listed before, and its own. -/
theorem Memory.mem_write (m : List Host.Cell) (a : Nat) (x : BitVec 8) (c : Host.Cell) (h : c ∈ Memory.write m a x) :
    c ∈ m ∨ c = (a, x) ∧ x ≠ 0 := by
  induction m with
  | nil =>
    simp only [Memory.write] at h
    split at h <;> simp_all
  | cons d t ih =>
    obtain ⟨b, y⟩ := d
    simp only [Memory.write] at h
    split at h
    · split at h <;> simp_all [or_comm]
    · split at h
      · split at h
        · exact .inl (List.mem_cons_of_mem _ h)
        · rcases List.mem_cons.1 h with rfl | h
          · exact .inr ⟨rfl, ‹_›⟩
          · exact .inl (List.mem_cons_of_mem _ h)
      · rcases List.mem_cons.1 h with rfl | h
        · simp
        · rcases ih h with h | h
          · exact .inl (List.mem_cons_of_mem _ h)
          · exact .inr h

/-- A write keeps the canonical form. -/
theorem Memory.wf_write (m : List Host.Cell) (a : Nat) (x : BitVec 8) (h : Memory.wf m = true) :
    Memory.wf (Memory.write m a x) = true := by
  induction m with
  | nil =>
    simp only [Memory.write]
    split <;> simp_all [Memory.wf]
  | cons d t ih =>
    obtain ⟨b, y⟩ := d
    obtain ⟨hy, hlt, hw⟩ := (Memory.wf_cons b y t).1 h
    simp only [Memory.write]
    split
    · split
      · exact h
      · refine (Memory.wf_cons a x _).2 ⟨‹_›, ?_, h⟩
        intro c hc
        rcases List.mem_cons.1 hc with rfl | hc
        · assumption
        · exact lt_trans ‹_› (hlt c hc)
    · split
      · subst_vars
        split
        · exact hw
        · exact (Memory.wf_cons _ x t).2 ⟨‹_›, hlt, hw⟩
      · refine (Memory.wf_cons b y _).2 ⟨hy, ?_, ih hw⟩
        intro c hc
        rcases Memory.mem_write t a x c hc with hc | ⟨rfl, -⟩
        · exact hlt c hc
        · change b < a
          omega

/-- An address below every listed one reads 0. -/
theorem Memory.read_below (m : List Host.Cell) (a : Nat) (h : ∀ c ∈ m, a < c.1) : Memory.read m a = 0 := by
  induction m with
  | nil => rfl
  | cons d t ih =>
    obtain ⟨b, y⟩ := d
    have hab : a < b := h (b, y) (by simp)
    simp only [Memory.read]
    rw [if_neg (by omega)]
    exact ih fun c hc => h c (List.mem_cons_of_mem _ hc)

/-- What a byte reads after a write: the byte written at its address, every other byte as before. -/
theorem Memory.read_write (m : List Host.Cell) (a b : Nat) (x : BitVec 8) (h : Memory.wf m = true) :
    Memory.read (Memory.write m a x) b = if b = a then x else Memory.read m b := by
  induction m with
  | nil =>
    simp only [Memory.write]
    by_cases hx : x = 0
    · simp [Memory.read, hx]
    · rw [if_neg hx]
      simp only [Memory.read, @eq_comm _ a b]
  | cons d t ih =>
    obtain ⟨c, y⟩ := d
    obtain ⟨hy, hlt, hw⟩ := (Memory.wf_cons c y t).1 h
    simp only [Memory.write]
    split
    · next hac =>
      split
      · next hx =>
        by_cases hb : b = a
        · subst hb hx
          rw [if_pos rfl]
          refine Memory.read_below _ _ fun d hd => ?_
          rcases List.mem_cons.1 hd with rfl | hd
          · exact hac
          · exact lt_trans hac (hlt d hd)
        · rw [if_neg hb]
      · simp only [Memory.read]
        by_cases hb : b = a
        · simp [hb]
        · rw [if_neg (Ne.symm hb), if_neg hb]
    · split
      · next hac =>
        subst hac
        split
        · next hx =>
          subst hx
          by_cases hb : b = a
          · subst hb; rw [if_pos rfl]; exact Memory.read_below _ _ hlt
          · rw [if_neg hb]; simp only [Memory.read]; rw [if_neg (Ne.symm hb)]
        · simp only [Memory.read]
          by_cases hb : b = a
          · simp [hb]
          · rw [if_neg hb, if_neg (Ne.symm hb), if_neg (Ne.symm hb)]
      · next hca hne =>
        simp only [Memory.read, ih hw]
        by_cases hc : c = b
        · subst hc
          rw [if_pos rfl, if_neg (fun e => hne e.symm), if_pos rfl]
        · simp [hc]

/-- The addresses of a memory that a write leaves below a bound. -/
theorem Memory.bound_write (m : List Host.Cell) (a n : Nat) (x : BitVec 8) (ha : a < n) (h : ∀ c ∈ m, c.1 < n) :
    ∀ c ∈ Memory.write m a x, c.1 < n := by
  intro c hc
  rcases Memory.mem_write m a x c hc with hc | ⟨rfl, -⟩
  · exact h c hc
  · exact ha

/-! ### Words -/

/-- A word write keeps the canonical form. -/
theorem Memory.wf_writeWord (m : List Host.Cell) (w : Nat) (v : Word) (h : Memory.wf m = true) :
    Memory.wf (Memory.writeWord m w v) = true :=
  Memory.wf_write _ _ _ (Memory.wf_write _ _ _ h)

/-- A write of consecutive words keeps the canonical form. -/
theorem Memory.wf_writeWords (m : List Host.Cell) (w : Nat) (vs : List Word) (h : Memory.wf m = true) :
    Memory.wf (Memory.writeWords m w vs) = true := by
  induction vs generalizing m w with
  | nil => exact h
  | cons v vs ih => exact ih _ _ (Memory.wf_writeWord _ _ _ h)

/-- A byte after a word write: a half of the word at its two addresses, every other byte as before. -/
theorem Memory.read_writeWord (m : List Host.Cell) (w a : Nat) (v : Word) (h : Memory.wf m = true) :
    Memory.read (Memory.writeWord m w v) a =
      if a = 2 * w + 1 then v.extractLsb' 8 8 else if a = 2 * w then v.extractLsb' 0 8 else Memory.read m a := by
  rw [Memory.writeWord, Memory.read_write _ _ _ _ (Memory.wf_write _ _ _ h), Memory.read_write _ _ _ _ h]

/-- A word after a word write. -/
theorem Memory.readWord_writeWord (m : List Host.Cell) (w u : Nat) (v : Word) (h : Memory.wf m = true) :
    Memory.readWord (Memory.writeWord m w v) u = if u = w then v else Memory.readWord m u := by
  simp only [Memory.readWord, Memory.read_writeWord _ _ _ _ h]
  by_cases hu : u = w
  · subst hu
    simp only [reduceIte]
    rw [if_neg (by omega)]
    refine BitVec.eq_of_getLsbD_eq fun i hi => ?_
    rw [BitVec.getLsbD_append]
    simp only [BitVec.getLsbD_extractLsb']
    by_cases h8 : i < 8
    · simp [h8]
    · have : i - 8 < 8 := by omega
      simp [h8, this, Nat.add_sub_cancel' (by omega : 8 ≤ i)]
  · have e1 : ¬2 * u + 1 = 2 * w + 1 := by omega
    have e2 : ¬2 * u + 1 = 2 * w := by omega
    have e3 : ¬2 * u = 2 * w + 1 := by omega
    have e4 : ¬2 * u = 2 * w := by omega
    rw [if_neg e1, if_neg e2, if_neg e3, if_neg e4, if_neg hu]

/-- A byte outside consecutive words written stands. -/
theorem Memory.read_writeWords_outside (m : List Host.Cell) (w : Nat) (vs : List Word) (a : Nat)
    (h : Memory.wf m = true) (ha : a < 2 * w ∨ 2 * (w + vs.length) ≤ a) :
    Memory.read (Memory.writeWords m w vs) a = Memory.read m a := by
  induction vs generalizing m w with
  | nil => rfl
  | cons v vs ih =>
    simp only [List.length_cons] at ha
    simp only [Memory.writeWords]
    rw [ih _ _ (Memory.wf_writeWord _ _ _ h) (by omega), Memory.read_writeWord _ _ _ _ h, if_neg (by omega),
      if_neg (by omega)]

/-- A word of consecutive words written reads as written. -/
theorem Memory.readWord_writeWords (m : List Host.Cell) (w : Nat) (vs : List Word) (u : Nat)
    (h : Memory.wf m = true) :
    Memory.readWord (Memory.writeWords m w vs) u =
      if w ≤ u then (vs[u - w]?).getD (Memory.readWord m u) else Memory.readWord m u := by
  induction vs generalizing m w with
  | nil => simp [Memory.writeWords]
  | cons v vs ih =>
    simp only [Memory.writeWords]
    rw [ih _ _ (Memory.wf_writeWord _ _ _ h), Memory.readWord_writeWord _ _ _ _ h]
    rcases lt_trichotomy u w with hu | hu | hu
    · rw [if_neg (by omega), if_neg (by omega), if_neg (by omega)]
    · subst hu; simp
    · have e : u - w = (u - (w + 1)) + 1 := by omega
      rw [if_pos (by omega : w + 1 ≤ u), if_pos (by omega : w ≤ u), if_neg (by omega : ¬u = w), e,
        List.getElem?_cons_succ]

/-- Consecutive words written below a bound leave the list below it. -/
theorem Memory.bound_writeWords (m : List Host.Cell) (w n : Nat) (vs : List Word) (hw : w + vs.length ≤ n)
    (h : ∀ c ∈ m, c.1 < 2 * n) : ∀ c ∈ Memory.writeWords m w vs, c.1 < 2 * n := by
  induction vs generalizing m w with
  | nil => exact h
  | cons v vs ih =>
    simp only [List.length_cons] at hw
    exact ih _ _ (by omega)
      (Memory.bound_write _ _ _ _ (by omega) (Memory.bound_write _ _ _ _ (by omega) h))

/-- The memory of the reset state has the canonical form. -/
theorem Memory.wf_reset : Memory.wf State.reset.orderMemory = true := rfl

end Sys2Proof.Machine
end

