-- ==== Sys2Proof/Laws/Permits.lean ====
section
/-! SUPPORT. What the shared operations of the Permit Manager do to the Permit Table: slots keep their generations, a
record stays where it stands, keeps what a grant fixed, and a REVOKED record keeps its state, reason and hold. -/

namespace Sys2Proof.Machine

/-- A record brought up to date: what a grant or an order fixed stands, and a REVOKED record stays REVOKED. -/
structure Permit.Follows (p q : Permit) : Prop where
  kind : q.kind = p.kind
  holder : q.holder = p.holder
  scope : q.scope = p.scope
  limits : q.limits.isSome = p.limits.isSome
  requested : q.requested = p.requested
  leasePeriod : q.leasePeriod = p.leasePeriod
  expiry : q.expiry = p.expiry
  autoReclose : q.autoReclose = p.autoReclose
  revoked : p.state = .revoked → q.state = .revoked ∧ q.reason = p.reason ∧ q.holdEnd = p.holdEnd ∧ q.limits = p.limits

theorem Permit.Follows.refl (p : Permit) : p.Follows p :=
  ⟨rfl, rfl, rfl, rfl, rfl, rfl, rfl, rfl, fun h => ⟨h, rfl, rfl, rfl⟩⟩

theorem Permit.Follows.trans {p q r : Permit} (h : p.Follows q) (k : q.Follows r) : p.Follows r where
  kind := k.kind.trans h.kind
  holder := k.holder.trans h.holder
  scope := k.scope.trans h.scope
  limits := k.limits.trans h.limits
  requested := k.requested.trans h.requested
  leasePeriod := k.leasePeriod.trans h.leasePeriod
  expiry := k.expiry.trans h.expiry
  autoReclose := k.autoReclose.trans h.autoReclose
  revoked hp := by
    obtain ⟨a, b, c, d⟩ := h.revoked hp
    obtain ⟨a', b', c', d'⟩ := k.revoked a
    exact ⟨a', b'.trans b, c'.trans c, d'.trans d⟩

/-- A slot brought up to date. -/
def Slot.Follows (a b : Slot) : Prop :=
  b.generation = a.generation ∧
    ((a.permit = none ∧ b.permit = none) ∨ ∃ p q, a.permit = some p ∧ b.permit = some q ∧ p.Follows q)

theorem Slot.Follows.refl (a : Slot) : a.Follows a := by
  refine ⟨rfl, ?_⟩
  cases h : a.permit with
  | none => exact .inl ⟨rfl, rfl⟩
  | some p => exact .inr ⟨p, p, rfl, rfl, .refl p⟩

theorem Slot.Follows.trans {a b c : Slot} (h : a.Follows b) (k : b.Follows c) : a.Follows c := by
  obtain ⟨g, h⟩ := h
  obtain ⟨g', k⟩ := k
  refine ⟨g'.trans g, ?_⟩
  rcases h with ⟨ha, hb⟩ | ⟨p, q, ha, hb, hf⟩ <;> rcases k with ⟨kb, kc⟩ | ⟨q', r, kb, kc, kf⟩
  · exact .inl ⟨ha, kc⟩
  · simp [hb] at kb
  · simp [hb] at kb
  · rw [hb] at kb; cases kb; exact .inr ⟨p, r, ha, kc, hf.trans kf⟩

/-- A Permit Table brought up to date: what every operation but a grant, an amendment and a retirement does to it. -/
def State.SlotsFollow (s t : State) : Prop := ∀ i : Fin 48, (s.slots[i.val]).Follows t.slots[i.val]

theorem State.SlotsFollow.refl (s : State) : s.SlotsFollow s := fun _ => .refl _

theorem State.SlotsFollow.trans {s t u : State} (h : s.SlotsFollow t) (k : t.SlotsFollow u) : s.SlotsFollow u :=
  fun i => (h i).trans (k i)

theorem State.SlotsFollow.of_eq {s t : State} (h : t.slots = s.slots) : s.SlotsFollow t :=
  fun i => by rw [h]; exact .refl _

/-- A record replaced by one that follows it. -/
theorem State.setPermit_follows (s : State) (i : Fin 48) (p q : Permit) (h : s.slots[i.val].permit = some p)
    (hf : p.Follows q) : s.SlotsFollow (s.setPermit i q) := by
  intro j
  by_cases hj : j = i
  · subst hj
    simp only [State.setPermit_slots, getElem_put_self]
    exact ⟨rfl, .inr ⟨p, q, h, rfl, hf⟩⟩
  · simp only [State.setPermit_slots, getElem_put_ne _ _ _ _ hj]
    exact .refl _

/-! ### Records -/

theorem Permit.applyFall_follows (p : Permit) (l : Limits) (src : Source) (target : Nat) (restr : Fin 8 × Cause)
    (hl : p.limits = some l) (hp : p.state ≠ .revoked) : p.Follows (p.applyFall l src target restr) := by
  simp only [Permit.applyFall]
  split <;>
    exact ⟨rfl, rfl, rfl, by simp [hl], by simp [Permit.requested, hl], rfl, rfl, rfl, fun h => absurd h hp⟩

theorem Permit.applyRise_follows (p : Permit) (l : Limits) (src : Source) (target now hold : Nat)
    (restr : Fin 8 × Cause) (hl : p.limits = some l) (hp : p.state ≠ .revoked) :
    p.Follows (p.applyRise l src target now hold restr) := by
  simp only [Permit.applyRise]
  split
  · split <;>
      exact ⟨rfl, rfl, rfl, by simp [hl], by simp [Permit.requested, hl], rfl, rfl, rfl, fun h => absurd h hp⟩
  · exact ⟨rfl, rfl, rfl, by simp [hl], by simp [Permit.requested, hl], rfl, rfl, rfl, fun h => absurd h hp⟩

theorem Permit.retarget_follows (p : Permit) (src : Source) (target now hold : Nat) (restr : Fin 8 × Cause) :
    p.Follows (p.retarget src target now hold restr) := by
  simp only [Permit.retarget]
  split
  · exact .refl p
  · next l hl =>
    split
    · exact .refl p
    · next h =>
      have hp : p.state ≠ .revoked := by
        intro e; simp [Permit.liveOrSuspended, e] at h
      split
      · exact Permit.applyFall_follows p l src target restr hl hp
      · exact Permit.applyRise_follows p l src target now hold restr hl hp

theorem Permit.revoked_follows (p : Permit) (reason : Reason) (byOrder : Bool) (now hold : Nat)
    (h : p.standing = true) : p.Follows (p.revoked reason byOrder now hold) where
  kind := rfl
  holder := rfl
  scope := rfl
  limits := by simp [Permit.revoked]
  requested := by cases hl : p.limits <;> simp [Permit.revoked, Permit.requested, hl]
  leasePeriod := rfl
  expiry := rfl
  autoReclose := rfl
  revoked e := by simp [Permit.standing, e] at h

/-! ### Operations -/

theorem State.retargetSlot_follows (s : State) (src : Source) (i : Fin 48) : s.SlotsFollow (s.retargetSlot src i) := by
  simp only [State.retargetSlot]
  split
  · exact .refl s
  · next p h =>
    exact (State.setPermit_follows s i p _ h (Permit.retarget_follows p src (s.targetOf p) s.now
      (Config.sec s.unit.active.riseHold) (s.restricting p.scope))).trans (.of_eq (by simp))

theorem State.revokeSlot_follows (s : State) (reason : Reason) (byOrder : Bool) (i : Fin 48) :
    s.SlotsFollow (s.revokeSlot reason byOrder i) := by
  simp only [State.revokeSlot]
  split
  · exact .refl s
  · next p h =>
    split
    · next hs =>
      exact (State.setPermit_follows s i p _ h (Permit.revoked_follows p reason byOrder s.now
        (Config.sec s.unit.active.revokedHold) hs)).trans (.of_eq (by simp))
    · exact .refl s

theorem State.revokeWhere_follows (s : State) (f : Permit → Bool) (reason : Reason) :
    s.SlotsFollow (s.revokeWhere f reason) := by
  refine foldl_rel State.SlotsFollow .refl (fun _ _ _ => .trans) _ ?_ allSlots s
  intro t i
  split
  · split
    · exact State.revokeSlot_follows t reason false i
    · exact .refl t
  · exact .refl t

theorem State.expiryCheck_follows (s : State) : s.SlotsFollow s.expiryCheck := State.revokeWhere_follows s _ _

theorem State.suspendConnect_follows (s : State) : s.SlotsFollow s.suspendConnect := by
  refine foldl_rel State.SlotsFollow .refl (fun _ _ _ => .trans) _ ?_ allSlots s
  intro t i
  split
  · next p h =>
    split
    · next hp =>
      refine (State.setPermit_follows t i p p.gridFall h ?_).trans (.of_eq (by simp))
      rw [Permit.gridFall, if_pos hp]
      exact ⟨rfl, rfl, rfl, rfl, rfl, rfl, rfl, rfl, fun e => by simp [hp.2] at e⟩
    · exact .refl t
  · exact .refl t

theorem State.resumeConnect_follows (s : State) : s.SlotsFollow s.resumeConnect := by
  refine foldl_rel State.SlotsFollow .refl (fun _ _ _ => .trans) _ ?_ allSlots s
  intro t i
  split
  · next p h =>
    split
    · next hp =>
      have hf : p.Follows p.gridBack :=
        ⟨rfl, rfl, rfl, rfl, rfl, rfl, rfl, rfl, fun e => by simp [hp.2.1] at e⟩
      refine (State.setPermit_follows t i p _ h hf).trans (.of_eq ?_)
      simp only
      split <;> simp
    · exact .refl t
  · exact .refl t

theorem State.handOff_follows (s : State) (old : Vector StringRec 8) : s.SlotsFollow (s.handOff old) := by
  refine foldl_rel State.SlotsFollow .refl (fun _ _ _ => .trans) _ ?_ allSlots s
  intro t i
  split
  · split
    · exact State.retargetSlot_follows t .other i
    · exact .refl t
  · exact .refl t

theorem State.evaluateStage_follows (s : State) : s.SlotsFollow s.evaluateStage := by
  simp only [State.evaluateStage]
  split
  · exact (State.SlotsFollow.of_eq (by simp)).trans (State.handOff_follows _ _)
  · exact .refl s

theorem State.isolateStage_follows (s : State) (granted : Option (Fin 48)) :
    s.SlotsFollow (s.isolateStage granted) := by
  refine foldl_rel State.SlotsFollow .refl (fun _ _ _ => .trans) _ ?_ allSlots s
  intro t i
  split
  · next p h =>
    split
    · next hp =>
      have hr : ∀ c : Bool, p.Follows { p with state := .live, changed := c } := fun c =>
        ⟨rfl, rfl, rfl, rfl, rfl, rfl, rfl, rfl, fun e => by simp [hp.2.1] at e⟩
      split
      · exact State.setPermit_follows t i p _ h (hr p.changed)
      · exact (State.setPermit_follows t i p _ h (hr true)).trans (.of_eq (by simp))
    · exact .refl t
  · exact .refl t

theorem State.alarmEntry_follows (s : State) (k : Fin 4) : s.SlotsFollow (s.alarmEntry k) := by
  refine (State.revokeWhere_follows s (fun p => p.kind == .connect ||
    ((p.kind == .charge || p.kind == .discharge) && meetsBay p.scope k)) .fire).trans (.of_eq ?_)
  simp [State.alarmEntry]

theorem State.fireAndAlarm_follows (s : State) : s.SlotsFollow s.fireAndAlarm := by
  refine (State.SlotsFollow.of_eq (t := s.fireStage) (by simp)).trans ?_
  exact foldl_rel State.SlotsFollow .refl (fun _ _ _ => .trans) _ (fun t k => State.alarmEntry_follows t k) _ _

theorem State.linkStage_follows (s : State) : s.SlotsFollow s.linkStage := by
  simp only [State.linkStage]
  split
  · split
    · exact .of_eq rfl
    · split
      · split
        · next p h =>
          refine (State.setPermit_follows s _ p { p with notice := false } h ?_).trans (.of_eq rfl)
          exact ⟨rfl, rfl, rfl, rfl, rfl, rfl, rfl, rfl, fun e => ⟨e, rfl, rfl, rfl⟩⟩
        · exact .refl s
      · exact .refl s
  · exact .refl s

/-- What the settling of an event does to the Permit Table. -/
theorem State.settleWith_follows (s : State) (granted : Option (Fin 48)) : s.SlotsFollow (s.settleWith granted) :=
  ((((((((State.SlotsFollow.of_eq (t := s.doorStage) rfl).trans (State.fireAndAlarm_follows _)).trans
    (.of_eq (t := State.coolStage _) rfl)).trans (.of_eq (State.connectStage_slots _))).trans
    (State.isolateStage_follows _ granted)).trans (State.evaluateStage_follows _)).trans
    (State.linkStage_follows _)).trans (.of_eq (State.startUpStage_slots _)))

/-- What the settling of an event does to the Permit Table. -/
theorem State.settle_follows (s : State) : s.SlotsFollow s.settle := s.settleWith_follows none

/-- A retirement: its slot becomes FREE with the next generation, every other slot stands. -/
theorem State.retireSlot_slots_self (s : State) (i : Fin 48) (p : Permit) (h : s.slots[i.val].permit = some p) :
    (s.retireSlot i).slots = put s.slots i ⟨s.slots[i.val].generation + 1, none⟩ := by
  simp [State.retireSlot, h]

end Sys2Proof.Machine
end

