-- ==== Sys2Proof/Laws/Records.lean ====
section
/-! SUPPORT. What the shared operations on records say: outputs that follow a state entered, the resolving of a handle,
the order gate, the ways an order can go and the end of an order, the attention line and order memory across shared
operations. -/

namespace Sys2Proof.Machine

/-! ### Outputs follow states -/

@[simp] theorem Contactor.supervise_state (c : Contactor) (now : Nat) : (c.supervise now).state = c.state := by
  simp only [Contactor.supervise]; split <;> rfl

@[simp] theorem Contactor.supervise_mainClosed (c : Contactor) (now : Nat) :
    (c.supervise now).mainClosed = c.mainClosed := by
  simp only [Contactor.supervise]; split <;> rfl

@[simp] theorem Contactor.supervise_prechargeClosed (c : Contactor) (now : Nat) :
    (c.supervise now).prechargeClosed = c.prechargeClosed := by
  simp only [Contactor.supervise]; split <;> rfl

@[simp] theorem Contactor.supervise_fitted (c : Contactor) (now : Nat) : (c.supervise now).fitted = c.fitted := by
  simp only [Contactor.supervise]; split <;> rfl

@[simp] theorem Contactor.supervise_unmet (c : Contactor) (now : Nat) : (c.supervise now).unmet = c.unmet := by
  simp only [Contactor.supervise]; split <;> rfl

@[simp] theorem Contactor.supervise_isolating (c : Contactor) (now : Nat) :
    (c.supervise now).isolating = c.isolating := by
  simp only [Contactor.supervise]; split <;> rfl

/-- A contactor that entered a state: its outputs are those of the state, and what other blocks read of it stands. -/
theorem Contactor.enter_spec (c : Contactor) (st : ContactorState) (now : Nat) :
    (c.enter st now).state = st ∧ (c.enter st now).mainClosed = st.main ∧
      (c.enter st now).prechargeClosed = st.precharge ∧ (c.enter st now).fitted = c.fitted ∧
      (c.enter st now).unmet = c.unmet ∧ (c.enter st now).isolating = c.isolating := by
  simp [Contactor.enter]

@[simp] theorem Breaker.supervise_state (b : Breaker) (now : Nat) : (b.supervise now).state = b.state := by
  simp only [Breaker.supervise]; split <;> (try split) <;> rfl

@[simp] theorem Breaker.supervise_commandedClosed (b : Breaker) (now : Nat) :
    (b.supervise now).commandedClosed = b.commandedClosed := by
  simp only [Breaker.supervise]; split <;> (try split) <;> rfl

@[simp] theorem Breaker.supervise_closePulse (b : Breaker) (now : Nat) :
    (b.supervise now).closePulse = b.closePulse := by
  simp only [Breaker.supervise]; split <;> (try split) <;> rfl

@[simp] theorem Breaker.supervise_openPulse (b : Breaker) (now : Nat) : (b.supervise now).openPulse = b.openPulse := by
  simp only [Breaker.supervise]; split <;> (try split) <;> rfl

/-- A breaker that entered a state: its command and its pulses are those of the state. -/
theorem Breaker.enter_spec (b : Breaker) (st : BreakerState) (now : Nat) :
    (b.enter st now).state = st ∧ (b.enter st now).commandedClosed = st.commandsClosed ∧
      ((b.enter st now).closePulse = true ↔ ∃ e, st = .closing e) ∧
      ((b.enter st now).openPulse = true ↔ ∃ k e, st = .opening k e) := by
  cases st <;> simp [Breaker.enter]

/-- A cooling record that was driven: outputs and the goal of the flow timer follow its fields, the rest stands. -/
theorem CoolRec.drive_spec (r : CoolRec) (now : Nat) :
    (r.drive now).outputs = outputsOf r.running r.heaterDemand r.containment ∧
      (r.drive now).flowTimer.map (·.goal) = flowGoal (r.drive now).outputs.pump r.flowFault r.flow ∧
      (r.drive now).running = r.running ∧ (r.drive now).heaterDemand = r.heaterDemand ∧
      (r.drive now).containment = r.containment ∧ (r.drive now).flow = r.flow ∧
      (r.drive now).flowFault = r.flowFault := by
  refine ⟨rfl, ?_, rfl, rfl, rfl, rfl, rfl⟩
  simp only [CoolRec.drive, nextFlowTimer]
  split
  · next h => rw [h]; rfl
  · next g h =>
    rw [h]
    split
    · split
      · next t hg => simp [hg]
      · rfl
    · rfl

/-! ### Handles and orders -/

/-- A handle resolves to a record exactly when its slot holds that record under its generation. -/
theorem State.resolve_eq_some (s : State) (h : Handle) (i : Fin 48) (p : Permit) :
    s.resolve h = some (i, p) ↔
      h.slot.toNat = i.val ∧ s.slots[i.val].permit = some p ∧ s.slots[i.val].generation = h.generation := by
  simp only [State.resolve]
  split
  · next hs =>
    simp only [Fin.getElem_fin]
    split
    · next q hq =>
      split
      · next hg =>
        constructor
        · intro e
          simp only [Option.some.injEq, Prod.mk.injEq] at e
          obtain ⟨rfl, rfl⟩ := e
          exact ⟨rfl, hq, hg⟩
        · rintro ⟨e, hp, -⟩
          have : (⟨h.slot.toNat, hs⟩ : Fin 48) = i := Fin.ext e
          subst this
          simp only at hp
          rw [hq] at hp
          cases hp
          rfl
      · next hg =>
        constructor
        · simp
        · rintro ⟨e, -, hg'⟩
          have : (⟨h.slot.toNat, hs⟩ : Fin 48) = i := Fin.ext e
          subst this
          exact absurd hg' hg
    · next hq =>
      constructor
      · simp
      · rintro ⟨e, hp, -⟩
        have : (⟨h.slot.toNat, hs⟩ : Fin 48) = i := Fin.ext e
        subst this
        simp [hq] at hp
  · next hs =>
    constructor
    · simp
    · rintro ⟨e, -, -⟩
      omega

/-- The ways an order can go: refused by the gate into the model's own answer, or taken by its owner and answered. -/
theorem State.takeOrder_cases (s : State) (order : Instr) (owner : State → State × Answer) :
    (∃ r, s.gate (some order) = some r ∧ s.takeOrder order owner = { s with answer := some (refuse r) }) ∨
      s.takeOrder order owner = (owner s).1.deliver (owner s).2 order := by
  simp only [State.takeOrder]
  split
  · exact .inr rfl
  · split
    · next r hr => exact .inl ⟨r, hr, rfl⟩
    · exact .inr rfl

/-- An order the runner has handed over is answered to the runner. -/
theorem State.takeOrder_handed (s : State) (order : Instr) (owner : State → State × Answer) (slot : BitVec 5)
    (x : Snapshot) (w stop : Bool) (hr : s.runner.state = .running slot x w stop .handed) (hx : x.order = some order)
    (hk : (owner s).1.runner = s.runner) :
    s.takeOrder order owner = (owner s).1.setRunner (.running slot x w stop (.answered (owner s).2)) := by
  have h1 : s.handedOrder = some order := by simp only [State.handedOrder, hr, hx]
  rw [State.takeOrder, if_pos h1]
  simp only [State.deliver, hk, hr, hx, reduceIte]

/-- The end of an order: the outcome is written, and the run goes on, ends or halts. -/
theorem State.endOrder_spec (s : State) (slot : BitVec 5) (x : Snapshot) (stop : Bool) (a : Answer) :
    (s.endOrder slot x stop a).1.orderMemory =
        Memory.writeWords s.orderMemory (slotAddress slot 8) (a.outcomeWord :: wordResults a.results) ∧
      (s.endOrder slot x stop a).2 = (if a.refusal.isSome && x.stopOnRefusal || stop then none else x.next) ∧
      ((s.endOrder slot x stop a).2 ≠ none → (s.endOrder slot x stop a).1.runner = s.runner) := by
  simp only [State.endOrder]
  split
  · next h => simp [h]
  · next h =>
    split
    · next hs => simp [hs]
    · next hs =>
      split
      · next hn => simp [h, hs, hn]
      · next n hn => simp [h, hs, hn]

/-- The seven result words. -/
theorem wordResults_length (ws : List Word) : (wordResults ws).length = 7 := by
  simp [wordResults]

/-! ### Order memory across the runner -/

/-- What the runner does to order memory keeps a property that every outcome written keeps. -/
theorem State.takeSlot_memory (P : List Host.Cell → Prop)
    (hP : ∀ m (slot : BitVec 5) vs, vs.length = 8 → P m → P (Memory.writeWords m (slotAddress slot 8) vs))
    (n : Nat) (slot : BitVec 5) (s : State) (h : P s.orderMemory) : P (State.takeSlot n slot s).orderMemory := by
  induction n generalizing slot s with
  | zero => exact h
  | succ n ih =>
    simp only [State.takeSlot]
    split
    · exact h
    · split
      · exact h
      · next r _ =>
        have he := (State.endOrder_spec (s.takeSnapshot slot) slot (s.snapshotOf slot) false (refuse r)).1
        have hm : P ((s.takeSnapshot slot).endOrder slot (s.snapshotOf slot) false (refuse r)).1.orderMemory := by
          rw [he]
          exact hP _ _ _ (by simp [wordResults_length]) h
        split
        · next s2 h2 => rw [h2] at hm; exact hm
        · next s2 m h2 => rw [h2] at hm; exact ih m s2 hm

/-- An order answered keeps a property of order memory that every outcome written keeps. -/
theorem State.answerOrder_memory (P : List Host.Cell → Prop)
    (hP : ∀ m (slot : BitVec 5) vs, vs.length = 8 → P m → P (Memory.writeWords m (slotAddress slot 8) vs))
    (s : State) (slot : BitVec 5) (x : Snapshot) (stop : Bool) (a : Answer) (h : P s.orderMemory) :
    P (s.answerOrder slot x stop a).orderMemory := by
  have he := (State.endOrder_spec s slot x stop a).1
  have hm : P (s.endOrder slot x stop a).1.orderMemory := by
    rw [he]
    exact hP _ _ _ (by simp [wordResults_length]) h
  simp only [State.answerOrder]
  split
  · next s2 h2 => rw [h2] at hm; exact hm
  · next s2 m h2 => rw [h2] at hm; exact State.takeSlot_memory P hP 33 m s2 hm

/-- The runner's write of an answered order keeps a property of order memory that every outcome written keeps. -/
theorem State.endAnswered_memory (P : List Host.Cell → Prop)
    (hP : ∀ m (slot : BitVec 5) vs, vs.length = 8 → P m → P (Memory.writeWords m (slotAddress slot 8) vs))
    (s t : State) (ht : s.endAnswered = some t) (h : P s.orderMemory) : P t.orderMemory := by
  simp only [State.endAnswered] at ht
  split at ht
  · cases ht
    exact State.answerOrder_memory P hP s _ _ _ _ h
  · cases ht

/-- The runner's write of an answered order: order memory, runner and attention alone. -/
theorem State.endAnswered_frame (s t : State) (ht : s.endAnswered = some t) :
    t = { s with orderMemory := t.orderMemory, runner := t.runner, attention := t.attention } := by
  simp only [State.endAnswered] at ht
  split at ht
  · cases ht
    obtain ⟨_, _, _, h⟩ := State.answerOrder_frame s _ _ _ _
    rw [h]
  · cases ht

/-! ### The attention line -/

/-- The attention line follows flags and enables. -/
def Attention.Driven (a : Attention) : Prop := a.line = ((a.flags &&& a.enables) != 0)

theorem Attention.raise_driven (a : Attention) (f : Flag) : (a.raise f).Driven := rfl

theorem State.raiseIf_driven (s : State) (c : Bool) (f : Flag) (h : s.attention.Driven) :
    (s.raiseIf c f).attention.Driven := by
  cases c
  · exact h
  · rfl

end Sys2Proof.Machine
end

