-- ==== Sys2Proof/Laws/SerialPort.lean ====
section
/-! SUPPORT. What the edges of the SPI port can do: the bits of a word make it, a data word of 16 edges is one write, and a
word with fewer is bits taken and nothing else. -/

namespace Sys2Proof.Machine

/-- A word is 16 bits. -/
@[simp] theorem wordBits_length (v : Word) : (wordBits v).length = 16 := rfl

/-- A bit taken, place by place. -/
theorem takeBit_getLsbD (w : Word) (b : Bool) (i : Nat) :
    ((w <<< 1) ||| BitVec.ofNat 16 b.toNat).getLsbD i = (decide (i < 16) && if i = 0 then b else w.getLsbD (i - 1)) := by
  rcases b <;> rcases i with _ | i <;> simp

/-- The bits of a word make that word. -/
@[simp] theorem wordOfBits_wordBits (v : Word) : wordOfBits (wordBits v) = v := by
  refine BitVec.eq_of_getLsbD_eq fun i hi => ?_
  simp only [wordOfBits, wordBits, List.foldl, takeBit_getLsbD]
  interval_cases i <;> simp

/-- Edges that stay short of a word are bits taken, and nothing else. -/
theorem State.clockIn_partial (s : State) (a : BitVec 10) (before bits : List Bool) (hs : s.transaction = .write a before)
    (hn : before.length + bits.length < 16) : s.clockIn bits = { s with transaction := .write a (before ++ bits) } := by
  induction bits generalizing s before with
  | nil => simp [State.clockIn, ← hs]
  | cons b bits ih =>
    simp only [List.length_cons] at hn
    have h1 : s.clockRise b = { s with transaction := .write a (before ++ [b]) } := by
      simp only [State.clockRise, hs]
      rw [if_pos (by omega)]
    have h2 := ih (s.clockRise b) (before ++ [b]) (by rw [h1]) (by simp; omega)
    simp only [State.clockIn, List.foldl_cons] at h2 ⊢
    rw [h2, h1]
    simp

/-- Sixteen edges of a data word of a write transaction are one write, after which the address has moved on. -/
theorem State.clockIn_word (s : State) (a : BitVec 10) (v : Word) (hs : s.transaction = .write a []) :
    s.clockIn (wordBits v) = (State.windowWrite { s with transaction := .write a ((wordBits v).take 15) } a v).wrote a := by
  have h1 := s.clockIn_partial a [] ((wordBits v).take 15) hs (by simp)
  have h2 : s.clockIn (wordBits v) = (s.clockIn ((wordBits v).take 15)).clockRise (v.getLsbD 0) := rfl
  rw [h2, h1]
  simp only [State.clockRise, List.nil_append]
  rw [if_neg (by simp)]
  have h3 : (wordBits v).take 15 ++ [v.getLsbD 0] = wordBits v := rfl
  rw [h3, wordOfBits_wordBits]

/-- A word that select's release cuts is discarded. -/
@[simp] theorem State.deselect_write (s : State) (a : BitVec 10) (bits : List Bool) (hs : s.transaction = .write a bits) :
    s.deselect = { s with transaction := .released } := by
  simp only [State.deselect, hs]

/-- The port takes nothing while the reset line is asserted. -/
theorem State.clockRise_resetHeld (s : State) (b : Bool) (hs : s.transaction = .resetHeld) : s.clockRise b = s := by
  simp only [State.clockRise, hs]

end Sys2Proof.Machine
end

