-- ==== Sys2Proof/Tests/Slice0.lean ====
section
/-! SUPPORT. Tests: the checks of WellFormed refuse what they are there to refuse; the spec's own worked values; and for
every statement with hypotheses a state and operands that meet them. Expected values are the spec's. -/

namespace Sys2Proof.Tests

open Sys2Proof Sys2Proof.Machine Sys2Proof.Safety Sys2Proof.Claims

/-! ### Small states -/

/-- Three samples that agree. -/
def same (x : Bool) : Samples := ⟨x, x, x⟩

/-- A bus character as the receiver samples it without noise (R58). -/
def busChar (v : Byte) : BusChar :=
  ⟨same false, Vector.ofFn fun i => same (v.getLsbD i.val), same true⟩

/-- A link character without noise (R160). -/
def linkChar (v : Byte) (ninth : Bool) : LinkChar :=
  ⟨same false, Vector.ofFn fun i => same (v.getLsbD i.val), same ninth, same true⟩

/-- The reset state after the load, with start-up ended, in a mode. -/
def ready (m : Mode) : State :=
  { State.reset with
    loaded := true
    unit := { State.reset.unit with
      mode := m, startUp := { State.reset.unit.startUp with phase := .ended .complete } } }

/-- A CHARGE permit of the station on string 0, LIVE with 100 A of 100 A. -/
def charge : Permit where
  kind := .charge
  holder := .station
  state := .live
  scope := 1
  limits := some ⟨100, 100, none⟩
  leasePeriod := none
  leaseEnd := none
  expiry := none
  autoReclose := false
  reason := none
  changed := false
  holdEnd := none
  notice := false

/-- The reset state with a record in slot 47 and no other. -/
def holding (p : Permit) : State := State.reset.setPermit 47 p

/-- The reset state with one bus replaced. -/
def withBus (b : Bus) : State := State.reset.setBus 7 b

/-- A bus in a state with a frame. -/
def busIn (st : BusState) (f : Option Frame) : Bus := { Bus.atReset with state := st, frame := f }

/-- The reset state with the breaker in a state. -/
def breakerIn (st : BreakerState) : State :=
  { State.reset with breaker := { State.reset.breaker with state := st } }

/-- The reset state with one contactor in a state. -/
def contactorIn (st : ContactorState) : State :=
  State.reset.setContactor 7 { Contactor.atReset false with state := st }

/-- The reset state with bay 3 in a fire state. -/
def bayIn (st : FireState) : State := State.reset.setFire 3 { State.reset.fire[3] with state := st }

/-- The reset state with a link state. -/
def withLink (l : Link) : State := { State.reset with link := l }

/-- The link record after the load. -/
def openLink : Link := { Link.atReset with rate := some .r19200 }

/-- A state in which the runner has handed over the order of a snapshot. -/
def handing (x : Snapshot) (stop : Bool) : State :=
  { ready .operating with runner := ⟨.running 31 x false stop .handed, 1, false⟩ }

/-! ### WellFormed refuses -/

theorem test_wf_window_write_other :
    wellFormed (.windowWriteOther 0x1FF 0) = false ∧ wellFormed (.windowWriteOther 0x200 0x4000) = false ∧
    wellFormed (.windowWriteOther 0x200 0x8000) = false ∧ wellFormed (.windowWriteOther 0x203 0) = false ∧
    wellFormed (.windowWriteOther 0x204 0) = false ∧ wellFormed (.windowWriteOther 0x205 0) = true ∧
    wellFormed (.windowWriteOther 0x3FF 0) = true ∧ wellFormed (.windowWriteOther 0x200 0xC000) = true := by decide

theorem test_wf_selftest_sends_pattern2_after_pattern1 :
    wellFormed (.selftestEnd 0 none (some (busChar 0xAA))) = false ∧
    wellFormed (.selftestEnd 0 (some (busChar 0x55)) (some (busChar 0xAA))) = true := by decide

theorem test_wf_stuck_line :
    wellFormed (.stuckLine 0 ⟨.low, 14, true⟩) = false ∧ wellFormed (.stuckLine 0 ⟨.high, 15, false⟩) = false ∧
    wellFormed (.stuckLine 0 ⟨.low, 15, false⟩) = true ∧ wellFormed (.stuckLine 0 ⟨.high, 15, true⟩) = true := by decide

theorem test_wf_echo_position :
    wellFormed (.echoError 0 61 (same true)) = false ∧ wellFormed (.echoError 0 60 (same true)) = true := by decide

theorem test_wf_answers_are_complete :
    wellFormed (.summaryAnswer 0 []) = false ∧ wellFormed (.probeAnswer 0 [busChar 1, busChar 2]) = false ∧
    wellFormed (.probeAnswer 0 [busChar 12, busChar 0, busChar 0]) = true ∧
    wellFormed (.responseWindowEnd 0 (List.replicate 13 (busChar 0))) = false ∧
    wellFormed (.responseWindowEnd 0 (List.replicate 12 (busChar 0))) = true := by decide

theorem test_wf_broken_by_mark :
    wellFormed (.badFrame (.broken (linkChar 1 false))) = false ∧
    wellFormed (.badFrame (.broken (linkChar 1 true))) = true := by decide

theorem test_wf_glitch_is_no_character :
    wellFormed (.linkCharacterTaken { linkChar 1 true with start := same true }) = false ∧
    wellFormed (.linkCharacterTaken (linkChar 1 true)) = true := by decide

/-! ### The spec's worked values -/

/-- The words of the default profile are those the reset state's stored copy holds (R190, log 8). -/
theorem test_stored_default : Stored.defaultWords = Profile.default.words := by decide

/-- No word spells a command: the table gives no bits. -/
theorem test_no_word_spells_a_command : decodeTableWord 16 0x4000 = none := rfl

/-- The bands of the examples under R42. -/
theorem test_bands :
    bandOf Profile.default 12 36 = 4 ∧ bandOf Profile.default 9 34 = 2 ∧ bandOf Profile.default (-22) 30 = 0 ∧
    bandOf Profile.default (-25) 66 = 7 ∧ bandOf Profile.default 10 34 = 3 ∧ bandOf Profile.default 40 55 = 6 := by
  decide

/-- The conditions of the string of section 2.5.2: rated 320 A and 400 A. -/
def string4 : Conditions := ⟨true, false, false, false, false, false, false, 320, 400, true⟩

/-- A record of that string: its band, maximum and minimum cell. -/
def record4 (band : Fin 8) (max min : Nat) : StringRec :=
  { StringRec.atReset with fitted := true, band := band, maxCell := max, minCell := min }

/-- Envelopes and cause of a record of that string. -/
def result4 (r : StringRec) (c : Conditions) : Nat × Nat × Cause :=
  (chargeEnvelopeOf Profile.default r c, dischargeEnvelopeOf Profile.default r c, causeOf Profile.default r c)

/-- The worked examples of section 2.5.2. -/
theorem test_envelopes :
    result4 (record4 3 3950 3600) string4 = (320, 400, .none) ∧
    result4 (record4 2 3950 3600) string4 = (160, 400, .thermal) ∧
    result4 (record4 0 3950 3600) string4 = (0, 100, .thermal) ∧
    result4 (record4 5 4120 3600) { string4 with flowFault := true } = (20, 100, .thermal) ∧
    result4 (record4 3 3950 3150) { string4 with flowFault := true } = (160, 50, .cooling) ∧
    result4 (record4 4 4210 3600) string4 = (0, 400, .taper) ∧
    result4 (record4 3 3950 3600) { string4 with prealarm := true } = (0, 400, .prealarm) ∧
    result4 (record4 3 3950 3600) { string4 with fire := true } = (0, 0, .fire) := by decide

/-- The worked value of R45: 15.625 A rounds down to 15 A. -/
theorem test_envelope_rounds_down :
    chargeEnvelopeOf Profile.default (record4 5 4100 3600) { string4 with flowFault := true, ratedCharge := 250 } = 15 := by
  decide

/-- The demand examples of section 6.3. -/
theorem test_cooling_demand :
    demandOf ⟨true, 3, true⟩ ⟨true, 3, true⟩ = (0, false) ∧ demandOf ⟨true, 1, true⟩ ⟨true, 0, true⟩ = (0, true) ∧
    demandOf ⟨true, 1, true⟩ ⟨true, 2, true⟩ = (0, false) ∧ demandOf ⟨true, 0, true⟩ ⟨true, 5, true⟩ = (2, false) ∧
    demandOf ⟨true, 3, true⟩ ⟨true, 3, false⟩ = (1, false) ∧ demandOf ⟨true, 1, false⟩ ⟨true, 1, true⟩ = (1, true) ∧
    demandOf ⟨true, 6, true⟩ ⟨true, 2, false⟩ = (3, false) := by decide

/-- Decisions of the examples under R108 from QUIET, without a manual cause. -/
theorem test_fire_decisions :
    FireState.decide .quiet 1 false ⟨false, false, false⟩ 9 = .preAlarm ∧
    FireState.decide .quiet 2 false ⟨false, false, false⟩ 9 = .countdown 9 ∧
    FireState.decide .quiet 1 true ⟨false, true, false⟩ 9 = .alarm ∧
    FireState.decide .quiet 0 true ⟨false, false, false⟩ 9 = .quiet := by decide

/-- A state whose string 7 reads 155.8 V, with a DC-link value stored an age before. -/
def dcState (value age : Nat) : State :=
  { State.reset.setString 7 { StringRec.atReset with voltage := 1558 } with
    now := age, link := { Link.atReset with dc := some ⟨value, 0, 0⟩ } }

/-- The match examples under R142. -/
theorem test_dc_matches :
    (dcState 1530 (Config.ms 300)).matches 7 = true ∧ (dcState 1512 0).matches 7 = true ∧
    (dcState 1511 0).matches 7 = false ∧ (dcState 1604 (Config.ms 900)).matches 7 = true ∧
    (dcState 1605 (Config.ms 200)).matches 7 = false := by decide +kernel

/-- A found character with a noise mark or a framing error. -/
def found (v : Byte) (noise framing : Bool) : BusRx := ⟨v, noise, framing⟩

/-- A good SUMMARY answer of module 5: zeros and the check character of the selector (R62). -/
def answer5 (n : Nat) : List BusRx :=
  (List.range 13).map fun i =>
    found (if i = 12 then checkChar (selector .summary 5 :: List.replicate 12 0) else 0) (decide (i < n)) false

/-- Judgements of section 3.2.1. -/
theorem test_exchange_judgements :
    judgeAnswer .summary 5 (answer5 1) = none ∧ judgeAnswer .summary 5 (answer5 2) = some .noise ∧
    judgeAnswer .summary 5 (List.replicate 13 (found 0 false false)) = some .check ∧
    judgeAnswer .summary 5 ((answer5 0).take 11) = some .short ∧ judgeAnswer .summary 5 [] = some .short ∧
    judgeAnswer .summary 5 ((answer5 2).set 4 (found 0 false true)) = some .framing ∧
    judgeAnswer .summary 5 (answer5 0 ++ [found 7 false false]) = none := by decide

/-- Nine link characters with a check character. -/
def nine (kind : Byte) (noisy : Nat) : List RxChar :=
  let body : List Byte := [kind, 47, 3, 0, 0, 0, 0, 9]
  (body ++ [checkChar body]).zipIdx.map fun x => ⟨x.1, x.2 == 0, decide (x.2 < noisy), false⟩

/-- Judgements of section 8.2.1. -/
theorem test_frame_judgements :
    judgeFrame (nine 1 1) = .ok ⟨.renew, ⟨47, 3⟩, 0, 0, 9⟩ ∧ judgeFrame (nine 1 2) = .error .noise ∧
    judgeFrame (nine 8 0) = .error .kind ∧
    judgeFrame ((nine 1 0).set 8 ⟨0, false, false, true⟩) = .error .framing ∧
    judgeFrame ((nine 1 0).set 8 ⟨0, false, false, false⟩) = .error .check := by
  refine ⟨rfl, rfl, rfl, rfl, rfl⟩

/-- A write transaction of a whole word is the command of its area (R197). -/
theorem test_transaction_commands :
    transactionCommands 0x8200 [0x4004, 0xBEEF] = [.run 4, .windowWriteOther 0x201 0xBEEF] ∧
    transactionCommands 0x0200 [0x4004] = [] := by decide

/-- Section 11.1.1: the edges of a header and of a data word are the command of that word; the address has moved on (R197). -/
theorem test_edges_of_a_write :
    ((State.reset.select.clockIn (wordBits 0x8204)).clockIn (wordBits 3)).attention.enables = 3 ∧
    ((State.reset.select.clockIn (wordBits 0x8204)).clockIn (wordBits 3)).transaction = .write 0x205 [] := by
  decide +kernel

/-- A read transaction of the enable word shifts its captured bits out, and data out floats outside it (R197). -/
theorem test_edges_of_a_read :
    let s : State := { State.reset with attention := ⟨0, 0x201, false⟩ }
    let header := s.select.clockIn (wordBits 0x0204)
    let bit := fun (t : State) => t.clockFall.dataOut
    s.dataOut = none ∧ header.dataOut = none ∧ bit header = some false ∧
    bit ((List.range 6).foldl (fun t _ => t.clockFall.clockRise false) header) = some true ∧
    bit ((List.range 15).foldl (fun t _ => t.clockFall.clockRise false) header) = some true ∧
    ((List.range 16).foldl (fun t _ => t.clockFall.clockRise false) header).transaction = .read 0x205 (some ⟨0x201, true⟩) [] := by
  decide +kernel

/-- A word cut by the release of select is discarded, and the port takes nothing while reset is asserted (R197). -/
theorem test_cut_words_and_reset :
    ((State.reset.select.clockIn ((wordBits 0x8204).take 15)).deselect).transaction = .released ∧
    (State.reset.assertReset.select.clockIn (wordBits 0x8204)).transaction = .resetHeld ∧
    State.reset.assertReset.releaseReset.transaction = .released := by decide +kernel

/-- The header gap: 13 bit times low, then the delimiter and the timing character (R61). -/
theorem test_header_levels :
    (frameLevels .probe 1 ⟨0, false⟩).take 18 = List.replicate 13 false ++ [true, false, true, false, true] ∧
    (frameLevels .probe 1 ⟨0, false⟩).length = 34 ∧ Config.headerTime = 34 * 3750 := by decide

/-- Response windows: 2 ms and a character time (10 bits at 19,200 bit/s) for each expected character (R65). -/
theorem test_response_windows :
    FrameKind.summary.window = some (Config.ms 2 + 13 * 37500) ∧ FrameKind.probe.window = some (Config.ms 2 + 3 * 37500) ∧
    FrameKind.target.window = none ∧ Config.wakeTime = Config.us 100250 := by decide

/-- A character of the link as sent: start low, bits 0 to 7, ninth, stop high; and the line at rest is high (R160). -/
theorem test_link_levels :
    linkCharLevels 0x05 true = [false, true, false, true, false, false, false, false, false, true, true] ∧
    (∀ f : OutFrame, (Transmitter.sending f .r19200 0).line 0 = false) ∧ Transmitter.idle.line 7 = true :=
  ⟨by decide, fun _ => rfl, rfl⟩

/-- COMMIT-PROFILE is waited for from its snapshot on (R176, R182). -/
theorem test_commit_waits_from_snapshot :
    ((State.takeSlot 33 5 { ready .commissioning with orderMemory := [(162, 26)] }).runner.status.2).getLsbD 0 = true ∧
    ((State.takeSlot 33 5 { ready .commissioning with orderMemory := [(162, 9)] }).runner.status.2).getLsbD 0 = false := by
  decide +kernel

/-- A fact about the state an outcome goes to. -/
def after (o : Host.Outcome State Fault Refusal) (f : State → Bool) : Bool :=
  match o with
  | .next t => f t
  | _ => false

/-- Section 9.6: slot 11 carries generation 7, so REVOKE of (11, 6) is refused STALE. -/
theorem test_revoke_stale :
    after (exec (.revoke 0x060B) ((ready .operating).setSlot 11 ⟨7, some charge⟩))
      (fun t => t.answer == some ⟨some .stale, List.replicate 7 0⟩ && t.slots[(11 : Fin 48)].permit.isSome) = true := by
  decide +kernel

/-- REVOKE of (11, 7) goes to REVOKED with reason STATION and no limit (R18, R22). -/
theorem test_revoke_done :
    after (exec (.revoke 0x070B) ((ready .operating).setSlot 11 ⟨7, some charge⟩))
      (fun t => t.slots[(11 : Fin 48)].permit.any fun p => p.state == .revoked && p.reason == some .station &&
        p.limits == some ⟨100, 0, none⟩) = true := by decide +kernel

/-- Retiring generation 255 wraps it to 0 (R2). -/
theorem test_retire_wraps :
    after (exec (.retire 0xFF2F) ((ready .operating).setSlot 47 ⟨255, some charge⟩))
      (fun t => t.slots[(47 : Fin 48)] == ⟨0, none⟩) = true := by decide +kernel

/-- The last second of the last day is followed by day 0, second 0 (R193). -/
theorem test_clock_wraps :
    after (exec .siteClockAdvance
        { State.reset with unit := { State.reset.unit with clock := ⟨65535, 86399⟩ } })
      (fun t => t.unit.clock == ⟨0, 0⟩) = true := by decide +kernel

/-- Section 9.6: REVOKE answered REFUSED, STALE with notify-on-refusal. The runner's write is the next event on an empty
queue: it sets CHAIN and takes the next slot. -/
theorem test_run_goes_on_after_refusal :
    after (exec (.revoke 0x060B)
        { ready .operating with
          orderMemory := [(194, 17)]
          runner := ⟨.running 5 ⟨0x0106, 14, 0x060B, 0, 0, 0, 0, 0⟩ false false .handed, 2, true⟩ })
      (fun t => !t.flagged .chain && t.orderMemory == [(194, 17)] && t.handedOrder.isNone &&
        after (step t) fun u => u.flagged .chain && u.runner.executed == 3 && u.runner.runRefused &&
          Memory.readWord u.orderMemory (slotAddress 5 8) == 0xC005 && u.handedOrder == some .openBreaker) = true := by
  decide +kernel

/-! ### The hypotheses of the statements are met

A theorem `witness_<Name>…` shows states and operands that meet the hypotheses of `Obligations.<Name>`, clause by clause. -/

/-- A state with a record in slot 47 and no other holds no other. -/
theorem holding_only {p q : Permit} {i : Fin 48} (h : Holds (holding p) i q) : i = 47 ∧ q = p := by
  unfold Holds holding State.setPermit State.setSlot put at h
  by_cases hi : i = 47
  · subst hi
    simpa using h.symm
  · have : (47 : Nat) ≠ i.val := fun e => hi (Fin.ext e.symm)
    simp [State.reset, this] at h

/-- A property of every record of such a state is a property of its one record. -/
theorem holding_all {p : Permit} {P : Fin 48 → Permit → Prop} (h : P 47 p) : ∀ i q, Holds (holding p) i q → P i q := by
  intro i q hq
  obtain ⟨rfl, rfl⟩ := holding_only hq
  exact h

/-- The record of slot 47 is held. -/
theorem holding_holds (p : Permit) : Holds (holding p) 47 p := by
  simp [Holds, holding, State.setPermit, State.setSlot, put]

/-- At reset every handle is stale. -/
theorem stale_at_reset (h : Word) : Stale State.reset h := by
  rintro i p ⟨-, hp, -⟩
  simp [State.reset] at hp

/-- The handle (47, 0) names the record of slot 47, the last slot. -/
theorem names_last (p : Permit) : Names (holding p) 0x002F 47 p := by
  refine ⟨by decide, holding_holds p, ?_⟩
  simp [holding, State.setPermit, State.setSlot, put, State.reset]

/-- A handle of the same slot with another generation is stale. -/
theorem stale_generation (p : Permit) : Stale (holding p) 0x012F := by
  rintro i q ⟨hn, hq, hg⟩
  obtain ⟨rfl, rfl⟩ := holding_only hq
  revert hg
  simp [holding, State.setPermit, State.setSlot, put, State.reset]

/-- Orders the runner hands over, at the first and the last slot, with and without a stop request, and orders given
directly that the gate lets through: what `Answers` asks. -/
theorem witness_Answers :
    Handed (handing ⟨0, 14, 0x002F, 0, 0, 0, 0, 0⟩ false) (.revoke 0x002F) 31 ⟨0, 14, 0x002F, 0, 0, 0, 0, 0⟩ false
      false ∧
    Handed (handing ⟨0, 9, 0, 0, 0, 0, 0, 0⟩ true) .readClock 31 ⟨0, 9, 0, 0, 0, 0, 0, 0⟩ false true ∧
    ((ready .operating).handedOrder ≠ some .closeBreaker ∧ (ready .operating).gate (some .closeBreaker) = none) ∧
    ((ready .maintenance).handedOrder ≠ some (.clearContactor 7) ∧
      (ready .maintenance).gate (some (.clearContactor 7)) = none) ∧
    ((ready .commissioning).handedOrder ≠ some .commitProfile ∧
      (ready .commissioning).gate (some .commitProfile) = none) ∧
    (State.reset.handedOrder ≠ some .readLink ∧ State.reset.gate (some .readLink) = none) := by
  unfold Handed
  decide

theorem witness_StepRunsFrontOfQueue :
    ({ State.reset with pending := [.stop, .powerOn] } : State).pending = .stop :: [.powerOn] := rfl

theorem witness_EmptyQueueServesOrderOrTime :
    (State.reset.pending = [] ∧ State.reset.handedOrder = none ∧
      ∀ slot x w stop a, State.reset.runner.state ≠ .running slot x w stop (.answered a)) ∧
    ((handing ⟨0, 9, 0, 0, 0, 0, 0, 0⟩ false).pending = [] ∧
      Handed (handing ⟨0, 9, 0, 0, 0, 0, 0, 0⟩ false) .readClock 31 ⟨0, 9, 0, 0, 0, 0, 0, 0⟩ false
        false) ∧
    (({ ready .operating with
        runner := ⟨.running 31 ⟨0, 9, 0, 0, 0, 0, 0, 0⟩ false true (.answered (refuse .stale)), 1, false⟩ } : State).pending = [] ∧
      ({ ready .operating with
        runner := ⟨.running 31 ⟨0, 9, 0, 0, 0, 0, 0, 0⟩ false true (.answered (refuse .stale)), 1, false⟩ } : State).runner.state =
        .running 31 ⟨0, 9, 0, 0, 0, 0, 0, 0⟩ false true (.answered (refuse .stale))) ∧
    ((withBus (busIn .polling (some ⟨.target, 0, 0, none, some ⟨3600, true⟩⟩))).pending = [] ∧
      (withBus (busIn .polling (some ⟨.target, 0, 0, none, some ⟨3600, true⟩⟩))).handedOrder = none) ∧
    -- the quantum in which the header of a TARGET frame ends
    (let f : Frame := ⟨.target, 0, 0, none, none⟩
      let s : State := { withBus (busIn .polling (some f)) with now := 34 * 3750 - 1 }
      s.pending = [] ∧ s.handedOrder = none ∧ s.buses[(7 : Fin 8)].frame = some f ∧ f.kind = .target ∧ f.gapEnd = none ∧
        f.built = none ∧ f.start + 34 * 3750 ≤ s.now + 1) :=
  ⟨⟨rfl, rfl, nofun⟩, ⟨rfl, rfl, rfl⟩, ⟨rfl, rfl⟩, ⟨rfl, rfl⟩, rfl, rfl, rfl, rfl, rfl, rfl, by decide⟩

theorem witness_ResetLeavesResetValues :
    State.reset.unit.writing = none ∧
    ({ State.reset.unit with writing := some 0 } : ProfileUnit).writing.isSome = true := ⟨rfl, rfl⟩

theorem witness_StartUpLoadAndTimeLimit :
    State.reset.loaded = false ∧
    State.reset.unit.stored.checksum ≠ some (~~~(State.reset.unit.stored.words.foldl (· + ·) 0)) ∧
    (⟨Stored.defaultWords, some (~~~(Stored.defaultWords.foldl (· + ·) 0))⟩ : Stored).checksum =
      some (~~~(Stored.defaultWords.foldl (· + ·) 0)) ∧
    State.reset.unit.startUp.phase = .running (Config.sec 20) := ⟨rfl, by decide, rfl, rfl⟩

/-- What the settling of an event makes of the phase of start-up, with bus 7 at a progress. -/
def settledPhase (loaded : Bool) (phase : StartPhase) (p : BusProgress) : StartPhase :=
  let s := State.reset
  ({ s with
    loaded := loaded
    unit := { s.unit with startUp := ⟨phase, put s.unit.startUp.buses 7 ⟨p, false⟩⟩ } }).settle.unit.startUp.phase

/-- Start-up ends COMPLETE with the last bus POLLED or FAILED, and not before the load or with a bus on its way. -/
theorem witness_StartUpLoadAndTimeLimit_complete :
    settledPhase true (.running 9) .polled = .ended .complete ∧ settledPhase true (.running 9) .failed = .ended .complete ∧
    settledPhase true (.running 9) .firstRound = .running 9 ∧ settledPhase false (.running 9) .polled = .running 9 ∧
    settledPhase true (.ended .timeLimit) .polled = .ended .timeLimit := by decide +kernel

theorem witness_WindowWritesByArea_memory :
    Memory.wf State.reset.orderMemory = true ∧ Memory.wf [((0 : Nat), (1 : BitVec 8)), (1023, 0xFF)] = true ∧
    (2 * slotAddress 31 15 + 1 = 1023 ∧ 2 * slotAddress 0 0 = 0) := by decide

theorem witness_WindowWritesByArea :
    wellFormed (.windowWriteOther 0x3FF 0xFFFF) = true ∧ (0x1FF : BitVec 10).toNat < 0x200 ∧
    (0x401F : Word).extractLsb' 14 2 = 1#2 ∧ (0x8000 : Word).extractLsb' 14 2 = 2#2 ∧
    ({ State.reset with transaction := .write 0x3FF [] } : State).transaction = .write 0x3FF [] := by decide

theorem witness_TransactionsSelectHeaderAndRead :
    State.reset.assertReset.transaction = .resetHeld ∧ State.reset.transaction ≠ .resetHeld ∧
    State.reset.select.transaction = .header [] ∧
    ((0x83FF : Word).getLsbD 15 = true ∧ (0x03FF : Word).getLsbD 15 = false) ∧
    (let s : State := { State.reset with transaction := .read 0x3FF none [] }
     s.transaction = .read 0x3FF none [] ∧ (clocked (fun _ => true) 15 s).transaction = .read 0x3FF (some ⟨0, false⟩)
        (List.replicate 15 true)) ∧
    ((0x1FF : BitVec 10).toNat < 0x200 ∧ 0x205 ≤ (0x205 : BitVec 10).toNat ∧ 0x205 ≤ (0x3FF : BitVec 10).toNat) := by
  decide +kernel

/-- The runner in each of its states. -/
def runnerIn (r : RunnerState) (executed : Nat) : State := { ready .operating with runner := ⟨r, executed, true⟩ }

theorem witness_RunsStopAndTakeSlots :
    (runnerIn (.idle none) 0).runner.state = .idle none ∧
    (runnerIn (.halted 31 .chainLong) 32).runner.state = .halted 31 .chainLong ∧
    (runnerIn (.running 31 ⟨0, 9, 0, 0, 0, 0, 0, 0⟩ false false .handed) 32).runner.state =
      .running 31 ⟨0, 9, 0, 0, 0, 0, 0, 0⟩ false false .handed := ⟨rfl, rfl, rfl⟩

theorem witness_RunsStopAndTakeSlots_slot :
    32 ≤ (runnerIn (.idle none) 32).runner.executed ∧
    ((runnerIn (.idle none) 31).runner.executed < 32 ∧
      (runnerIn (.idle none) 31).gate ((runnerIn (.idle none) 31).snapshotOf 31).order = some .unknown) ∧
    ({ ready .operating with orderMemory := [(994, 9)] } : State).gate
      (({ ready .operating with orderMemory := [(994, 9)] } : State).snapshotOf 31).order = none := by decide

theorem witness_GateChecksInOrder :
    ((0 : Word).toNat = 0 ∧ 26 < (27 : Word).toNat) ∧
    State.reset.unit.startUp.phase = .running (Config.sec 20) ∧
    (ready .operating).unit.startUp.phase = .ended .complete ∧
    ((orderClass .closeBreaker).isSome = true ∧ State.reset.handedOrder ≠ some .closeBreaker ∧
      State.reset.gate (some .closeBreaker) = some .notReady) ∧
    ((orderClass .closeBreaker).isSome = true ∧ (ready .maintenance).handedOrder ≠ some .closeBreaker ∧
      (ready .maintenance).gate (some .closeBreaker) = some .mode) := by decide

theorem witness_OrderEndWritesOutcomeAndGoesOn :
    (List.replicate 7 (0 : Word)).length = 7 ∧ Memory.wf State.reset.orderMemory = true ∧
    ((some RefCode.stale).isSome = true ∧ (0x0040 : Word).getLsbD 6 = true) ∧
    ¬((none : Option RefCode).isSome = true ∧ (0x0040 : Word).getLsbD 6 = true) ∧
    ¬((some RefCode.stale).isSome = true ∧ (0x0020 : Word).getLsbD 6 = true) ∧
    (0x0020 : Word).getLsbD 5 = true ∧ (0x001F : Word).getLsbD 5 = false := by decide

/-- At reset no record is held. -/
theorem none_held {i : Fin 48} {p : Permit} : ¬Holds State.reset i p := by simp [Holds, State.reset]

/-! Records at the ends of their ranges. -/

/-- LIVE, with a pending rise, a lease and an expiry at their greatest. -/
def fullCharge : Permit :=
  { charge with
    scope := 255, limits := some ⟨8000, 7999, some ⟨8000, Config.sec 60⟩⟩
    leasePeriod := some 60, leaseEnd := some (Config.sec 60), expiry := some ⟨65535, 86399⟩ }

/-- SUSPENDED for the envelope of string 7. -/
def suspendedCharge : Permit :=
  { charge with state := .suspended, limits := some ⟨8000, 0, none⟩, reason := some (.envelope 7 .taper) }

/-- REVOKED with the longest hold. -/
def revokedCharge : Permit :=
  { charge with
    state := .revoked, limits := some ⟨8000, 0, none⟩, reason := some .station, leasePeriod := some 60
    holdEnd := some (Config.sec 3600) }

/-- A LIVE CONNECT of the station. -/
def connect : Permit := { charge with kind := .connect, scope := 0, limits := none, autoReclose := true }

/-- A CONNECT suspended for GRID. -/
def gridConnect : Permit := { connect with state := .suspended, reason := some .grid }

/-- A LIVE ENTRY of the crew. -/
def entry : Permit := { charge with kind := .entry, holder := .crew, scope := 255, limits := none }

/-- A CHARGE of the converter with a lease. -/
def convCharge : Permit :=
  { charge with holder := .converter, leasePeriod := some 1, leaseEnd := some (Config.sec 1), notice := true }

theorem witness_InRanges :
    InRanges (holding fullCharge) fullCharge ∧ InRanges (holding suspendedCharge) suspendedCharge ∧
    InRanges (holding revokedCharge) revokedCharge ∧ InRanges (holding convCharge) convCharge := by
  refine ⟨?_, ?_, ?_, ?_⟩ <;> refine ⟨by decide, by decide, ?_, ?_, ?_, ?_, ?_⟩ <;> intro a b <;>
    first
    | (cases b; done)
    | (cases b; decide +kernel)
    | (intro hl hr; cases hl; cases hr <;> decide +kernel)

theorem witness_LookupReturnsRecordAndClearsMark :
    Stale State.reset 0xFFFF ∧ Stale (holding fullCharge) 0x012F ∧
    Names (holding fullCharge) 0x002F 47 fullCharge ∧ Names (holding suspendedCharge) 0x002F 47 suspendedCharge ∧
    Names (holding revokedCharge) 0x002F 47 revokedCharge ∧
    (fullCharge.state = .live ∧ fullCharge.limits = some ⟨8000, 7999, some ⟨8000, Config.sec 60⟩⟩) ∧
    (suspendedCharge.state = .suspended ∧ suspendedCharge.reason = some (.envelope 7 .taper)) ∧
    (revokedCharge.state = .revoked ∧ revokedCharge.holdEnd = some (Config.sec 3600)) ∧
    (fullCharge.leaseEnd = some (Config.sec 60) ∧ fullCharge.expiry = some ⟨65535, 86399⟩ ∧ charge.expiry = none) ∧
    (Names (holding gridConnect) 0x002F 47 gridConnect ∧ (∀ l, gridConnect.limits = some l → l.rise = none) ∧
      gridConnect.state ≠ .revoked ∧ gridConnect.leaseEnd = none ∧ gridConnect.reason = some .grid ∧
      ∀ n c, Reason.grid ≠ .envelope n c) :=
  ⟨stale_at_reset _, stale_generation _, names_last _, names_last _, names_last _, ⟨rfl, rfl⟩, ⟨rfl, rfl⟩, ⟨rfl, rfl⟩,
    ⟨rfl, rfl, rfl⟩, names_last _, nofun, by decide, rfl, rfl, nofun⟩

theorem witness_FindAndNextChangedByLowestSlot :
    (5 < (6 : Word).toNat ∧ (2 ≤ (5 : Word).toNat ∧ (5 : Word).toNat ≤ 5 ∧ 7 < (8 : Word).toNat)) ∧
    (1 ≤ (2 : Word).toNat ∧ (2 : Word).toNat ≤ 5 ∧ (7 : Word).toNat ≤ 7) ∧
    (∀ i : Fin 48, ¬∃ p, State.reset.slots[i].permit = some p) ∧
    (∃ p, (holding fullCharge).slots[(47 : Fin 48)].permit = some p ∧ p.kind.code = (2 : Word).toNat ∧
      p.scope.getLsbD (7 : Word).toNat = true) ∧
    ∀ j : Fin 48, j < 47 → ¬∃ p, (holding fullCharge).slots[j].permit = some p := by
  refine ⟨by decide, by decide, fun i ⟨p, h⟩ => none_held h, ⟨fullCharge, holding_holds _, by decide⟩, ?_⟩
  rintro j hj ⟨p, h⟩
  exact absurd (holding_only h).1 (by omega)

theorem witness_FindAndNextChangedByLowestSlot_next :
    (∀ i p, Holds (holding charge) i p → p.changed = false) ∧
    Holds (holding { charge with changed := true }) 47 { charge with changed := true } ∧
    ∀ j q, j < 47 → Holds (holding { charge with changed := true }) j q → q.changed = false :=
  ⟨holding_all rfl, holding_holds _, fun _ _ hj h => absurd (holding_only h).1 (by omega)⟩

theorem witness_ReadOrdersChangeMarksAlone :
    7 < (8 : Word).toNat ∧ 1 < (2 : Word).toNat ∧ (7 : Word).toNat = (7 : Fin 8).val ∧ (1 : Word).toNat ≤ 1 := by decide

/-- READ-MODULE of an address without an entry, of one without summary values and of one with them. -/
theorem witness_ReadOrdersChangeMarksAlone_module :
    (State.reset.buses[(7 : Fin 8)].entry (24 : Word).toNat = none ∧ 1 ≤ (24 : Word).toNat ∧ (24 : Word).toNat ≤ 24) ∧
    (let e : Entry := ⟨24, true, .online, 0, none, none⟩
     (withBus { busIn .polling none with roster := [e] }).buses[(7 : Fin 8)].entry (24 : Word).toNat = some e ∧
        e.summary = none) ∧
    (let v : Summary := ⟨65535, 16, 65535, 16, 65535, 125, -40, 255, 255, 0⟩
     let e : Entry := ⟨1, true, .online, 0, some v, none⟩
     (withBus { busIn .polling none with roster := [e] }).buses[(7 : Fin 8)].entry (1 : Word).toNat = some e ∧
        e.summary = some v) := by decide +kernel

/-- The bus itself, address 0, and an entry whose cell count the field holds. -/
theorem witness_ReadOrdersChangeMarksAlone_pages :
    ((7 : Word).toNat = (7 : Fin 8).val ∧ (0 : Word) = 0 ∧ (1 : Word).toNat ≤ 1) ∧
    (let e : Entry := ⟨24, true, .faulted .status, 3, none, some ⟨31, 255⟩⟩
     (withBus { busIn .polling none with roster := [e] }).buses[(7 : Fin 8)].entry (24 : Word).toNat = some e ∧
        e.probe = some ⟨31, 255⟩ ∧ (⟨31, 255⟩ : Probe).cellCount < 32) := by decide +kernel

/-- The results of an order given to its owner. -/
def results (x : State × Answer) : List Word := x.2.results

/-- Section 11.1.6: the page of an EXTRA entry whose probe said 16 cells; of the reset breaker, UNHEALTHY alone; of a module
whose miss count is 3. -/
theorem test_result_words :
    Entry.page0 ⟨1, false, .extra, 3, none, some ⟨16, 0x81⟩⟩ = [0x42C8, 0x0081, 0, 0, 0, 0, 0] ∧
    results (ownerReadConnection 8 State.reset) = [0, 0, 0x0800, 0, 0, 0, 0] ∧
    results (ownerReadProfile 28 0 (ready .operating)) = [0x0A14, 0, 0, 0, 0, 0, 0] := by decide +kernel

/-- Section 11.1.6: presence bits before the serving string (R141), at bit 60, and before the rate (R164), at bit 6. -/
theorem test_presence_bits :
    results (ownerReadConnection 8 { State.reset with serving := some 5 }) = [0, 0, 0x0800, 0xB800, 0, 0, 0] ∧
    results (ownerReadLink { State.reset with link := { State.reset.link with rate := some .r115200 } }) =
      [0x0141, 0, 0, 0, 0, 0, 0] := by decide +kernel

/-- The highest level of a gas list: the first among equals, with items before and after it. -/
theorem witness_ReadBayAndConnectionWords :
    (3 : Word).toNat = (3 : Fin 4).val ∧ (7 : Word).toNat = (7 : Fin 8).val ∧
    (let list : List GasItem := [⟨6, 1, 3⟩, ⟨6, 24, 255⟩, ⟨7, 1, 255⟩]
     list = [⟨6, 1, 3⟩] ++ ⟨6, 24, 255⟩ :: [⟨7, 1, 255⟩] ∧ (∀ x ∈ [(⟨6, 1, 3⟩ : GasItem)], x.level < 255) ∧
        ∀ x ∈ [(⟨7, 1, 255⟩ : GasItem)], x.level ≤ 255) ∧ State.reset.fire[(3 : Fin 4)].gasList = [] := by decide

theorem witness_ReadLinkAndProfileWords :
    (⟨State.reset.unit.stored.words, some 0xFFFF⟩ : Stored).checksum = some 0xFFFF ∧
    State.reset.unit.startUp.phase = .running (Config.sec 20) ∧
    (ready .operating).unit.startUp.phase = .ended .complete ∧ (1 ≤ (29 : Word).toNat ∧ (29 : Word).toNat ≤ 29) ∧
    (2 ≤ (5 : Word).toNat ∧ (5 : Word).toNat ≤ 5 ∧ (7 : Word).toNat = (7 : Fin 8).val) ∧
    ¬(2 ≤ (6 : Word).toNat ∧ (6 : Word).toNat ≤ 5) := by decide

/-- A state in OPERATING with every string fitted, the crew key on and a DISCHARGE of string 0 in slot 0. -/
def granting : State :=
  State.setPermit
    { ready .operating with crewKey := true, unit := { (ready .operating).unit with
        active := { Profile.default with fitted := 255 } } }
    0 { charge with kind := .discharge }

/-- The same with envelopes of 1 A. -/
def grantingAmps : State := { granting with strings := Vector.replicate 8 { StringRec.atReset with chargeEnvelope := 1 } }

theorem witness_GrantFillsLowestFreeSlot :
    (Kind.ofCode (GrantOps.decode 0x0106 0 0 0 0 0).kindCode = none ∧
      Holder.ofCode (GrantOps.decode 0x0402 0 0 0 0 0).holderCode = none) ∧
    granting.grantRefusal .connect .station (GrantOps.decode 0x0101 0x0001 0 0 0 0) = some .scope ∧
    granting.grantRefusal .connect .station (GrantOps.decode 0x0101 0x0800 0 0 0 0) = none ∧
    granting.grantRefusal .charge .converter (GrantOps.decode 0x0202 0x03FF 8000 60 0 0) = none ∧
    granting.grantRefusal .isolate .station (GrantOps.decode 0x0104 0x0080 0 0 0 0) = none ∧
    granting.grantRefusal .entry .crew (GrantOps.decode 0x0305 0x0001 0 0 0 0) = none ∧
    (granting.slots[(1 : Fin 48)].permit = none ∧ ∀ j : Fin 48, j < 1 → granting.slots[j].permit ≠ none) ∧
    (min 8000 (granting.envelopeSum .charge 255) = 0 ∧ 0 < min 8000 (grantingAmps.envelopeSum .charge 255)) ∧
    (Kind.charge.hasLimit = true ∧ (GrantOps.decode 0x0202 0x03FF 8000 60 0 0).limit = some 8000) := by
  decide +kernel

theorem witness_AmendAppliesItsChanges :
    Stale (holding charge) 0x012F ∧ Names (holding charge) 0x002F 47 charge := ⟨stale_generation _, names_last _⟩

theorem witness_RenewRestartsStationLease :
    Stale (holding charge) 0x012F ∧
    (Names (holding convCharge) 0x002F 47 convCharge ∧ convCharge.holder ≠ .station) ∧
    (Names (holding charge) 0x002F 47 charge ∧ charge.holder = .station ∧ charge.leasePeriod = none) ∧
    (Names (holding revokedCharge) 0x002F 47 revokedCharge ∧ revokedCharge.holder = .station ∧
      revokedCharge.leasePeriod ≠ none ∧ revokedCharge.state = .revoked) ∧
    (Names (holding fullCharge) 0x002F 47 fullCharge ∧ fullCharge.holder = .station ∧
      fullCharge.leasePeriod = some 60 ∧ fullCharge.state ≠ .revoked) :=
  ⟨stale_generation _, ⟨names_last _, by decide⟩, ⟨names_last _, by decide⟩, ⟨names_last _, by decide⟩,
    ⟨names_last _, by decide⟩⟩

theorem witness_RevokeAndRetireEndPermits :
    Stale (holding charge) 0x012F ∧
    (Names (holding revokedCharge) 0x002F 47 revokedCharge ∧ revokedCharge.state = .revoked ∧
      revokedCharge.reason = some .station) ∧
    (Names (holding connect) 0x002F 47 connect ∧ connect.state ≠ .revoked) :=
  ⟨stale_generation _, ⟨names_last _, by decide⟩, ⟨names_last _, by decide⟩⟩

theorem witness_RevokeAndRetireEndPermits_retire :
    Stale (holding charge) 0x012F ∧ Names (holding gridConnect) 0x002F 47 gridConnect ∧
    (holding gridConnect).slots[(0 : Fin 48)].permit = none ∧
    (granting.slots[(0 : Fin 48)].permit = some { charge with kind := .discharge } ∧ (0 : Fin 48) ≠ 47) :=
  ⟨stale_generation _, names_last _, by decide +kernel, by decide +kernel⟩

theorem witness_ConnectionOrdersByState :
    (∃ e, (breakerIn (.closing 5)).breaker.state = .closing e) ∧ (breakerIn .closed).breaker.state = .closed ∧
    (breakerIn .tripped).breaker.state = .tripped ∧
    (∃ k e, (breakerIn (.opening .trip 5)).breaker.state = .opening k e) ∧
    (∃ r, (breakerIn (.failed .close)).breaker.state = .failed r) ∧
    (State.reset.breaker.state = .opened ∧
      ¬∃ i p, Holds State.reset i p ∧ p.kind = .connect ∧ p.state = .live) ∧
    ((holding connect).breaker.state = .opened ∧
      ∃ i p, Holds (holding connect) i p ∧ p.kind = .connect ∧ p.state = .live) ∧
    ((breakerIn .tripped).breaker.feedback = false ∧
      ({ State.reset.breaker with state := .tripped, feedback := true } : Breaker).feedback = true) ∧
    ((breakerIn .opened).breaker.state.commandsClosed = false ∧
      (breakerIn .closed).breaker.state.commandsClosed = true) :=
  ⟨⟨5, rfl⟩, rfl, rfl, ⟨.trip, 5, rfl⟩, ⟨.close, rfl⟩, ⟨rfl, fun ⟨_, _, h, _⟩ => none_held h⟩,
    ⟨rfl, 47, connect, holding_holds _, rfl, rfl⟩, ⟨rfl, rfl⟩, rfl, rfl⟩

theorem witness_ConnectionOrdersByState_clear :
    7 < (8 : Word).toNat ∧ (7 : Word).toNat = (7 : Fin 8).val ∧
    (∀ r, (contactorIn .opened).contactors[(7 : Fin 8)].state ≠ .failed r) ∧
    (contactorIn (.failed .precharge)).contactors[(7 : Fin 8)].state = .failed .precharge ∧
    (contactorIn (.failed .precharge)).contactors[(7 : Fin 8)].feedback = false ∧
    ((State.reset.setContactor 7 { Contactor.atReset true with state := .failed .feedback }).contactors[(7 : Fin 8)]).feedback
      = true :=
  ⟨by decide, by decide, fun r h => (by nomatch r, h), rfl, rfl, rfl⟩

theorem witness_BayOrdersByState :
    3 < (4 : Word).toNat ∧ (3 : Word).toNat = (3 : Fin 4).val ∧ (bayIn .preAlarm).fire[(3 : Fin 4)].state = .preAlarm ∧
    (bayIn (.released (some 9))).fire[(3 : Fin 4)].state = .released (some 9) ∧
    ((bayIn .alarm).fire[(3 : Fin 4)].state = .alarm ∧ (bayIn .alarm).fire[(3 : Fin 4)].activeCount = 0) ∧
    ((bayIn (.countdown 9)).fire[(3 : Fin 4)].state = .countdown 9) ∧
    ((bayIn (.released none)).fire[(3 : Fin 4)].state = .released none) ∧
    1 ≤ ((bayIn .alarm).setFire 3 { (bayIn .alarm).fire[(3 : Fin 4)] with activeCount := 1 }).fire[(3 : Fin 4)].activeCount :=
  ⟨by decide, by decide, rfl, rfl, ⟨rfl, rfl⟩, rfl, rfl, by decide⟩

theorem witness_BayOrdersByState_release :
    3 < (4 : Word).toNat ∧ (3 : Word).toNat = (3 : Fin 4).val ∧ (bayIn .quiet).fire[(3 : Fin 4)].state = .quiet ∧
    (bayIn (.released none)).fire[(3 : Fin 4)].state = .released none ∧
    (bayIn .alarm).fire[(3 : Fin 4)].state = .alarm ∧
    (bayIn (.countdown 9)).fire[(3 : Fin 4)].state = .countdown 9 := ⟨by decide, by decide, rfl, rfl, rfl, rfl⟩

theorem witness_RollcallByBusState :
    7 < (8 : Word).toNat ∧ (7 : Word).toNat = (7 : Fin 8).val ∧
    (withBus (busIn .off none)).buses[(7 : Fin 8)].state = .off ∧
    (withBus (busIn (.stuck .low 5) none)).buses[(7 : Fin 8)].state = .stuck .low 5 ∧
    (withBus (busIn (.failed true) none)).buses[(7 : Fin 8)].state = .failed true ∧
    (withBus (busIn .rollcall none)).buses[(7 : Fin 8)].state = .rollcall ∧
    (withBus (busIn (.selftest 5) none)).buses[(7 : Fin 8)].state = .selftest 5 ∧
    (withBus (busIn (.waking (some 3) 5) none)).buses[(7 : Fin 8)].state = .waking (some 3) 5 ∧
    ((withBus (busIn .polling none)).buses[(7 : Fin 8)].state = .polling ∧
      (withBus (busIn .polling none)).buses[(7 : Fin 8)].frame = none) ∧
    (withBus (busIn .polling (some ⟨.summary, 24, 0, none, none⟩))).buses[(7 : Fin 8)].frame.isSome = true :=
  ⟨by decide, by decide, rfl, rfl, rfl, rfl, rfl, rfl, ⟨rfl, rfl⟩, rfl⟩

/-- A state in OPERATING with the crew key on and one record, in slot 47. -/
def operating (p : Permit) : State := State.setPermit { ready .operating with crewKey := true } 47 p

/-- Its record is held. -/
theorem operating_holds (p : Permit) : Holds (operating p) 47 p := by
  simp [Holds, operating, State.setPermit, State.setSlot, put]

theorem witness_ClockValuesRevokeExpiredPermits :
    86399 < (0x5180 : Word).toNat + 65536 * ((1 : Word).toNat % 2) ∧
    (0x517F : Word).toNat + 65536 * ((1 : Word).toNat % 2) = 86399 ∧
    (Holds (operating fullCharge) 47 fullCharge ∧ fullCharge.state ≠ .revoked ∧
      fullCharge.expiry = some ⟨65535, 86399⟩ ∧ 65535 = (0xFFFF : Word).toNat ∧
      86399 ≤ (0x517F : Word).toNat + 65536 * ((1 : Word).toNat % 2)) ∧
    (Holds (operating { charge with expiry := some ⟨0, 1⟩ }) 47 { charge with expiry := some ⟨0, 1⟩ } ∧
      (operating { charge with expiry := some ⟨0, 1⟩ }).unit.clock = ⟨0, 0⟩) :=
  ⟨by decide, by decide, ⟨operating_holds _, by decide, rfl, by decide, by decide⟩, operating_holds _, rfl⟩

theorem witness_SetModeChangesModeAndRevokes :
    ((0 : Word) = 0 ∧ 3 < (4 : Word).toNat) ∧ Mode.maintenance.code = (3 : Word).toNat ∧
    Mode.commissioning.code = (1 : Word).toNat ∧
    ((operating connect).unit.mode = .operating ∧ (operating connect).crewKey = true ∧
      Holds (operating connect) 47 connect ∧ connect.kind = .connect ∧ connect.state = .live) ∧
    (Holds (operating suspendedCharge) 47 suspendedCharge ∧ suspendedCharge.kind.hasLimit = true ∧
      suspendedCharge.state = .suspended) :=
  ⟨by decide, by decide, by decide, ⟨rfl, rfl, operating_holds _, rfl, rfl⟩, operating_holds _, rfl, rfl⟩

theorem witness_WriteProfileChangesWorkingCopyAlone :
    29 < (30 : Word).toNat ∧ (2 ≤ (5 : Word).toNat ∧ (5 : Word).toNat ≤ 5 ∧ 7 < (8 : Word).toNat) ∧
    ((7 : Word).toNat = (7 : Fin 8).val ∧ inRange 4 1000 = true ∧ inRange 4 1001 = false) ∧
    (inRange 11 1 = true ∧ inRange 11 60 = true ∧ inRange 11 0 = false) ∧
    (inRange 12 0xFFFFD8 = true ∧ inRange 1 255 = true ∧ inRange 1 256 = false) := by decide

theorem witness_CommitWritesStoredCopy :
    Handed { ready .commissioning with runner := ⟨.running 31 ⟨0, 26, 0, 0, 0, 0, 0, 0⟩ true true .handed, 1, false⟩ }
      .commitProfile 31 ⟨0, 26, 0, 0, 0, 0, 0, 0⟩ true true ∧
    ((ready .commissioning).handedOrder ≠ some .commitProfile ∧
      (ready .commissioning).gate (some .commitProfile) = none) ∧
    ({ State.reset.unit with writing := some 0 } : ProfileUnit).writing = some 0 ∧
    (runnerIn (.running 31 ⟨0, 26, 0, 0, 0, 0, 0, 0⟩ true false .taken) 1).runner.state =
      .running 31 ⟨0, 26, 0, 0, 0, 0, 0, 0⟩ true false .taken ∧
    (∀ slot x w stop, State.reset.runner.state ≠ .running slot x w stop .taken) :=
  ⟨⟨rfl, rfl⟩, by decide, rfl, rfl, nofun⟩

/-- SUSPENDED for an envelope with a pending rise. -/
def risingCharge : Permit := { suspendedCharge with limits := some ⟨8000, 0, some ⟨1, 0⟩⟩ }

theorem witness_PermitTimersActOnRecords :
    (Holds (holding convCharge) 47 convCharge ∧ convCharge.state ≠ .revoked ∧ convCharge.leaseEnd.isSome = true) ∧
    (Holds (holding charge) 47 charge ∧ charge.leaseEnd = none ∧ charge.holdEnd = none) ∧
    (Holds (holding revokedCharge) 47 revokedCharge ∧ revokedCharge.state = .revoked ∧
      revokedCharge.holdEnd.isSome = true) ∧
    (Holds (holding risingCharge) 47 risingCharge ∧ risingCharge.limits = some ⟨8000, 0, some ⟨1, 0⟩⟩ ∧
      risingCharge.state = .suspended ∧ risingCharge.reason = some (.envelope 7 .taper)) ∧
    (Holds (holding fullCharge) 47 fullCharge ∧ fullCharge.state = .live ∧
      ¬∃ n c, fullCharge.state = .suspended ∧ fullCharge.reason = some (.envelope n c)) ∧
    (charge.limits = some ⟨100, 100, none⟩ ∧ (⟨100, 100, none⟩ : Limits).rise = none) :=
  ⟨⟨holding_holds _, by decide, rfl⟩, ⟨holding_holds _, rfl, rfl⟩, ⟨holding_holds _, rfl, rfl⟩,
    ⟨holding_holds _, rfl, rfl, rfl⟩, ⟨holding_holds _, rfl, fun ⟨_, _, h, _⟩ => by nomatch h⟩, rfl, rfl⟩

/-- A rise to the whole target: 1 A of request and of envelope, SUSPENDED until the hold ends. -/
def risingToTarget : State :=
  (State.reset.setString 0 { StringRec.atReset with chargeEnvelope := 1 }).setPermit 47
    { risingCharge with state := .live, reason := none, limits := some ⟨1, 0, some ⟨1, 0⟩⟩ }

theorem witness_PermitTimersActOnRecords_target :
    risingToTarget.targetOf { charge with limits := some ⟨1, 1, none⟩ } = 1 ∧ charge.state = .live := by decide +kernel

/-- The reset state with one record and envelopes of an amount. -/
def enveloped (p : Permit) (amps : Nat) : State :=
  { holding p with strings := Vector.replicate 8 { StringRec.atReset with chargeEnvelope := amps } }

/-- The target of a recomputation under an envelope. -/
def targetUnder (p : Permit) (amps : Nat) : Nat := min p.requested ((enveloped p amps).envelopeSum p.kind p.scope)

/-- The record of slot 47 is held under any envelope. -/
theorem enveloped_holds (p : Permit) (amps : Nat) : Holds (enveloped p amps) 47 p := by
  simp [Holds, enveloped, holding, State.setPermit, State.setSlot, put]

theorem witness_TargetFallsAtOnceAndRisesByHold :
    (Holds (enveloped charge 0) 47 charge ∧ charge.limits = some ⟨100, 100, none⟩ ∧ charge.state = .live ∧
      targetUnder charge 0 < 100 ∧ targetUnder charge 0 = 0 ∧ (0 < targetUnder charge 99 ∧ targetUnder charge 99 < 100) ∧
      100 = targetUnder charge 100) ∧
    (Holds (enveloped suspendedCharge 1) 47 suspendedCharge ∧ suspendedCharge.limits = some ⟨8000, 0, none⟩ ∧
      0 < targetUnder suspendedCharge 1 ∧ suspendedCharge.reason = some (.envelope 7 .taper)) ∧
    (Holds (enveloped risingCharge 2) 47 risingCharge ∧ risingCharge.limits = some ⟨8000, 0, some ⟨1, 0⟩⟩ ∧
      1 < targetUnder risingCharge 2 ∧ targetUnder risingCharge 1 = 1) ∧
    (let p : Permit := { risingCharge with limits := some ⟨8000, 0, some ⟨2, 0⟩⟩ }
     Holds (enveloped p 1) 47 p ∧ 0 < targetUnder p 1 ∧ targetUnder p 1 < 2) ∧
    (Holds (enveloped revokedCharge 1) 47 revokedCharge ∧ revokedCharge.limits = some ⟨8000, 0, none⟩ ∧
      revokedCharge.state = .revoked) ∧ (0x80 : BitVec 8) ≠ 0 ∧ Source.amend ≠ .other := by
  refine ⟨⟨enveloped_holds _ _, rfl, rfl, ?_⟩, ⟨enveloped_holds _ _, rfl, ?_⟩, ⟨enveloped_holds _ _, rfl, ?_⟩,
    ⟨enveloped_holds _ _, ?_⟩, ⟨enveloped_holds _ _, rfl, rfl⟩, by decide, by decide⟩ <;> decide +kernel

theorem witness_KeyAndDoorLines :
    State.reset.crewKey = false ∧
    ((operating entry).crewKey = true ∧ Holds (operating entry) 47 entry ∧ entry.kind = .entry ∧
      entry.state = .live) ∧
    (false ≠ State.reset.door.level ∧ true = State.reset.door.level) ∧
    State.reset.door.candidate = some ⟨true, 0⟩ ∧
    ({ State.reset with door := ⟨true, none⟩ } : State).door.candidate = none :=
  ⟨rfl, ⟨rfl, operating_holds _, rfl, rfl⟩, ⟨by decide, by decide⟩, rfl, rfl⟩

theorem witness_BusStateEvents :
    (withBus (busIn (.selftest 5) none)).buses[(7 : Fin 8)].state = .selftest 5 ∧
    (patternPasses 0x55 (some (busChar 0x55)) = true ∧ patternPasses 0xAA (some (busChar 0xAA)) = true) ∧
    ¬(patternPasses 0x55 (some (busChar 0x55)) = true ∧ patternPasses 0xAA none = true) ∧
    State.reset.unit.startUp.phase = .running (Config.sec 20) ∧
    (withBus (busIn (.waking (some 3) 5) none)).buses[(7 : Fin 8)].state = .waking (some 3) 5 ∧
    (withBus (busIn (.waking none 5) none)).buses[(7 : Fin 8)].state = .waking none 5 ∧
    (withBus (busIn (.stuck .high 5) none)).buses[(7 : Fin 8)].state = .stuck .high 5 :=
  ⟨rfl, by decide, by decide, rfl, rfl, rfl, rfl⟩

/-- A frame in progress. -/
def frame (kind : FrameKind) (address : Nat) (gap : Option Nat) : Frame := ⟨kind, address, 0, gap, none⟩

/-- Bus 7 in POLLING with a frame in progress. -/
def pollingFrame (kind : FrameKind) (address : Nat) (gap : Option Nat) : State :=
  withBus (busIn .polling (some (frame kind address gap)))

/-- Bus 7 in ROLLCALL with a PROBE in progress. -/
def probing (address : Nat) (gap : Option Nat) : State := withBus (busIn .rollcall (some (frame .probe address gap)))

theorem witness_BusStateEvents_stuck :
    ((probing 24 none).buses[(7 : Fin 8)].frame = some (frame .probe 24 none) ∧
      (probing 24 none).buses[(7 : Fin 8)].state = .rollcall ∧
      (probing 24 none).unit.startUp.phase = .running (Config.sec 20)) ∧
    ((pollingFrame .target 0 none).buses[(7 : Fin 8)].frame = some (frame .target 0 none) ∧
      (pollingFrame .target 0 none).buses[(7 : Fin 8)].state = .polling) ∧
    (ready .operating).unit.startUp.phase = .ended .complete ∧
    (15 ≤ (⟨.low, 15, false⟩ : LineWatch).bitTimes ∧ (⟨.low, 15, false⟩ : LineWatch).level = .low) ∧
    (⟨.high, 15, true⟩ : LineWatch).fromGapStart = true ∧ (⟨.low, 14, true⟩ : LineWatch).bitTimes < 15 :=
  ⟨⟨rfl, rfl, rfl⟩, ⟨rfl, rfl⟩, rfl, by decide, rfl, by decide⟩

theorem witness_EchoErrorAbandonsFrame :
    ((pollingFrame .summary 24 none).buses[(7 : Fin 8)].frame = some (frame .summary 24 none) ∧
      (frameBits .summary 24 ⟨0, false⟩)[0]? = some true ∧ (frameBits .summary 24 ⟨0, false⟩)[20]? = some true ∧
      majority (same false) ≠ true ∧ majority (same true) = true) ∧
    (frameBits .target 0 ⟨65535, true⟩)[50]? = some true ∧
    ((probing 23 (some 9)).buses[(7 : Fin 8)].frame = some (frame .probe 23 (some 9)) ∧
      (frame .probe 23 (some 9)).gapEnd.isSome = true ∧ (probing 23 (some 9)).buses[(7 : Fin 8)].state = .rollcall ∧
      (frame .probe 23 (some 9)).address < 24) ∧
    ((pollingFrame .probe 24 (some 9)).buses[(7 : Fin 8)].state = .polling ∧
      (pollingFrame .summary 1 (some 9)).buses[(7 : Fin 8)].state = .polling ∧
      (frame .target 0 (some 9)).kind = .target) :=
  ⟨⟨rfl, by decide, by decide, by decide, by decide⟩, by decide, ⟨rfl, rfl, rfl, by decide⟩, rfl, rfl, rfl⟩

/-- The characters of a good SUMMARY answer of module 5 and of a good PROBE answer of module 23: 12 cells, no fault. -/
def goodSummary5 : List BusChar :=
  (List.replicate 12 (0 : Byte) ++ [checkChar (selector .summary 5 :: List.replicate 12 0)]).map busChar

/-- See `goodSummary5`. -/
def goodProbe23 : List BusChar := [12, 0, checkChar [selector .probe 23, 12, 0]].map busChar

/-- What the judgement of an exchange rests on. -/
def judged (kind : FrameKind) (address : Nat) (chars : List BusChar) : Option FailKind × Option Summary × Option Probe :=
  let answer := (chars.filterMap busReceive).take (if kind = .summary then 13 else 3)
  let data := (answer.map (·.value)).dropLast
  (judgeAnswer kind address answer, decodeSummary data, decodeProbe data)

/-- Answers that are incomplete: a character missing, and one with a framing error. -/
theorem witness_ExchangeEndsByJudgement_incomplete :
    let late := goodProbe23.take 2
    let cut := goodProbe23.set 1 { busChar 0 with stop := same false }
    ((late.filterMap busReceive).take 3).length ≠ 3 ∧
    ¬(∀ x ∈ (cut.filterMap busReceive).take 3, x.framing = false) ∧
    (((goodProbe23.filterMap busReceive).take 3).length = 3 ∧
      ∀ x ∈ (goodProbe23.filterMap busReceive).take 3, x.framing = false) ∧
    (((goodSummary5.filterMap busReceive).take 13).length = 13 ∧
      ∀ x ∈ (goodSummary5.filterMap busReceive).take 13, x.framing = false) := by decide

theorem witness_ExchangeEndsByJudgement :
    ((pollingFrame .summary 5 none).buses[(7 : Fin 8)].frame = some (frame .summary 5 none) ∧
      (frame .summary 5 none).gapEnd = none ∧ (pollingFrame .summary 5 none).buses[(7 : Fin 8)].state = .polling) ∧
    ((judged .summary 5 goodSummary5).1 = none ∧ (judged .summary 5 goodSummary5).2.1.isSome = true) ∧
    (judged .summary 5 []).1 = some .short ∧
    ((probing 23 none).buses[(7 : Fin 8)].frame = some (frame .probe 23 none) ∧
      (probing 23 none).buses[(7 : Fin 8)].state = .rollcall ∧ (frame .probe 23 none).address < 24) ∧
    ((judged .probe 23 goodProbe23).1 = none ∧ (judged .probe 23 goodProbe23).2.2 = some ⟨12, 0⟩) ∧
    ((judged .probe 23 []).1 = some .short ∧ (pollingFrame .probe 23 none).buses[(7 : Fin 8)].state = .polling) :=
  ⟨⟨rfl, rfl, rfl⟩, by decide, by decide, ⟨rfl, rfl, by decide⟩, by decide, by decide, rfl⟩

/-- Bus 7 waiting for a SUMMARY of module 5, ONLINE, in a fitted string that expects module 5 alone. -/
def gasState (changed : Bool) : State :=
  let s := withBus
    { busIn .polling (some (frame .summary 5 none)) with
      roster := [⟨5, true, .silent, 3, none, none⟩], maskChanged := changed }
  { s with unit := { s.unit with active :=
    { Profile.default with fitted := 128, expected := put Profile.default.expected 7 0x10 } } }

/-- A good SUMMARY that makes the string complete brings its level, and one of a string whose mask a commit changed does not. -/
theorem witness_ExchangeEndsByJudgement_gas :
    ((gasState false).buses[(7 : Fin 8)].frame = some (frame .summary 5 none) ∧
      (gasState false).buses[(7 : Fin 8)].switchPending = false ∧ (judged .summary 5 goodSummary5).1 = none) ∧
    after (exec (.summaryAnswer 7 goodSummary5) (gasState false))
      (fun t => t.fire[(3 : Fin 4)].gasList == [⟨7, 5, 0⟩]) = true ∧
    after (exec (.summaryAnswer 7 goodSummary5) (gasState true)) (fun t => t.fire[(3 : Fin 4)].gasList == []) = true := by
  decide +kernel

/-- The selector of a SUMMARY to module 5 and of a PROBE to module 24, and answers and frames of every judgement. -/
theorem witness_AnswersAndFramesJudgedInOrder :
    (((0x25 : Byte).extractLsb' 0 5).toNat = 5 ∧ ((0x25 : Byte).extractLsb' 5 2).toNat = 1 ∧
      (List.range 8).countP (fun n => (0x25 : Byte).getLsbD n) % 2 = 1) ∧
    (((0x58 : Byte).extractLsb' 0 5).toNat = 24 ∧ ((0x58 : Byte).extractLsb' 5 2).toNat = 2 ∧
      (List.range 8).countP (fun n => (0x58 : Byte).getLsbD n) % 2 = 1) ∧
    ((answer5 1).length = 13 ∧ (answer5 1).countP (·.noise) = 1 ∧ 2 ≤ (answer5 2).countP (·.noise) ∧
      ((answer5 0).take 11).length < 13 ∧ ¬∃ c ∈ answer5 1, c.framing = true) ∧
    ((0x25 : Byte).toNat + ((answer5 1).map (·.value.toNat)).sum) % 256 = 255 ∧
    ((nine 4 1).countP (·.noise) = 1 ∧ ((nine 4 1).map (·.value.toNat)).sum % 256 = 255 ∧
      (nine 4 1).map (·.value) = [4, 47, 3, 0, 0, 0, 0, 9, 0xC0]) := by decide

/-- A summary with a minimum and a maximum cell. -/
def cells (min max : Nat) : Summary := ⟨min, 1, max, 16, 5200, 25, 20, 0, 0, 0⟩

/-- Two entries ONLINE, with equal minimum cells: the lower address counts. -/
def twoOnline : List Entry :=
  [⟨1, true, .online, 0, some (cells 3600 3700), none⟩, ⟨24, true, .online, 0, some (cells 3600 3701), none⟩]

theorem witness_AggregationSetsMeasuredFields :
    let s := withBus { busIn .polling none with roster := twoOnline }
    let counted := s.buses[(7 : Fin 8)].roster.filter (fun e => e.state == .online)
    s.buses[(7 : Fin 8)].state = .polling ∧ (s.buses[(7 : Fin 8)].roster.map (·.address)).Pairwise (· < ·) ∧
    counted.map (·.address) = [1, 24] ∧ ((counted.filterMap (·.summary)).map (·.voltage)).sum < 655360 ∧
    State.reset.buses[(7 : Fin 8)].roster = [] ∧ bandOf s.unit.active 20 25 = 3 := by decide +kernel

/-- Both entries give the same minimum cell, and the one of address 1 stands. -/
theorem test_aggregation_takes_lowest_address :
    let t := (withBus { busIn .polling none with roster := twoOnline }).aggregate 7
    t.strings[(7 : Fin 8)].minPlace = some ⟨1, 1⟩ ∧ t.strings[(7 : Fin 8)].maxPlace = some ⟨24, 16⟩ ∧
    t.strings[(7 : Fin 8)].voltage = 1040 ∧ t.strings[(7 : Fin 8)].onlineCount = 2 := by decide +kernel

/-- A roster of one entry. -/
def oneEntry (st : ModuleState) : List Entry := [⟨24, true, st, 0, none, none⟩]

/-- Bus 7 in POLLING, waiting for its next round, with a roster of one entry and a round index. -/
def waiting (st : ModuleState) (index : Nat) : State :=
  withBus { busIn .polling none with roster := oneEntry st, round := ⟨index, none, some 0, none⟩ }

theorem witness_RoundStartsAndEnds :
    ((waiting .online 0).buses[(7 : Fin 8)].state = .polling ∧
      (waiting .online 0).buses[(7 : Fin 8)].round.nextStart.isSome = true ∧
      ((waiting .online 0).buses[(7 : Fin 8)].roster.map (·.address)).Pairwise (· < ·) ∧
      (⟨24, true, .online, 0, none, none⟩ : Entry) ∈ (waiting .online 0).buses[(7 : Fin 8)].roster) ∧
    ((waiting .missing 9).buses[(7 : Fin 8)].round.index + 1 = 10 ∧
      10 ≤ (waiting .online 10).buses[(7 : Fin 8)].round.index) ∧
    ((pollingFrame .target 0 none).buses[(7 : Fin 8)].frame = some (frame .target 0 none) ∧
      (frame .target 0 none).kind = .target ∧ (frame .target 0 none).gapEnd = none ∧
      (pollingFrame .target 0 none).buses[(7 : Fin 8)].switchPending = false) ∧
    ({ busIn .polling (some (frame .target 0 none)) with round := ⟨1, some 0, none, none⟩ } : Bus).round.start = some 0 ∧
    ({ busIn .polling (some (frame .target 0 none)) with switchPending := true } : Bus).switchPending = true :=
  ⟨⟨rfl, rfl, List.pairwise_singleton .., List.mem_singleton.2 rfl⟩, ⟨rfl, by decide⟩, ⟨rfl, rfl, rfl, rfl⟩, rfl, rfl⟩

/-- Bus 7 in a round, its one entry visited. -/
def inRound (index : Nat) (st : ModuleState) : State :=
  withBus { busIn .polling (some (frame .summary 24 none)) with
    roster := oneEntry st, round := ⟨index, some 0, none, some 24⟩, lastTarget := some ⟨0, false⟩ }

theorem witness_RoundsAndRollCallsComplete :
    (∀ e ∈ (inRound 1 .online).buses[(7 : Fin 8)].roster, 24 < e.address →
      e.state = .missing ∧ (inRound 1 .online).buses[(7 : Fin 8)].round.index ≠ 10) ∧
    (∀ e ∈ (inRound 9 .missing).buses[(7 : Fin 8)].roster, 0 < e.address →
      e.state = .missing ∧ (inRound 9 .missing).buses[(7 : Fin 8)].round.index ≠ 10) ∧
    (inRound 10 .online).buses[(7 : Fin 8)].round.index = 10 ∧
    ((inRound 1 .online).unit.startUp.phase = .running (Config.sec 20) ∧
      (inRound 1 .online).buses[(7 : Fin 8)].round.start = some 0) ∧
    ((inRound 1 .online).buses[(7 : Fin 8)].state = .polling ∧
      (inRound 1 .online).buses[(7 : Fin 8)].frame = some (frame .summary 24 none) ∧
      (inRound 1 .online).buses[(7 : Fin 8)].switchPending = false ∧
      judgeAnswer .summary 24 (([] : List BusChar).filterMap busReceive |>.take 13) = some .short) := by decide +kernel

/-- The PROBE to address 24 fails and is answered, and the roster that follows has an entry. -/
theorem witness_RoundsAndRollCallsComplete_call :
    ((probing 24 none).buses[(7 : Fin 8)].state = .rollcall ∧
      (probing 24 none).buses[(7 : Fin 8)].frame = some (frame .probe 24 none)) ∧
    (judgeAnswer .probe 24 []).isNone = false ∧
    (let answer := ([12, 0, checkChar [selector .probe 24, 12, 0]].map busChar).filterMap busReceive
     (judgeAnswer .probe 24 answer).isNone = true ∧
        decodeProbe (answer.map (·.value)).dropLast = some ⟨12, 0⟩) ∧
    after (exec (.responseWindowEnd 7 ([12, 0, checkChar [selector .probe 24, 12, 0]].map busChar)) (probing 24 none))
      (fun t => t.buses[(7 : Fin 8)].roster == [⟨24, false, .extra, 0, none, some ⟨12, 0⟩⟩] && t.flagged .bus &&
        t.buses[(7 : Fin 8)].frame == some ⟨.summary, 24, 0, none, none⟩) = true := by decide +kernel

theorem witness_FireLinesAndPulse :
    (⟨true, false⟩ ≠ State.reset.fire[(3 : Fin 4)].smokeA.level ∧
      ⟨true, false⟩ ≠ State.reset.fire[(3 : Fin 4)].smokeB.level) ∧
    (State.reset.fire[(3 : Fin 4)].smokeA.candidate = some ⟨⟨false, false⟩, 0⟩ ∧
      State.reset.fire[(3 : Fin 4)].smokeB.candidate = some ⟨⟨false, false⟩, 0⟩) ∧
    (true ≠ State.reset.fire[(3 : Fin 4)].hold.level ∧ State.reset.fire[(3 : Fin 4)].hold.candidate = some ⟨false, 0⟩) ∧
    (bayIn (.released (some 9))).fire[(3 : Fin 4)].state = .released (some 9) :=
  ⟨by decide, by decide, by decide, rfl⟩

/-- String 7 fitted with module 24 expected and ONLINE, and the smoke lines of bay 3 as taken. -/
def bayWith (st : FireState) (a b : SmokeCondition) (gas : Nat) (changed : Bool) : State :=
  let s : State := withBus
    { busIn .polling none with roster := [⟨24, true, .online, 0, none, none⟩], maskChanged := changed }
  { s with
    loaded := true
    unit := { s.unit with active :=
      { Profile.default with fitted := 128, manualBays := 0, expected := put Profile.default.expected 7 0x800000 } }
    fire := put s.fire 3 { s.fire[3] with
      state := st, smokeA := { s.fire[3].smokeA with condition := a }, smokeB := { s.fire[3].smokeB with condition := b }
      gasList := [⟨7, 24, gas⟩] } }

/-- What the settling of an event makes of bay 3: GAS and HEAT, active and available counts, and the state. -/
def settledBay (s : State) : SourceCondition × SourceCondition × Nat × Nat × Nat :=
  let x := s.settle.fire[(3 : Fin 4)]
  (x.gas, x.heat, x.activeCount, x.availableCount, x.state.code)

/-- Every row of R108, R109 and R111 is reached, and every condition of GAS. -/
theorem witness_BayEvaluationDecidesState :
    settledBay (bayWith .quiet .normal .normal 0 false) = (.clear, .clear, 0, 4, 0) ∧
    settledBay (bayWith .quiet .active .normal 0 false) = (.clear, .clear, 1, 4, 1) ∧
    settledBay (bayWith .preAlarm .active .normal 255 false) = (.active, .clear, 2, 4, 3) ∧
    settledBay (bayWith .quiet .active .fault 255 true) = (.unavailable, .unavailable, 1, 1, 3) ∧
    settledBay (bayWith .alarm .normal .normal 0 false) = (.clear, .clear, 0, 4, 3) ∧
    settledBay (bayWith (.countdown 9) .normal .normal 0 false) = (.clear, .clear, 0, 4, 3) ∧
    settledBay (bayWith (.released none) .normal .normal 0 false) = (.clear, .clear, 0, 4, 4) := by
  refine ⟨?_, ?_, ?_, ?_, ?_, ?_, ?_⟩ <;> decide +kernel

/-- The same bay with the hold button taken: attended, and the alarm is no countdown. -/
theorem witness_BayEvaluationDecidesState_attended :
    let s := bayWith .quiet .active .active 0 false
    let t := s.setFire 3 { s.fire[(3 : Fin 4)] with hold := ⟨true, none⟩ }
    settledBay t = (.clear, .clear, 2, 4, 2) ∧
    t.settle.fire[(3 : Fin 4)].manual = ⟨false, true, false⟩ := by decide +kernel

/-- Bay 3 about to enter the alarm class, with a record in slot 47, string 7 in a contactor state and the breaker in one. -/
def alarming (p : Permit) (st : ContactorState) (b : BreakerState) : State :=
  let s := bayWith .preAlarm .active .active 0 false
  { (s.setContactor 7 { Contactor.atReset true with fitted := true, state := st, mainClosed := true }).setPermit 47 p with
    breaker := { s.breaker with state := b, feedback := true } }

/-- What the entry leaves: the record's state and reason, the contactor's and the breaker's state. -/
def entered (s : State) : Option (PermitState × Option Reason) × ContactorState × BreakerState :=
  let t := s.settle
  (t.slots[(47 : Fin 48)].permit.map fun p => (p.state, p.reason), t.contactors[(7 : Fin 8)].state, t.breaker.state)

/-- Every kind of record, contactor state and breaker state that an entry finds. -/
theorem witness_AlarmEntryRevokesTripsAndOpens :
    (let s := alarming { charge with scope := 0x80 } .closed .closed
     (s.fire[(3 : Fin 4)].state = .preAlarm ∧ s.settle.fire[(3 : Fin 4)].state.code = 3) ∧
        entered s = (some (.revoked, some .fire), .opened, .opening .trip (s.now + Config.ms 300))) ∧
    entered (alarming connect (.draining 9) .opened) = (some (.revoked, some .fire), .opened, .tripped) ∧
    entered (alarming { convCharge with scope := 0xC0, state := .suspended } (.precharging 9) (.opening .normal 5)) =
      (some (.revoked, some .fire), .opened, .opening .trip 5) ∧
    entered (alarming { charge with scope := 1 } (.failed .feedback) (.failed .close)) =
      (some (.suspended, some (.envelope 0 .none)), .failed .feedback, .failed .close) ∧
    entered (alarming { entry with state := .pending } .queued .tripped) = (some (.pending, none), .opened, .tripped) := by
  refine ⟨⟨⟨?_, ?_⟩, ?_⟩, ?_, ?_, ?_, ?_⟩ <;> decide +kernel

/-- The cooling record of bay 3 after the settling of an event that finds a stage running and string 7 in a band. -/
def settledCooling (running : Nat) (band : Fin 8) (changed : Bool) : CoolRec :=
  let s := bayWith .quiet .normal .normal 0 changed
  ((s.setString 7 { s.strings[(7 : Fin 8)] with band := band }).setCooling 3
    { s.cooling[(3 : Fin 4)] with running := running }).settle.cooling[(3 : Fin 4)]

/-- Demand above, at and below the running stage, by band and by completeness, with and without the heater. -/
theorem witness_CoolingFollowsDemandAndTimers :
    ((settledCooling 0 5 false).demand, (settledCooling 0 5 false).running) = (2, 2) ∧
    ((settledCooling 3 6 false).demand, (settledCooling 3 6 false).runOnEnd) = (3, none) ∧
    ((settledCooling 3 3 false).demand, (settledCooling 3 3 false).running) = (0, 3) ∧
    (settledCooling 3 3 false).runOnEnd = some (Config.sec Profile.default.runOn) ∧
    ((settledCooling 0 3 true).demand, (settledCooling 0 3 true).running) = (1, 1) ∧
    ((settledCooling 0 1 false).heaterDemand, (settledCooling 0 1 false).outputs.heater) = (true, true) ∧
    (State.reset.settle.cooling[(3 : Fin 4)]).demand = 0 := by decide +kernel

/-- The reset state with the cooling record of bay 3 replaced. -/
def withCooling (r : CoolRec) : State := State.reset.setCooling 3 r

theorem witness_CoolingFollowsDemandAndTimers_timers :
    ((withCooling { CoolRec.atReset false with running := 3, runOnEnd := some 9 }).cooling[(3 : Fin 4)]).runOnEnd.isSome
      = true ∧
    (true ≠ State.reset.cooling[(3 : Fin 4)].flow ∧
      (outputsOf State.reset.cooling[(3 : Fin 4)].running false .none).pump = false) ∧
    ((outputsOf 2 false .none).pump = true ∧ true ≠ (CoolRec.atReset false).flow ∧
      false = (CoolRec.atReset true).flowFault ∧ (CoolRec.atReset true).flowTimer = none) ∧
    ((withCooling { CoolRec.atReset false with flowTimer := some ⟨.fault, 9⟩ }).cooling[(3 : Fin 4)]).flowTimer =
      some ⟨.fault, 9⟩ ∧
    (((CoolRec.atReset true).flow = true ↔ FlowGoal.clear = .clear) ∧
      ((CoolRec.atReset false).flow = true ↔ FlowGoal.fault = .clear)) :=
  ⟨rfl, by decide, by decide, rfl, by decide⟩

theorem witness_ContactorTimersAndFeedback :
    (contactorIn (.precharging 9)).contactors[(7 : Fin 8)].state = .precharging 9 ∧
    ((contactorIn (.precharging 9)).contactors[(7 : Fin 8)].failures < 2 ∧
      2 ≤ ({ Contactor.atReset false with failures := 2 } : Contactor).failures) ∧
    ((State.reset.setContactor 7 { Contactor.atReset false with retryEnd := some 9 }).contactors[(7 : Fin 8)]).retryEnd.isSome
      = true ∧
    (contactorIn (.draining 9)).contactors[(7 : Fin 8)].state = .draining 9 ∧
    true ≠ State.reset.contactors[(7 : Fin 8)].feedback ∧
    ((State.reset.setContactor 7 { Contactor.atReset true with feedbackTimer := some 9 }).contactors[(7 : Fin 8)]).feedbackTimer.isSome
      = true ∧
    (∀ r, (contactorIn .opened).contactors[(7 : Fin 8)].state ≠ .failed r) :=
  ⟨rfl, by decide, rfl, rfl, by decide, rfl, fun r h => by nomatch r, h⟩

/-- Strings 6 and 7 fitted, in a mode and with a link that let them be service-ready, string 7 in a state of its contactor
and in a band. -/
def readiness (st : ContactorState) (voltage6 voltage7 : Nat) (band7 : Fin 8) : State :=
  let r : StringRec := { StringRec.atReset with fitted := true, onlineCount := 1 }
  let s1 := (State.reset.setString 7 { r with voltage := voltage7, band := band7 }).setString 6 { r with voltage := voltage6 }
  let online : Bus := { busIn .polling none with roster := [⟨24, true, .online, 0, none, none⟩] }
  let s2 := (s1.setBus 7 online).setBus 6 online
  { (s2.setContactor 6 { Contactor.atReset false with fitted := true }).setContactor 7
      { Contactor.atReset false with fitted := true, state := st } with
    unit := (ready .operating).unit, link := { Link.atReset with state := .up 9, dc := some ⟨1530, 0, 0⟩ } }

/-- What the Connection Sequencer's stage makes of strings 6 and 7, and of the path. -/
def connected67 (s : State) : ContactorState × ContactorState × Option (Fin 8) :=
  let t := s.connectStage
  (t.contactors[(6 : Fin 8)].state, t.contactors[(7 : Fin 8)].state, t.serving)

/-- A string that waits is precharged, one behind it is queued, one that matches closes; a closed string drains when its
readiness is lost and a draining one closes again. -/
theorem witness_ServiceReadinessMovesContactors :
    connected67 (readiness .opened 1000 1558 3) = (.precharging (Config.sec 10), .queued, some 6) ∧
    connected67 (readiness .opened 1558 1558 3) = (.closed, .closed, none) ∧
    connected67 { readiness (.precharging 9) 1000 1558 3 with serving := some 7 } = (.queued, .precharging 9, some 7) ∧
    connected67 (readiness .closed 1000 1558 7) =
      (.precharging (Config.sec 10), .draining (Config.sec (ready .operating).unit.active.drainTime), some 6) ∧
    connected67 (readiness (.draining 5) 1000 1558 3) = (.precharging (Config.sec 10), .closed, some 6) ∧
    connected67 (readiness (.precharging 9) 1000 1558 0) =
      (.precharging (Config.sec 10), .opened, some 6) ∧
    connected67 (readiness (.failed .precharge) 1000 1558 3) = (.precharging (Config.sec 10), .failed .precharge, some 6) := by
  decide +kernel

/-- The match of the string being served, and one that does not match. -/
theorem witness_ServiceReadinessMovesContactors_match :
    ({ readiness (.precharging 9) 1000 1558 3 with serving := some 7 } : State).matches 7 = true ∧
    ({ readiness (.precharging 9) 1558 1000 3 with serving := some 7 } : State).matches 7 = false := by decide +kernel

theorem witness_BreakerAndGridLines :
    true ≠ State.reset.breaker.feedback ∧ (breakerIn (.closing 9)).breaker.state = .closing 9 ∧
    ((breakerIn (.opening .trip 9)).breaker.state = .opening .trip 9 ∧
      false ≠ ({ State.reset.breaker with feedback := true } : Breaker).feedback) ∧
    (breakerIn .opened).breaker.state = .opened ∧ (breakerIn .tripped).breaker.state = .tripped ∧
    ({ State.reset.breaker with feedbackTimer := some 9 } : Breaker).feedbackTimer.isSome = true ∧
    (∀ r, (breakerIn .closed).breaker.state ≠ .failed r) :=
  ⟨by decide, rfl, ⟨rfl, by decide⟩, rfl, rfl, rfl, fun r h => by nomatch r, h⟩

/-- A state with a record and a conditioned grid line. -/
def gridState (p : Permit) (g : Conditioned Bool) (reconnect : Option Nat) : State :=
  { holding p with breaker := { State.reset.breaker with grid := g, reconnectEnd := reconnect } }

theorem witness_BreakerAndGridLines_grid :
    true ≠ State.reset.breaker.grid.level ∧
    ((gridState connect ⟨false, some ⟨true, 0⟩⟩ none).breaker.grid.candidate = some ⟨true, 0⟩ ∧
      (gridState connect ⟨false, some ⟨true, 0⟩⟩ none).breaker.grid.taken = false) ∧
    ((gridState connect ⟨true, some ⟨false, 0⟩⟩ none).breaker.grid.candidate = some ⟨false, 0⟩ ∧
      (gridState connect ⟨true, some ⟨false, 0⟩⟩ none).breaker.grid.taken = true ∧
      Holds (gridState connect ⟨true, some ⟨false, 0⟩⟩ none) 47 connect ∧ connect.kind = .connect ∧
      connect.state = .live) ∧
    (⟨true, 0⟩ : Candidate Bool).level = (gridState connect ⟨true, some ⟨true, 0⟩⟩ none).breaker.grid.taken ∧
    ((gridState gridConnect ⟨true, none⟩ (some 9)).breaker.reconnectEnd.isSome = true ∧
      Holds (gridState gridConnect ⟨true, none⟩ (some 9)) 47 gridConnect ∧ gridConnect.kind = .connect ∧
      gridConnect.state = .suspended ∧ gridConnect.reason = some .grid ∧ gridConnect.autoReclose = true ∧
      (gridState gridConnect ⟨true, none⟩ (some 9)).breaker.state = .opened ∧
      (∀ j q, Holds (gridState gridConnect ⟨true, none⟩ (some 9)) j q → j = 47)) ∧
    (∀ i p, Holds State.reset i p → ¬(p.kind = .connect ∧ p.state = .suspended ∧ p.reason = some .grid)) :=
  ⟨by decide, ⟨rfl, rfl⟩, ⟨rfl, rfl, holding_holds _, rfl, rfl⟩, rfl,
    ⟨rfl, holding_holds _, rfl, rfl, rfl, rfl, rfl, fun _ _ h => (holding_only (p := gridConnect) h).1⟩,
    fun _ _ h => absurd h none_held⟩

/-- A state with one record and the link receiving, with replies waiting. -/
def linked (p : Permit) (queue : List OutFrame) : State := { holding p with link := { openLink with queue := queue } }

/-- A reply. -/
def reply : OutFrame := ⟨.state, ⟨47, 0⟩, 8191, 4, 12, 255⟩

theorem witness_FramesActOnPermitsByHandle :
    ((linked charge [reply, reply, reply]).link.rate.isSome = true ∧
      (linked charge [reply, reply, reply]).link.queue.length < 4 ∧
      Stale (linked charge [reply, reply, reply]) ((1 : Byte) ++ (47 : Byte)) ∧
      Names (linked charge [reply, reply, reply]) ((0 : Byte) ++ (47 : Byte)) 47 charge ∧ charge.holder ≠ .converter) ∧
    (Names (linked convCharge []) ((0 : Byte) ++ (47 : Byte)) 47 convCharge ∧ convCharge.holder = .converter ∧
      convCharge.state = .live ∧ convCharge.limits = some ⟨100, 100, none⟩ ∧
      convCharge.requested < (101 : Word).toNat ∧ 0 < (100 : Word).toNat ∧ (100 : Word).toNat ≤ convCharge.requested) ∧
    (Names (linked { revokedCharge with holder := .converter } []) ((0 : Byte) ++ (47 : Byte)) 47
      { revokedCharge with holder := .converter } ∧ revokedCharge.state = .revoked) :=
  ⟨⟨rfl, by decide, stale_generation _, names_last _, by decide⟩,
    ⟨names_last _, rfl, rfl, rfl, by decide, by decide, by decide⟩, names_last _, rfl⟩

/-- REDUCE with the envelope below and at the present limit. -/
theorem witness_FramesActOnPermitsByHandle_reduce :
    min (99 : Word).toNat ((linked convCharge []).envelopeSum .charge 1) < 100 ∧
    100 ≤ min (100 : Word).toNat
      (({ linked convCharge [] with strings := Vector.replicate 8 { StringRec.atReset with chargeEnvelope := 100 } } :
        State).envelopeSum .charge 1) := by decide +kernel

theorem witness_LinkCharactersAndOverruns_overrun :
    State.reset.link.rate = none ∧
    ((linked charge [reply, reply, reply, reply]).link.rate.isSome = true ∧
      4 ≤ (linked charge [reply, reply, reply, reply]).link.queue.length) := by decide

/-- A link with a buffer of so many characters of a valid QUERY frame. -/
def buffered (n : Nat) : State := withLink { openLink with buffer := (nine 4 0).take n }

theorem witness_LinkCharactersAndOverruns :
    (buffered 0).link.rate.isSome = true ∧
    ((buffered 0).link.buffer = [] ∧ linkReceive (linkChar 4 true) = some ⟨4, true, false, false⟩) ∧
    linkReceive (linkChar 4 false) = some ⟨4, false, false, false⟩ ∧
    ((buffered 7).link.buffer ≠ [] ∧ (buffered 7).link.buffer.length < 8) ∧ 8 ≤ (buffered 8).link.buffer.length ∧
    (∀ m, BadEnd.kind ≠ .broken m) ∧
    (linkReceive (linkChar 4 true) = some ⟨4, true, false, false⟩ ∧ (⟨4, true, false, false⟩ : RxChar).ninth = true ∧
      (⟨4, true, false, false⟩ : RxChar).framing = false) := by
  refine ⟨rfl, ⟨rfl, by decide⟩, by decide, by decide, by decide, (fun m h => by nomatch h), by decide, rfl, rfl⟩

/-- The ninth character that makes a valid frame, and one that makes a bad one. -/
theorem witness_LinkCharactersAndOverruns_ninth :
    judgeFrame ((buffered 8).link.buffer ++ [⟨checkChar [4, 47, 3, 0, 0, 0, 0, 9], false, false, false⟩]) =
      .ok ⟨.query, ⟨47, 3⟩, 0, 0, 9⟩ ∧
    judgeFrame ((buffered 8).link.buffer ++ [⟨0, false, false, false⟩]) = .error .check := ⟨rfl, rfl⟩

/-- The transmitter in its gap, with a link state and waiting replies. -/
def gapping (p : Permit) (st : LinkState) (queue : List OutFrame) : State :=
  { holding p with link := { openLink with state := st, transmitter := .gap 9, queue := queue } }

theorem witness_TransmitterTakesRepliesThenNotices :
    (gapping charge (.up 9) []).link.state = .up 9 ∧
    (withLink { openLink with transmitter := .sending reply .r115200 5 }).link.transmitter = .sending reply .r115200 5 ∧
    ((gapping charge .down [reply]).link.transmitter = .gap 9 ∧ (gapping charge .down [reply]).link.rate = some .r19200 ∧
      (gapping charge .down [reply]).link.queue = reply :: []) ∧
    ((gapping charge .down []).link.queue = [] ∧ (gapping charge .down []).link.state = .down) ∧
    (∀ i p, Holds (gapping charge (.up 9) []) i p → p.notice = false) ∧
    ((gapping convCharge (.up 9) []).link.queue = [] ∧ Holds (gapping convCharge (.up 9) []) 47 convCharge ∧
      convCharge.notice = true ∧ ∀ j q, j < 47 → Holds (gapping convCharge (.up 9) []) j q → q.notice = false) :=
  ⟨rfl, rfl, ⟨rfl, rfl, rfl⟩, ⟨rfl, rfl⟩, holding_all (p := charge) (P := fun _ p => p.notice = false) rfl,
    rfl, holding_holds _, rfl, fun _ _ hj h => absurd (holding_only (p := convCharge) h).1 (by omega)⟩

theorem witness_ReportedReasonByStateAndReason :
    charge.state = .live ∧ (suspendedCharge.state = .suspended ∧ suspendedCharge.reason = some (.envelope 7 .taper) ∧
      Cause.taper ≠ .prealarm ∧ Cause.taper ≠ .door) ∧
    ({ suspendedCharge with reason := some (.envelope 0 .prealarm) } : Permit).reason = some (.envelope 0 .prealarm) ∧
    ({ suspendedCharge with reason := some (.envelope 7 .door) } : Permit).reason = some (.envelope 7 .door) ∧
    (gridConnect.state = .suspended ∧ gridConnect.reason = some .grid) ∧
    (revokedCharge.state = .revoked ∧ revokedCharge.reason = some .station) := by decide

/-- String 7 fitted, CLOSED, with one module expected and ONLINE and the door taken closed. -/
def connected : State :=
  { ((withBus { busIn .polling none with roster := oneEntry .online }).setString 7
      { StringRec.atReset with fitted := true, onlineCount := 1 }).setContactor 7
      { Contactor.atReset true with fitted := true, state := .closed } with
    door := ⟨false, none⟩ }

theorem witness_EnvelopesAreFlooredProducts :
    (connected.strings[(7 : Fin 8)].fitted = true ∧ connected.fire[bayOf 7].state.inAlarm = false ∧
      connected.door.taken = false ∧ connected.contactors[(7 : Fin 8)].state = .closed ∧
      connected.modulesHold 7 = false ∧ connected.fire[bayOf 7].state ≠ .preAlarm) ∧
    (State.reset.strings[(7 : Fin 8)].fitted = false ∧ State.reset.door.taken = true ∧ State.reset.entryLive = false ∧
      State.reset.contactors[(7 : Fin 8)].state ≠ .closed) ∧
    ((bayIn .alarm).fire[bayOf 7].state.inAlarm = true ∧ (bayIn .preAlarm).fire[bayOf 7].state = .preAlarm) := by
  decide +kernel

/-- The same string rated 1 A to discharge alone, in a band, with a minimum cell, and its bay in a fire state. -/
def rated (band : Fin 8) (minCell : Nat) (st : FireState) (flowFault : Bool) : State :=
  let s := connected.setString 7 { connected.strings[(7 : Fin 8)] with band := band, minCell := minCell }
  { (s.setFire 3 { s.fire[(3 : Fin 4)] with state := st }).setCooling 3
      { s.cooling[(3 : Fin 4)] with flowFault := flowFault } with
    unit := { s.unit with active := { Profile.default with ratedDischarge := put Profile.default.ratedDischarge 7 1 } } }

/-- What an evaluation leaves of that string: cause, bleeding and bleed target. -/
def evaluated (s : State) : Cause × Bool × Nat :=
  let r := s.evaluateAll.strings[(7 : Fin 8)]
  (r.cause, r.bleeding, r.bleedTarget)

/-- Every cause is the first in effect somewhere: PREALARM and band 2 restrict the charge alone, which is rated 0 A. -/
theorem witness_EvaluationSetsCauseAndBleedTarget :
    evaluated (rated 2 3600 .quiet false) = (.none, true, 3615) ∧
    evaluated (rated 5 65520 .quiet false) = (.thermal, true, 65535) ∧
    evaluated (rated 2 3200 .quiet false) = (.taper, true, 3215) ∧
    evaluated (rated 3 3600 .quiet true) = (.cooling, true, 3615) ∧
    evaluated (rated 6 3600 .preAlarm false) = (.thermal, false, 0) ∧
    evaluated (rated 3 3600 .alarm false) = (.fire, false, 0) ∧
    evaluated { rated 7 3600 .quiet false with door := ⟨true, none⟩ } = (.door, false, 0) ∧
    evaluated ((rated 3 3600 .quiet true).setContactor 7 (Contactor.atReset true)) = (.outOfService, true, 3615) ∧
    evaluated ((rated 3 3600 .quiet true).setBus 7 Bus.atReset) = (.modules, false, 0) ∧
    evaluated { rated 3 3600 .preAlarm false with unit := { State.reset.unit with active :=
      { Profile.default with ratedCharge := put Profile.default.ratedCharge 7 1 } } } = (.prealarm, false, 0) := by
  refine ⟨?_, ?_, ?_, ?_, ?_, ?_, ?_, ?_, ?_, ?_⟩ <;> decide +kernel

/-! Invariants: states other than the reset state that meet them, each with a step that keeps running. -/

/-- A step answers a next state. -/
def Runs (s : State) : Prop := ∃ t, step s = .next t

theorem witness_StepsKeepBuffersAndLine :
    let s : State := { ready .operating with
      orderMemory := [(1, 0x80), (1023, 0xFF)], attention := ⟨1, 1, true⟩
      runner := ⟨.running 31 ⟨0, 9, 0, 0, 0, 0, 0, 0⟩ false false .handed, 32, false⟩, pending := [.readClock]
      link := { openLink with queue := [reply, reply, reply, reply], buffer := (nine 1 0).take 8 } }
    MemoryCanonical s ∧ LineFollowsFlags s ∧ RunBounded s ∧ LinkBounded s ∧ Runs s := by
  refine ⟨⟨by decide, ?_⟩, by unfold LineFollowsFlags; decide, by unfold RunBounded; decide, ⟨by decide, by decide⟩,
    ⟨_, rfl⟩⟩
  simp

theorem witness_StepsKeepBuffersAndLine_rosters :
    RostersOrdered (waiting .online 0) ∧ Runs (waiting .online 0) := by
  refine ⟨fun b => ?_, ⟨_, rfl⟩⟩
  by_cases h : b = 7
  · subst h
    simp [waiting, withBus, State.setBus, put, oneEntry]
  · have : (7 : Nat) ≠ b.val := fun e => h (Fin.ext e.symm)
    simp [waiting, withBus, State.setBus, put, State.reset, Bus.atReset, this]

theorem witness_StepsKeepPermitAndBreakerLaws_breaker :
    let s : State := { operating connect with
      breaker := { State.reset.breaker with state := .closed, commandedClosed := true }, pending := [.openBreaker] }
    BreakerOutputsFollowState s ∧ LimitsFollowKind s ∧ ClosedUnderLiveConnect s ∧ Runs s := by
  refine ⟨⟨rfl, by simp [State.reset, Breaker.atReset], by simp [State.reset, Breaker.atReset]⟩, ?_,
    fun _ => by decide +kernel, ⟨_, rfl⟩⟩
  exact holding_all (p := connect) (P := fun _ p => p.limits.isSome = p.kind.hasLimit) rfl

theorem witness_StepsKeepPermitAndBreakerLaws :
    OneLimitPermitPerString (holding charge) ∧ OneConnect (holding connect) ∧ Runs (holding charge) :=
  ⟨fun _ _ _ _ _ hp hq _ _ _ _ _ _ => ((holding_only hp).1).trans ((holding_only hq).1).symm,
    fun _ _ _ _ hp hq _ _ _ _ => ((holding_only hp).1).trans ((holding_only hq).1).symm, ⟨_, rfl⟩⟩

/-- A LIVE CHARGE of 1 A of 8000 A requested, under an envelope of 1 A. -/
def drawing : State :=
  { holding { charge with limits := some ⟨8000, 1, none⟩ } with
    strings := Vector.replicate 8 { StringRec.atReset with chargeEnvelope := 1 } }

theorem witness_StepsKeepEffectiveWithinTarget :
    LimitsFollowKind drawing ∧ LimitRecordsSound drawing ∧ EffectiveWithinTarget drawing ∧ ProfilesInRange drawing ∧
    RecordsInRange drawing ∧ Runs drawing := by
  let q : Permit := { charge with limits := some ⟨8000, 1, none⟩ }
  refine ⟨holding_all (p := q) (P := fun _ p => p.limits.isSome = p.kind.hasLimit) rfl, ?_, ?_,
    ⟨⟨by decide, by decide⟩, ⟨by decide, by decide⟩, fun h => by nomatch h⟩, ?_, ⟨_, rfl⟩⟩
  · refine holding_all (p := q) (P := fun _ p => p.kind.hasLimit = true → p.state ≠ .pending ∧
      (p.state = .suspended → ∃ n c, p.reason = some (.envelope n c)) ∧
      (∀ l r, p.limits = some l → l.rise = some r → 0 < r.value)) fun _ => ⟨by decide, (nomatch ·), ?_⟩
    intro l r hl hr
    cases hl
    cases hr
  · exact holding_all (p := q) (P := fun _ p => p.kind.hasLimit = true →
      (0 < p.effective ↔ p.state = .live) ∧ p.effective ≤ p.requested ∧
        p.effective ≤ drawing.envelopeSum p.kind p.scope) fun _ => by decide +kernel
  · refine holding_all (p := q) (P := fun _ p => InRanges drawing p) ⟨by decide, by decide, ?_, ?_, ?_, ?_, ?_⟩ <;>
      intro a b <;> first
      | (cases b; done)
      | (intro hl hr; cases hl; cases hr)

/-- A PRECHARGING string that the path serves. -/
def serving : State :=
  { State.reset.setContactor 7
      { Contactor.atReset false with fitted := true, state := .precharging 9, prechargeClosed := true } with
    serving := some 7 }

theorem witness_StepsKeepContactorLaws :
    ContactorOutputsFollowState serving ∧ PathServesOne serving ∧ UnfittedOpen serving ∧ Runs serving := by
  refine ⟨?_, ?_, ?_, ⟨_, rfl⟩⟩
  · unfold ContactorOutputsFollowState
    decide +kernel
  · unfold PathServesOne
    decide +kernel
  · unfold UnfittedOpen
    decide +kernel

/-- A LIVE ISOLATE of every string. -/
def isolate : Permit := { charge with kind := .isolate, scope := 255, limits := none }

theorem witness_StepsKeepContactorLaws_isolate :
    LimitsFollowKind (holding isolate) ∧ UnfittedOpen (holding isolate) ∧ IsolatedAtRest (holding isolate) ∧
    Runs (holding isolate) := by
  refine ⟨holding_all (p := isolate) (P := fun _ p => p.limits.isSome = p.kind.hasLimit) rfl,
    by unfold UnfittedOpen; decide +kernel, fun _ _ n _ _ _ _ => .inl ?_, ⟨_, rfl⟩⟩
  have h : ∀ n : Fin 8, (holding isolate).contactors[n].state = .opened := by decide +kernel
  exact h n

/-- A PENDING ISOLATE of string 7 in slot 47, with the contactor of string 7 fitted and in a state. -/
def isolating (st : ContactorState) : State :=
  (holding { isolate with state := .pending, scope := 0x80 }).setContactor 7
    { Contactor.atReset false with fitted := true, state := st }

/-- State and changed mark of the record of slot 47. -/
def marked (s : State) : Option (PermitState × Bool) := s.slots[(47 : Fin 48)].permit.map fun p => (p.state, p.changed)

/-- The scope OPEN, in an event and in the grant itself; and withheld by CLOSED and by FAILED. -/
theorem witness_IsolateCompletesWhenScopeIsOpen :
    marked ((isolating .opened).settleWith none) = some (.live, true) ∧
    marked ((isolating .opened).settleWith (some 47)) = some (.live, false) ∧
    marked ((isolating .closed).settleWith none) = some (.pending, false) ∧
    marked ((isolating (.failed .precharge)).settleWith (some 47)) = some (.pending, false) := by
  refine ⟨?_, ?_, ?_, ?_⟩ <;> decide +kernel

/-- Bay 0 in ALARM, its neighbours closed with it, with an ENTRY of the crew in the table. -/
def alarmed : State :=
  { holding entry with
    fire := contain (put State.reset.fire 0 { State.reset.fire[0] with state := .alarm })
    cooling := put State.reset.cooling 0
      { CoolRec.atReset false with containment := .bay, outputs := outputsOf 0 false .bay } }

theorem witness_StepsKeepFireLaws :
    AlarmRevokes alarmed ∧ AlarmOpens alarmed ∧ ContainmentHeld alarmed ∧ CoolingFollows alarmed ∧ Runs alarmed ∧
    alarmed.fire[(0 : Fin 4)].state.inAlarm = true := by
  refine ⟨?_, ?_, ?_, ?_, ⟨_, rfl⟩, by decide +kernel⟩
  · intro k i p _ hp _
    obtain ⟨-, rfl⟩ := holding_only (p := entry) hp
    exact ⟨by decide, fun h => by nomatch h⟩
  · intro i _
    exact .inl (by revert i; decide +kernel)
  · unfold ContainmentHeld
    decide +kernel
  · unfold CoolingFollows
    decide +kernel

theorem witness_StepsKeepFireLaws_release :
    ReleaseOnlyInPulse ((bayIn (.released (some 9))).setFire 3
      { (bayIn (.released (some 9))).fire[(3 : Fin 4)] with releaseOutput := true }) ∧
    CountdownUnattended (bayIn (.countdown 9)) := by
  refine ⟨fun k => ?_, fun k e h => by clear h; clear e; revert k; decide +kernel⟩
  by_cases h : k = 3
  · subst h
    simp [bayIn, State.setFire, put]
  · have : (3 : Nat) ≠ k.val := fun e => h (Fin.ext e.symm)
    simp [bayIn, State.setFire, put, State.reset, FireRec.atReset, this]

theorem witness_StepsKeepDerivedFields :
    EnvelopesZero (holding charge) ∧ ServiceFollowsConditions (holding charge) ∧ LimitsFollowKind (holding charge) ∧
    DoorFollowsEntry (holding charge) ∧ Runs (holding charge) := by
  refine ⟨fun i _ => by revert i; decide +kernel, ?_, holding_all (P := fun _ p => p.limits.isSome = p.kind.hasLimit) rfl,
    by unfold DoorFollowsEntry; decide +kernel, ⟨_, rfl⟩⟩
  unfold ServiceFollowsConditions
  decide +kernel

theorem witness_RecordsChangeByRule :
    (holding revokedCharge).pending.head? ≠ some .powerOn ∧ (holding revokedCharge).pending.head? ≠ some .resetLine ∧
    Runs (holding revokedCharge) ∧ Holds (holding revokedCharge) 47 revokedCharge :=
  ⟨nofun, nofun, ⟨_, rfl⟩, holding_holds _⟩

theorem witness_OperandWordsStandBesidesHostWrites :
    let s : State := { ready .operating with pending := [.run 31] }
    (∀ c, s.pending.head? = some c → c ≠ .powerOn ∧ c ≠ .resetLine ∧
      (∀ x y v, c ≠ .orderMemoryWrite x y v) ∧ ∀ a v, c ≠ .windowWriteOther a v) ∧ Runs s ∧ 7 < 8 := by
  refine ⟨fun c h => ?_, ⟨_, rfl⟩, by decide⟩
  cases h
  exact ⟨nofun, nofun, nofun, nofun⟩

theorem witness_FlagsAnnounceChanges :
    let s : State := { State.reset with pending := [.startUpTimeLimit] }
    s.pending.head? ≠ some .powerOn ∧ s.pending.head? ≠ some .resetLine ∧
    ∃ t, step s = .next t ∧ s.unit.startUp.phase = .running (Config.sec 20) ∧
      t.unit.startUp.phase = .ended .timeLimit := ⟨by decide, by decide, _, rfl, rfl, rfl⟩

end Sys2Proof.Tests
end

section
/-! SUPPORT. What one step can do, said once: every step but that of a reset is a course of a few kinds of moves, and an
invariant of steps follows from what each kind of move keeps. -/

namespace Sys2Proof.Machine

open Sys2Proof.Safety Sys2Proof.Claims

/-! ### The kinds of moves -/

/-- No attention flag is lost. -/
def State.KeepsFlags (s t : State) : Prop := ∀ f, s.flagged f = true → t.flagged f = true

/-- The runner holds a run. -/
def RunnerState.Runs (r : RunnerState) : Prop := ∃ slot x waiting stop progress, r = .running slot x waiting stop progress

/-- Start-up is in progress. -/
def StartPhase.Runs (p : StartPhase) : Prop := ∃ e, p = .running e

/-- A bus record that reads as before to the rest of the part. -/
structure Bus.Aside (b c : Bus) : Prop where
  polling : c.isPolling = b.isPolling
  roster : c.roster = b.roster
  failed : (∃ p, c.state = .failed p) → ∃ p, b.state = .failed p
  stuck : (∃ l e, c.state = .stuck l e) → ∃ l e, b.state = .stuck l e

/-- A bay fire record of which only lines not taken and notes have changed. -/
structure FireRec.Aside (r q : FireRec) : Prop where
  state : q.state = r.state
  held : q.hold.taken = r.hold.taken
  output : q.releaseOutput = r.releaseOutput
  containment : q.containment = r.containment

/-- A string contactor record of which only feedback and its timer have changed. -/
structure Contactor.Aside (c d : Contactor) : Prop where
  fitted : d.fitted = c.fitted
  state : d.state = c.state
  unmet : d.unmet = c.unmet
  isolating : d.isolating = c.isolating
  main : d.mainClosed = c.mainClosed
  precharge : d.prechargeClosed = c.prechargeClosed

/-- A state that differs from another in nothing the site laws read: what is beside them may have changed. -/
structure State.Aside (s t : State) : Prop where
  slots : t.slots = s.slots
  doorReleased : t.doorReleased = s.doorReleased
  strings : ∀ i : Fin 8, t.strings[i.val] = { s.strings[i.val] with bandChanged := t.strings[i.val].bandChanged }
  buses : ∀ b : Fin 8, (s.buses[b.val]).Aside t.buses[b.val]
  fire : ∀ k : Fin 4, (s.fire[k.val]).Aside t.fire[k.val]
  cooling : t.cooling = s.cooling
  contactors : ∀ i : Fin 8, (s.contactors[i.val]).Aside t.contactors[i.val]
  breaker : t.breaker = s.breaker
  link : t.link.state = s.link.state
  mode : t.unit.mode = s.unit.mode
  active : t.unit.active = s.unit.active
  profiles : ProfilesInRange s → ProfilesInRange t
  startUp : s.unit.startUp.phase.Runs → ¬t.unit.startUp.phase.Runs → t.flagged .start = true
  runner : s.runner.state.Runs → ¬t.runner.state.Runs → t.flagged .chain = true
  now : s.now ≤ t.now
  loaded : t.loaded = s.loaded

/-- A bus event at its bus: buses and rosters, measured values, gas lists and the start-up record have changed, and what
is announced of them has been announced. -/
structure State.Senses (s t : State) : Prop where
  frame : t = { s with
    strings := t.strings, buses := t.buses, fire := t.fire, attention := t.attention
    unit := { s.unit with startUp := { s.unit.startUp with buses := t.unit.startUp.buses } } }
  strings : ∀ i : Fin 8, t.strings[i.val].fitted = s.strings[i.val].fitted ∧
    t.strings[i.val].chargeEnvelope = s.strings[i.val].chargeEnvelope ∧
    t.strings[i.val].dischargeEnvelope = s.strings[i.val].dischargeEnvelope
  bands : ∀ i : Fin 8, (s.strings[i.val].bandChanged = true → t.strings[i.val].bandChanged = true) ∧
    (t.strings[i.val].band ≠ s.strings[i.val].band →
      t.flagged .band = true ∧ t.strings[i.val].bandChanged = true)
  fire : ∀ k : Fin 4, (s.fire[k.val]).Aside t.fire[k.val]
  failed : ∀ b : Fin 8, (∃ p, t.buses[b.val].state = .failed p) → (∀ p, s.buses[b.val].state ≠ .failed p) →
    t.flagged .bus = true
  stuck : ∀ b : Fin 8, (∃ l e, t.buses[b.val].state = .stuck l e) → (∀ l e, s.buses[b.val].state ≠ .stuck l e) →
    t.flagged .bus = true
  flags : s.KeepsFlags t

/-- The command and the pulse outputs of a Breaker Record follow its state (R151). -/
def Breaker.OutputsFollow (b : Breaker) : Prop :=
  b.commandedClosed = b.state.commandsClosed ∧ (b.closePulse = true ↔ ∃ e, b.state = .closing e) ∧
    (b.openPulse = true ↔ ∃ k e, b.state = .opening k e)

/-- A Breaker Record after an event or an order at it: outputs follow the state, and it is commanded closed only where it
was or where a CONNECT is LIVE. -/
structure State.BreakerMove (s : State) (b : Breaker) : Prop where
  outputs : s.breaker.OutputsFollow → b.OutputsFollow
  closes : b.state.commandsClosed = true → s.breaker.state.commandsClosed = true ∨ s.connectLive = true

/-- A string contactor record after an event or an order at it: its state stands, or it is OPEN or FAILED; its outputs
follow the state entered. -/
structure Contactor.Move (c d : Contactor) : Prop where
  fitted : d.fitted = c.fitted
  state : d.state = c.state ∨ AtRest d
  outputs : (d.mainClosed = c.mainClosed ∧ d.prechargeClosed = c.prechargeClosed ∧ d.state = c.state) ∨
    (d.mainClosed = d.state.main ∧ d.prechargeClosed = d.state.precharge)

/-- A record amended, with its target recomputed where its limit changed (R26). -/
def State.amendSlot (s : State) (i : Fin 48) (p : Permit) (o : AmendOps) : State :=
  if o.limit.isSome then (s.setPermit i (p.amended o s.now)).retargetSlot .amend i else s.setPermit i (p.amended o s.now)

/-- A GRANT written into its slot, with auto-reclose armed for a CONNECT (R9, R156). -/
def State.grantSlot (s : State) (i : Fin 48) (kind : Kind) (holder : Holder) (o : GrantOps) : State :=
  if kind == .connect then (s.setPermit i (s.grantedPermit kind holder o)).arm o.autoReclose
  else s.setPermit i (s.grantedPermit kind holder o)

/-- The start-up load at the unit and in the fitted marks of the strings (R38, R195). -/
def State.loadUnit (s : State) : State :=
  let u := (s.setUnit s.unit.load).raiseIf (!s.unit.stored.agrees) .profile
  { u with strings := tab8 fun i => { s.strings[i.val] with fitted := s.unit.stored.loaded.isFitted i } }

/-- The strings under a committed profile, and the profile taken (R44, R192). -/
def State.refitUnit (s : State) (p : Profile) : State :=
  (s.refitStrings p).setUnit { (s.refitStrings p).unit with active := p }

/-- The effects of single events after which nothing is handed on. -/
inductive State.Touch (s : State) : State → Prop
  | unmark (i : Fin 48) (p : Permit) (hp : s.slots[i.val].permit = some p) :
      s.Touch (s.setPermit i { p with changed := false })
  | renew (i : Fin 48) (p : Permit) (hp : s.slots[i.val].permit = some p) (hr : p.state ≠ .revoked) :
      s.Touch (s.setPermit i (p.renewed s.now))
  | breaker (b : Breaker) (hb : s.BreakerMove b) : s.Touch (s.setBreaker b)
  | pulseEnd (k : Fin 4) (e : Nat) (hk : s.fire[k.val].state = .released (some e)) :
      s.Touch (s.setFire k { s.fire[k.val] with state := .released none, releaseOutput := false })
  | flow (k : Fin 4) (x : Bool) : s.Touch (s.setCooling k (CoolRec.drive { s.cooling[k.val] with flow := x } s.now))
  | transmit : s.Touch s.linkStage

/-- The effects that an event hands on by its settling, and the stages of the settling. -/
inductive State.Effect (s : State) : State → Prop
  | senses {t : State} (h : s.Senses t) : s.Effect t
  | revokeSlot (reason : Reason) (byOrder : Bool) (i : Fin 48) : s.Effect (s.revokeSlot reason byOrder i)
  | revokeWhere (f : Permit → Bool) (reason : Reason) : s.Effect (s.revokeWhere f reason)
  | amend (i : Fin 48) (p : Permit) (change op2 op3 op4 op5 : Word) (hp : s.slots[i.val].permit = some p)
      (ho : p.amendRefusal (AmendOps.decode change op2 op3 op4 op5) s.unit.clock = none) :
      s.Effect (s.amendSlot i p (AmendOps.decode change op2 op3 op4 op5))
  | reduce (i : Fin 48) (p : Permit) (limit : Nat) (hp : s.slots[i.val].permit = some p) (hr : p.state ≠ .revoked)
      (h0 : 0 < limit) (hl : limit ≤ p.requested) : s.Effect (s.reduceSlot i p limit)
  | riseEnd (i : Fin 48) (p : Permit) (l : Limits) (r : Rise) (hp : s.slots[i.val].permit = some p)
      (hl : p.limits = some l) (hr : l.rise = some r) (hs : p.liveOrSuspended = true) : s.Effect (s.endRise i p l r)
  | gridFalls : s.Effect s.gridFalls
  | gridReturns : s.Effect (s.setReconnect none true).resumeConnect
  | quietBay (k : Fin 4) (hk : ∀ e, s.fire[k.val].state ≠ .released (some e)) : s.Effect (s.quietBay k)
  | releaseBay (k : Fin 4) (hk : s.fire[k.val].state.inAlarm = true) : s.Effect (s.releaseBay k)
  | fireInputs (k : Fin 4) (a b : SmokeLine) (hold : Conditioned Bool) :
      s.Effect (s.setFire k { s.fire[k.val] with smokeA := a, smokeB := b, hold := hold })
  | cool (k : Fin 4) (r : CoolRec) (hr : r.flowFault = s.cooling[k.val].flowFault) : s.Effect (s.setCooling k r)
  | flowFault (k : Fin 4) (r : CoolRec) : s.Effect ((s.setCooling k r).raise .cooling)
  | contactor (i : Fin 8) (c : Contactor) (hc : (s.contactors[i.val]).Move c)
      (hf : c.state.isFailed = true → s.contactors[i.val].state.isFailed = true) : s.Effect (s.setContactor i c)
  | replaceContactor (i : Fin 8) (c : Contactor) (hc : (s.contactors[i.val]).Move c) :
      s.Effect (s.replaceContactor i c)
  | checkMatch : s.Effect s.checkMatch
  | linkState {t : State} (h : t = { s with link := t.link, attention := t.attention }) (hf : s.KeepsFlags t)
      (hl : (s.link.state = .down ↔ t.link.state ≠ .down) → t.flagged .link = true) : s.Effect t
  | setMode (m : Mode) : s.Effect (s.setUnit { s.unit with mode := m })
  | refitContactors (p : Profile) : s.Effect (s.refitContactors p)
  | refitCooling (p : Profile) : s.Effect (s.refitCooling p)
  | loadContactors (p : Profile) :
      s.Effect { s with contactors := tab8 fun i => (s.contactors[i.val]).refit (p.isFitted i) s.now }
  | opened (l : Link) (hl : l.state = s.link.state) : s.Effect { s with link := l, loaded := true }
  | doorStage : s.Effect s.doorStage
  | fireAndAlarm : s.Effect s.fireAndAlarm
  | coolStage : s.Effect s.coolStage
  | connectStage : s.Effect s.connectStage
  | isolateStage (granted : Option (Fin 48)) : s.Effect (s.isolateStage granted)
  | evaluateStage : s.Effect s.evaluateStage

/-- The effects that an event can have only on a Permit Table and a String Table that it has not touched yet. -/
inductive State.First (s : State) : State → Prop
  | grant (i : Fin 48) (kind : Kind) (holder : Holder) (op0 op1 op2 op3 op4 op5 : Word)
      (hr : s.grantRefusal kind holder (GrantOps.decode op0 op1 op2 op3 op4 op5) = none) (hi : s.freeSlot = some i) :
      s.First (s.grantSlot i kind holder (GrantOps.decode op0 op1 op2 op3 op4 op5))
  | retire (i : Fin 48) (p : Permit) (hp : s.slots[i.val].permit = some p) : s.First (s.retireSlot i)
  | load (hl : s.loaded = false) : s.First s.loadUnit
  | refit (p : Profile) (hp : s.unit.working = p) : s.First (s.refitUnit p)

/-- The course of an event from a state: its own effects and its settlings. The mark says that nothing is left to hand
on. -/
inductive State.Course (s : State) : Bool → State → Prop
  | port {t : State} (h : s.Aside t) : s.Course true t
  | aside {b : Bool} {t u : State} (c : s.Course b t) (h : t.Aside u) (hf : t.KeepsFlags u)
      (hs : u.strings = t.strings) : s.Course b u
  | touch {b : Bool} {t u : State} (c : s.Course b t) (h : t.Touch u) : s.Course b u
  | effect {b : Bool} {t u : State} (c : s.Course b t) (h : t.Effect u) : s.Course false u
  | first {b : Bool} {t u : State} (c : s.Course b t) (hs : t.slots = s.slots) (hr : t.strings = s.strings)
      (h : t.First u) : s.Course false u
  | settle {b : Bool} {t : State} (c : s.Course b t) (granted : Option (Fin 48)) : s.Course true (t.settleWith granted)

/-! ### What keeps flags -/

theorem State.KeepsFlags.refl (s : State) : s.KeepsFlags s := fun _ h => h

theorem State.KeepsFlags.trans {s t u : State} (h : s.KeepsFlags t) (k : t.KeepsFlags u) : s.KeepsFlags u :=
  fun f hf => k f (h f hf)

theorem State.KeepsFlags.of_eq {s t : State} (h : t.attention = s.attention) : s.KeepsFlags t :=
  fun f hf => by rwa [State.flagged, h]

/-- A flag raised is set. -/
@[simp] theorem State.raise_flagged_self (s : State) (f : Flag) : (s.raise f).flagged f = true := by
  cases f <;> simp [State.flagged, State.raise, Flag.position, Flag.mask]

theorem State.raise_keepsFlags (s : State) (f : Flag) : s.KeepsFlags (s.raise f) := by
  intro g hg
  simp only [State.flagged, State.raise, Attention.raise_flags, BitVec.getLsbD_or, Bool.or_eq_true] at hg ⊢
  exact .inl hg

theorem State.raiseIf_keepsFlags (s : State) (c : Bool) (f : Flag) : s.KeepsFlags (s.raiseIf c f) := by
  cases c
  · exact .refl s
  · exact s.raise_keepsFlags f

/-- A flag raised under a condition is set where the condition holds. -/
theorem State.raiseIf_flagged_self (s : State) (c : Bool) (f : Flag) (hc : c = true) :
    (s.raiseIf c f).flagged f = true := by
  subst hc; exact s.raise_flagged_self f

/-! ### What stays aside -/

theorem Bus.Aside.refl (b : Bus) : b.Aside b := ⟨rfl, rfl, id, id⟩

theorem FireRec.Aside.refl (r : FireRec) : r.Aside r := ⟨rfl, rfl, rfl, rfl⟩

theorem Contactor.Aside.refl (c : Contactor) : c.Aside c := ⟨rfl, rfl, rfl, rfl, rfl, rfl⟩

theorem State.Aside.refl (s : State) : s.Aside s where
  slots := rfl
  doorReleased := rfl
  strings _ := rfl
  buses _ := .refl _
  fire _ := .refl _
  cooling := rfl
  contactors _ := .refl _
  breaker := rfl
  link := rfl
  mode := rfl
  active := rfl
  profiles := id
  startUp h k := absurd h k
  runner h k := absurd h k
  now := le_rfl
  loaded := rfl

/-- A bus record replaced by one that reads as before. -/
theorem State.setBus_aside (s : State) (b : Fin 8) (x : Bus) (h : (s.buses[b.val]).Aside x) :
    s.Aside (s.setBus b x) :=
  { State.Aside.refl s with
    buses := fun j => by
      rw [State.setBus_buses, getElem_put]
      split
      · next e => subst e; exact h
      · exact .refl _ }

/-- A bay fire record replaced by one that reads as before. -/
theorem State.setFire_aside (s : State) (k : Fin 4) (r : FireRec) (h : (s.fire[k.val]).Aside r) :
    s.Aside (s.setFire k r) :=
  { State.Aside.refl s with
    fire := fun j => by
      rw [State.setFire_fire, getElem_put]
      split
      · next e => subst e; exact h
      · exact .refl _ }

/-- A string contactor record replaced by one that reads as before. -/
theorem State.setContactor_aside (s : State) (i : Fin 8) (c : Contactor) (h : (s.contactors[i.val]).Aside c) :
    s.Aside (s.setContactor i c) :=
  { State.Aside.refl s with
    contactors := fun j => by
      rw [State.setContactor_contactors, getElem_put]
      split
      · next e => subst e; exact h
      · exact .refl _ }

/-- What the port and the runner do beside the tables: a change of order memory, attention, transaction, runner and the
model's own answer that announces a run's end. -/
theorem State.port_aside (s : State) (m : List Host.Cell) (x : Transaction) (r : Runner) (a : Attention)
    (y : Option Answer)
    (h : s.runner.state.Runs → ¬r.state.Runs → State.flagged { s with attention := a } .chain = true) :
    s.Aside { s with orderMemory := m, transaction := x, runner := r, attention := a, answer := y } :=
  { State.Aside.refl s with
    startUp := fun h k => absurd h k
    runner := h }

theorem State.raise_aside (s : State) (f : Flag) : s.Aside (s.raise f) :=
  { State.Aside.refl s with
    startUp := fun h k => absurd h k
    runner := fun h k => absurd h k }

/-- A link record replaced whose state stands. -/
theorem State.setLink_aside (s : State) (l : Link) (h : l.state = s.link.state) : s.Aside (s.setLink l) :=
  { State.Aside.refl s with
    link := h
    startUp := fun h k => absurd h k
    runner := fun h k => absurd h k }

/-- The Mode and Profile Unit replaced, mode, active profile and start-up phase standing. -/
theorem State.setUnit_aside (s : State) (u : ProfileUnit) (hm : u.mode = s.unit.mode) (ha : u.active = s.unit.active)
    (hs : u.startUp = s.unit.startUp) (hp : ProfilesInRange s → ProfilesInRange (s.setUnit u)) :
    s.Aside (s.setUnit u) :=
  { State.Aside.refl s with
    mode := hm
    active := ha
    profiles := hp
    startUp := fun h k => absurd h (by rwa [State.setUnit_unit, hs] at k)
    runner := fun h k => absurd h k }

/-! ### What the buses' events do -/

theorem State.Senses.trans {s t u : State} (h : s.Senses t) (k : t.Senses u) : s.Senses u where
  frame := by
    have e := k.frame
    rw [h.frame] at e
    exact e
  strings i := by
    obtain ⟨a, b, c⟩ := h.strings i
    obtain ⟨a', b', c'⟩ := k.strings i
    exact ⟨a'.trans a, b'.trans b, c'.trans c⟩
  bands i := by
    obtain ⟨hm, hb⟩ := h.bands i
    obtain ⟨km, kb⟩ := k.bands i
    refine ⟨km ∘ hm, fun hne => ?_⟩
    by_cases e : u.strings[i.val].band = t.strings[i.val].band
    · obtain ⟨hf, hc⟩ := hb (e ▸ hne)
      exact ⟨k.flags _ hf, km hc⟩
    · exact kb e
  fire j := by
    obtain ⟨a, b, c, d⟩ := h.fire j
    obtain ⟨a', b', c', d'⟩ := k.fire j
    exact ⟨a'.trans a, b'.trans b, c'.trans c, d'.trans d⟩
  failed b hu hs := by
    by_cases e : ∃ p, t.buses[b.val].state = .failed p
    · exact k.flags _ (h.failed b e hs)
    · exact k.failed b hu (fun p hp => e ⟨p, hp⟩)
  stuck b hu hs := by
    by_cases e : ∃ l f, t.buses[b.val].state = .stuck l f
    · exact k.flags _ (h.stuck b e hs)
    · exact k.stuck b hu (fun l f hp => e ⟨l, f, hp⟩)
  flags := h.flags.trans k.flags

theorem State.Senses.refl (s : State) : s.Senses s where
  frame := rfl
  strings _ := ⟨rfl, rfl, rfl⟩
  bands _ := ⟨id, fun h => absurd rfl h⟩
  fire _ := .refl _
  failed _ h k := by obtain ⟨p, hp⟩ := h; exact absurd hp (k p)
  stuck _ h k := by obtain ⟨l, e, hp⟩ := h; exact absurd hp (k l e)
  flags := .refl s

/-- A bus record replaced, the bus neither newly FAILED nor newly STUCK. -/
theorem State.setBus_senses (s : State) (b : Fin 8) (x : Bus)
    (hf : (∃ p, x.state = .failed p) → ∃ p, s.buses[b.val].state = .failed p)
    (hs : (∃ l e, x.state = .stuck l e) → ∃ l e, s.buses[b.val].state = .stuck l e) : s.Senses (s.setBus b x) :=
  { State.Senses.refl s with
    frame := rfl
    failed := fun j hj k => by
      rw [State.setBus_buses, getElem_put] at hj
      split at hj
      · next e => subst e; obtain ⟨p, hp⟩ := hf hj; exact absurd hp (k p)
      · obtain ⟨p, hp⟩ := hj; exact absurd hp (k p)
    stuck := fun j hj k => by
      rw [State.setBus_buses, getElem_put] at hj
      split at hj
      · next e => subst e; obtain ⟨l, f, hp⟩ := hs hj; exact absurd hp (k l f)
      · obtain ⟨l, f, hp⟩ := hj; exact absurd hp (k l f) }

/-- A bus record replaced with its BUS flag. -/
theorem State.setBus_raise_senses (s : State) (b : Fin 8) (x : Bus) : s.Senses ((s.setBus b x).raise .bus) :=
  { State.Senses.refl s with
    frame := rfl
    bands := fun _ => ⟨id, fun h => absurd rfl h⟩
    failed := fun _ _ _ => State.raise_flagged_self _ _
    stuck := fun _ _ _ => State.raise_flagged_self _ _
    flags := State.raise_keepsFlags s .bus }

theorem State.raiseIf_senses (s : State) (c : Bool) (f : Flag) : s.Senses (s.raiseIf c f) := by
  cases c
  · exact .refl s
  · exact { State.Senses.refl s with
      frame := rfl
      bands := fun _ => ⟨id, fun h => absurd rfl h⟩
      failed := fun _ h k => by obtain ⟨p, hp⟩ := h; exact absurd hp (k p)
      stuck := fun _ h k => by obtain ⟨l, e, hp⟩ := h; exact absurd hp (k l e)
      flags := State.raise_keepsFlags s f }

theorem State.noteStartUp_senses (s : State) (b : Fin 8) (f : BusStart → BusStart) : s.Senses (s.noteStartUp b f) := by
  simp only [State.noteStartUp]
  split
  · exact .refl s
  · exact { State.Senses.refl s with
      frame := rfl
      bands := fun _ => ⟨id, fun h => absurd rfl h⟩
      failed := fun _ h k => by obtain ⟨p, hp⟩ := h; exact absurd hp (k p)
      stuck := fun _ h k => by obtain ⟨l, e, hp⟩ := h; exact absurd hp (k l e)
      flags := .of_eq rfl }

/-- A string record replaced whose band, where it changes, is announced by the flag and by the mark. -/
theorem State.updateBand_senses (s : State) (i : Fin 8) (r : StringRec)
    (hk : r.fitted = s.strings[i.val].fitted ∧ r.chargeEnvelope = s.strings[i.val].chargeEnvelope ∧
      r.dischargeEnvelope = s.strings[i.val].dischargeEnvelope)
    (hm : s.strings[i.val].bandChanged = true → r.bandChanged = true)
    (hb : r.band ≠ s.strings[i.val].band → r.bandChanged = true) : s.Senses (s.updateBand i r) where
  frame := by
    obtain ⟨x, y, h⟩ := State.updateBand_frame s i r
    rw [h]
  strings j := by
    simp only [State.updateBand, State.raiseIf_strings, State.setString_strings, getElem_put]
    split
    · next e => subst e; exact hk
    · exact ⟨rfl, rfl, rfl⟩
  bands j := by
    simp only [State.updateBand, State.raiseIf_strings, State.setString_strings, getElem_put]
    split
    · next e =>
      subst e
      exact ⟨hm, fun h => ⟨State.raiseIf_flagged_self _ _ _ (by simpa using h), hb h⟩⟩
    · exact ⟨id, fun h => absurd rfl h⟩
  fire k := by
    simp only [State.updateBand, State.raiseIf_fire, State.setString_fire]; exact .refl _
  failed b h k := by
    obtain ⟨p, hp⟩ := h
    simp only [State.updateBand, State.raiseIf_buses, State.setString_buses] at hp
    exact absurd hp (k p)
  stuck b h k := by
    obtain ⟨l, e, hp⟩ := h
    simp only [State.updateBand, State.raiseIf_buses, State.setString_buses] at hp
    exact absurd hp (k l e)
  flags := State.raiseIf_keepsFlags (s.setString i r) _ _

/-- A band written: its change sets the mark, and no other field of the record changes. -/
theorem StringRec.setBand_spec (r : StringRec) (band : Fin 8) :
    r.setBand band = { r with band := band, bandChanged := r.bandChanged || (r.band != band) } := by
  simp only [StringRec.setBand]
  split
  · next e => subst e; simp
  · next e => simp [e]

/-- The aggregation leaves what the Permit Manager and the profile read of a record, and its band. -/
theorem StringRec.aggregate_spec (r : StringRec) (counted : List Entry) :
    (r.aggregate counted).fitted = r.fitted ∧ (r.aggregate counted).chargeEnvelope = r.chargeEnvelope ∧
      (r.aggregate counted).dischargeEnvelope = r.dischargeEnvelope ∧
      (r.aggregate counted).bandChanged = r.bandChanged ∧ (r.aggregate counted).band = r.band := by
  simp only [StringRec.aggregate]
  split <;> exact ⟨rfl, rfl, rfl, rfl, rfl⟩

theorem State.aggregate_senses (s : State) (i : Fin 8) : s.Senses (s.aggregate i) := by
  obtain ⟨hf, hc, hd, hm, hb⟩ := StringRec.aggregate_spec s.strings[i.val] s.buses[i.val].counted
  simp only [State.aggregate, Fin.getElem_fin]
  split
  · exact State.updateBand_senses s i _ ⟨hf, hc, hd⟩ (fun h => hm.trans h) (fun h => absurd hb h)
  · refine State.updateBand_senses s i _ ?_ ?_ ?_
    · rw [StringRec.setBand_spec]; exact ⟨hf, hc, hd⟩
    · intro h
      rw [StringRec.setBand_spec]
      simp [hm, h]
    · intro h
      rw [StringRec.setBand_spec] at h ⊢
      simp only [Bool.or_eq_true, bne_iff_ne, ne_eq]
      exact .inr (fun e => h (e.symm.trans hb))

theorem State.stringLeavesPolling_senses (s : State) (i : Fin 8) : s.Senses (s.stringLeavesPolling i) :=
  State.updateBand_senses s i { s.strings[i.val] with onlineCount := 0, voltage := 0 } ⟨rfl, rfl, rfl⟩ id
    (fun h => absurd rfl h) |> fun h => by
      have e : s.stringLeavesPolling i = s.updateBand i { s.strings[i.val] with onlineCount := 0, voltage := 0 } := by
        simp [State.stringLeavesPolling, State.updateBand, State.raiseIf]
      rwa [e]

theorem State.takeGas_senses (s : State) (i : Fin 8) (address level : Nat) : s.Senses (s.takeGas i address level) := by
  simp only [State.takeGas]
  split
  · exact { State.Senses.refl s with
      frame := rfl
      fire := fun j => by
        rw [State.setFire_fire, getElem_put]
        split
        · next e => subst e; exact ⟨rfl, rfl, rfl, rfl⟩
        · exact .refl _ }
  · exact .refl s

end Sys2Proof.Machine
end

section
/-! SUPPORT. The course of every command: each execution is a chain of the moves of Proofs/Steps. -/

namespace Sys2Proof.Machine

open Sys2Proof.Safety Sys2Proof.Claims

/-! ### Beginnings and ends of a course -/

theorem State.Course.start (s : State) : s.Course true s := .port (.refl s)

theorem State.Course.senses {s t u : State} {b : Bool} (c : s.Course b t) (h : t.Senses u) : s.Course false u :=
  c.effect (.senses h)

theorem State.Course.settled {s t : State} (c : s.Course false t) : s.Course true t.settle := c.settle none

/-! ### Poll rounds and roll calls -/

section Buses

variable {s t : State} {m : Bool}

/-- A bus record replaced whose state stands. -/
theorem State.Course.setBus (c : s.Course m t) (b : Fin 8) (x : Bus) (h : x.state = t.buses[b.val].state) :
    s.Course false (t.setBus b x) :=
  c.senses (State.setBus_senses t b x (fun ⟨p, e⟩ => ⟨p, h ▸ e⟩) (fun ⟨l, f, e⟩ => ⟨l, f, h ▸ e⟩))

/-- A bus record replaced by one that is neither FAILED nor STUCK. -/
theorem State.Course.moveBus (c : s.Course m t) (b : Fin 8) (x : Bus) (hf : ∀ p, x.state ≠ .failed p)
    (hs : ∀ l e, x.state ≠ .stuck l e) : s.Course false (t.setBus b x) :=
  c.senses (State.setBus_senses t b x (fun ⟨p, e⟩ => absurd e (hf p)) (fun ⟨l, f, e⟩ => absurd e (hs l f)))

theorem State.Course.startFrame (c : s.Course m t) (b : Fin 8) (kind : FrameKind) (address now : Nat) :
    s.Course false (t.setBus b (t.buses[b].startFrame kind address now)) := c.setBus b _ rfl

theorem State.Course.toRollCall (c : s.Course m t) (b : Fin 8) : s.Course false (t.toRollCall b) :=
  (c.moveBus b (t.buses[b.val].enterRollCall t.now) (by simp [Bus.enterRollCall])
    (by simp [Bus.enterRollCall])).senses (State.stringLeavesPolling_senses _ b)

theorem State.Course.endRound (c : s.Course m t) (b : Fin 8) : s.Course false (t.endRound b) := c.setBus b _ rfl

theorem State.Course.checkMatchOf (c : s.Course m t) (b : Fin 8) : s.Course false (t.checkMatchOf b) := by
  simp only [State.checkMatchOf]
  split
  · exact c.effect .checkMatch
  · exact c.senses (.refl t)

theorem State.Course.noteFirstRound (c : s.Course m t) (b : Fin 8) : s.Course false (t.noteFirstRound b) := by
  simp only [State.noteFirstRound]
  split
  · exact c.senses (State.noteStartUp_senses t b _)
  · exact c.senses (.refl t)

theorem State.Course.completeRound (c : s.Course m t) (b : Fin 8) : s.Course false (t.completeRound b) := by
  have ended : s.Course false (t.setBus b { t.buses[b] with
      frame := none, round := { t.buses[b].round with position := none } }) := c.setBus b _ rfl
  have h := (((ended.senses (State.aggregate_senses _ b)).checkMatchOf b).noteFirstRound b).settled
  simp only [State.completeRound]
  split
  · exact h.startFrame b .target 0 _
  · exact h.endRound b

theorem State.Course.visitAbove (c : s.Course m t) (b : Fin 8) (above : Nat) : s.Course false (t.visitAbove b above) := by
  simp only [State.visitAbove]
  split
  · exact c.setBus b _ rfl
  · exact c.completeRound b

theorem State.Course.startRound (c : s.Course m t) (b : Fin 8) : s.Course false (t.startRound b) :=
  State.Course.visitAbove (c.setBus b { t.buses[b] with round :=
    { index := nextIndex t.buses[b].round.index, start := some t.now, nextStart := none, position := none } } rfl) b 0

theorem State.Course.completeRollCall (c : s.Course m t) (b : Fin 8) : s.Course false (t.completeRollCall b) :=
  (((c.moveBus b _ (by simp) (by simp)).senses (State.raiseIf_senses _ _ .bus)).senses
    (State.noteStartUp_senses _ b _)).startRound b

theorem State.Course.nextProbe (c : s.Course m t) (b : Fin 8) (address : Nat) :
    s.Course false (t.nextProbe b address) := by
  simp only [State.nextProbe]
  split
  · exact c.setBus b _ rfl
  · exact c.completeRollCall b

theorem State.Course.afterExchange (c : s.Course m t) (b : Fin 8) (address : Nat) :
    s.Course false (t.afterExchange b address) := by
  simp only [State.afterExchange]
  split
  · exact c.toRollCall b
  · exact c.visitAbove b address

theorem State.Course.updateRoster (c : s.Course m t) (b : Fin 8) (address : Nat) (f : Entry → Entry) :
    s.Course false (t.updateRoster b address f) := c.setBus b _ rfl

theorem State.Course.goodSummary (c : s.Course m t) (b : Fin 8) (address : Nat) (v : Summary) :
    s.Course false (t.goodSummary b address v) := by
  have h := c.updateRoster b address (·.goodSummary v t.unit.active.cells[b])
  refine State.Course.afterExchange (State.Course.settled ?_) b address
  split
  · exact h.senses (State.takeGas_senses _ b address v.gas)
  · exact h

theorem State.Course.goodProbe (c : s.Course m t) (b : Fin 8) (address : Nat) (x : Probe) :
    s.Course false (t.goodProbe b address x) := by
  have h := (c.updateRoster b address (·.goodProbe x t.unit.active.cells[b])).settled
  simp only [State.goodProbe]
  split
  · exact h.toRollCall b
  · split
    · exact h.startFrame b .summary address _
    · exact h.visitAbove b address

theorem State.Course.failedExchange (c : s.Course m t) (b : Fin 8) (kind : FrameKind) (address : Nat) (why : FailKind) :
    s.Course false (t.failedExchange b kind address why) := by
  have h := c.setBus b (t.buses[b].fail why address) rfl
  unfold State.failedExchange
  dsimp only
  split
  · exact h.nextProbe b address
  · exact (h.updateRoster b address Entry.failedSummary).settled.afterExchange b address
  · exact h.afterExchange b address
  · exact h

theorem State.Course.afterTarget (c : s.Course m t) (b : Fin 8) : s.Course false (t.afterTarget b) := by
  simp only [State.afterTarget]
  split
  · exact c.toRollCall b
  · exact c.endRound b

theorem State.Course.judgeExchange (c : s.Course m t) (b : Fin 8) (f : Frame) (chars : List BusChar) :
    s.Course false (t.judgeExchange b f chars) := by
  have h0 : s.Course false t := c.senses (.refl t)
  simp only [State.judgeExchange]
  split
  · exact c.failedExchange b _ f.address _
  · split
    · exact c.goodSummary b f.address _
    · exact h0
  · split
    · refine State.Course.nextProbe (c.setBus b _ ?_) b f.address
      rfl
    · exact c.goodProbe b f.address _
    · exact h0
  · exact h0

theorem State.endExchange_course (s : State) (b : Fin 8) (kinds : List FrameKind) (chars : List BusChar) :
    s.Course true (s.endExchange b kinds chars) := by
  simp only [State.endExchange]
  split
  · exact ((State.Course.start s).judgeExchange b _ chars).settled
  · exact .start s

theorem State.Course.endSelfTest (c : s.Course m t) (b : Fin 8) (back1 back2 : Option BusChar) :
    s.Course false (t.endSelfTest b back1 back2) := by
  simp only [State.endSelfTest]
  split
  · exact (c.moveBus b _ (by simp [Bus.wake]) (by simp [Bus.wake])).senses (State.noteStartUp_senses _ b _)
  · exact (c.senses (State.setBus_raise_senses t b _)).senses (State.noteStartUp_senses _ b _)

theorem State.Course.goStuck (c : s.Course m t) (b : Fin 8) (level : Level) : s.Course false (t.goStuck b level) := by
  have h := c.senses (State.setBus_raise_senses t b (t.buses[b].toStuck level t.now))
  simp only [State.goStuck]
  split
  · exact (h.senses (State.stringLeavesPolling_senses _ b)).senses (State.noteStartUp_senses _ b _)
  · exact h.senses (State.noteStartUp_senses _ b _)

theorem State.Course.endGap (c : s.Course m t) (b : Fin 8) (f : Frame) : s.Course false (t.endGap b f) := by
  simp only [State.endGap]
  split
  · exact c.failedExchange b _ _ _
  · exact c.failedExchange b _ _ _
  · exact (c.setBus b (t.buses[b].fail .echo 0) rfl).afterTarget b

theorem State.Course.endTarget (c : s.Course m t) (b : Fin 8) (f : Frame) : s.Course false (t.endTarget b f) :=
  (c.setBus b { t.buses[b] with lastTarget := some (t.targetOfFrame b f) } rfl).afterTarget b

theorem State.Course.switchToRollCall (c : s.Course m t) (b : Fin 8) : s.Course false (t.switchToRollCall b) := by
  simp only [State.switchToRollCall]
  split
  · exact c.setBus b _ rfl
  · exact c.toRollCall b

/-- One bus at a commit. -/
theorem State.Course.refitBus (c : s.Course m t) (old new : Profile) (b : Fin 8) :
    s.Course false (refitBus t old new b) := by
  have h0 : s.Course false t := c.senses (.refl t)
  simp only [Machine.refitBus]
  split
  · exact h0
  · exact c.moveBus b _ (by simp [Bus.toSelfTest]) (by simp [Bus.toSelfTest])
  · exact h0
  · exact c.moveBus b _ (by simp [Bus.toOff, Bus.atReset]) (by simp [Bus.toOff, Bus.atReset])
  · split
    · exact h0
    · refine State.Course.switchToRollCall (c.setBus b _ ?_) b
      rfl
  · exact h0

theorem State.Course.refitBuses (c : s.Course m t) (old new : Profile) : s.Course false (t.refitBuses old new) :=
  foldl_keeps (s.Course false) _ (fun _ b h => h.refitBus old new b) allStrings t (c.senses (.refl t))

/-- One bus at the start-up load. -/
theorem State.Course.loadBus (c : s.Course m t) (p : Profile) (b : Fin 8) : s.Course false (loadBus p t b) := by
  simp only [Machine.loadBus]
  split
  · exact (c.moveBus b _ (by simp [Bus.toSelfTest]) (by simp [Bus.toSelfTest])).senses
      (State.noteStartUp_senses _ b _)
  · exact c.senses (.refl t)

end Buses

/-! ### The runner -/

/-- The end of an order loses no flag, and where the run stops the CHAIN flag is set (R180). -/
theorem State.endOrder_announces (s : State) (slot : BitVec 5) (x : Snapshot) (stop : Bool) (a : Answer) :
    s.KeepsFlags (s.endOrder slot x stop a).1 ∧
      ((s.endOrder slot x stop a).2 = none → (s.endOrder slot x stop a).1.flagged .chain = true) := by
  have hw : ∀ c, s.KeepsFlags ((s.writeOutcome slot a).raiseIf c .chain) := fun c =>
    (State.KeepsFlags.of_eq (State.writeOutcome_attention s slot a)).trans (State.raiseIf_keepsFlags _ c .chain)
  have hr : ∀ c st, s.KeepsFlags ((((s.writeOutcome slot a).raiseIf c .chain).setRunner st).raise .chain) := fun c st =>
    (hw c).trans ((State.KeepsFlags.of_eq (State.setRunner_attention _ st)).trans (State.raise_keepsFlags _ .chain))
  simp only [State.endOrder]
  split
  · exact ⟨hr _ _, fun _ => State.raise_flagged_self _ _⟩
  · split
    · exact ⟨hr _ _, fun _ => State.raise_flagged_self _ _⟩
    · split
      · exact ⟨hr _ _, fun _ => State.raise_flagged_self _ _⟩
      · exact ⟨hw _, fun h => by simp at h⟩

theorem State.takeSnapshot_runs (s : State) (slot : BitVec 5) : (s.takeSnapshot slot).runner.state.Runs :=
  ⟨_, _, _, _, _, rfl⟩

/-- Slots taken lose no flag, and when they end in no run the CHAIN flag is set (R180, R181). -/
theorem State.takeSlot_announces (n : Nat) (slot : BitVec 5) (s : State) :
    s.KeepsFlags (State.takeSlot n slot s) ∧
      (¬(State.takeSlot n slot s).runner.state.Runs → (State.takeSlot n slot s).flagged .chain = true) := by
  have long : s.KeepsFlags (s.chainLong slot) := State.raise_keepsFlags _ _
  induction n generalizing slot s with
  | zero => exact ⟨long, fun _ => State.raise_flagged_self _ _⟩
  | succ n ih =>
    have snap : s.KeepsFlags (s.takeSnapshot slot) := .of_eq (State.takeSnapshot_attention s slot)
    simp only [State.takeSlot]
    split
    · exact ⟨long, fun _ => State.raise_flagged_self _ _⟩
    · split
      · exact ⟨snap, fun h => absurd (State.takeSnapshot_runs s slot) h⟩
      · next r _ =>
        obtain ⟨hk, hc⟩ := State.endOrder_announces (s.takeSnapshot slot) slot (s.snapshotOf slot) false (refuse r)
        split
        · next u hu => rw [hu] at hk hc; exact ⟨snap.trans hk, fun _ => hc rfl⟩
        · next u m hu =>
          rw [hu] at hk
          obtain ⟨ik, ic⟩ := ih m u (State.raise_keepsFlags _ _)
          exact ⟨(snap.trans hk).trans ik, ic⟩

/-- An order answered loses no flag, and when it ends the run the CHAIN flag is set (R180). -/
theorem State.answerOrder_announces (s : State) (slot : BitVec 5) (x : Snapshot) (stop : Bool) (a : Answer) :
    s.KeepsFlags (s.answerOrder slot x stop a) ∧
      (¬(s.answerOrder slot x stop a).runner.state.Runs → (s.answerOrder slot x stop a).flagged .chain = true) := by
  obtain ⟨hk, hc⟩ := State.endOrder_announces s slot x stop a
  simp only [State.answerOrder]
  split
  · next u hu => rw [hu] at hk hc; exact ⟨hk, fun _ => hc rfl⟩
  · next u m hu =>
    rw [hu] at hk
    obtain ⟨ik, ic⟩ := State.takeSlot_announces 33 m u
    exact ⟨hk.trans ik, ic⟩

theorem State.answerOrder_aside (s : State) (slot : BitVec 5) (x : Snapshot) (stop : Bool) (a : Answer) :
    s.Aside (s.answerOrder slot x stop a) := by
  obtain ⟨-, hc⟩ := State.answerOrder_announces s slot x stop a
  obtain ⟨m, r, y, h⟩ := State.answerOrder_frame s slot x stop a
  rw [h] at hc ⊢
  exact State.port_aside s m s.transaction r y s.answer (fun _ => hc)

theorem State.deliver_aside (s : State) (a : Answer) (order : Instr) : s.Aside (s.deliver a order) := by
  simp only [State.deliver]
  split
  · split
    · exact State.port_aside s s.orderMemory s.transaction _ s.attention s.answer
        (fun _ h => absurd ⟨_, _, _, _, _, rfl⟩ h)
    · exact State.port_aside s s.orderMemory s.transaction s.runner s.attention _ (fun h k => absurd h k)
  · exact State.port_aside s s.orderMemory s.transaction s.runner s.attention _ (fun h k => absurd h k)

theorem State.answer_aside (s : State) (a : Option Answer) : s.Aside { s with answer := a } :=
  State.port_aside s s.orderMemory s.transaction s.runner s.attention a (fun h k => absurd h k)

theorem State.Course.delivered {s t : State} {b : Bool} (c : s.Course b t) (a : Answer) (order : Instr) :
    s.Course b (t.deliver a order) :=
  c.aside (State.deliver_aside t a order) (.of_eq (State.deliver_attention t a order))
    (State.deliver_strings t a order)

/-- The course of an order is that of its owner. -/
theorem State.takeOrder_course (s : State) (order : Instr) (owner : State → State × Answer)
    (h : s.Course true (owner s).1) : s.Course true (s.takeOrder order owner) := by
  rcases State.takeOrder_cases s order owner with ⟨r, -, e⟩ | e
  · rw [e]; exact .port (State.answer_aside s _)
  · rw [e]; exact h.delivered _ _

/-- A RUN command and what is taken of it. -/
theorem State.runCommand_runs (s : State) (slot : BitVec 5) (h : s.runner.state.Runs) :
    (s.runCommand slot).runner.state.Runs := by
  obtain ⟨x, y, w, r, p, e⟩ := h
  simp only [State.runCommand, e]
  exact ⟨x, y, w, r, p, rfl⟩

theorem State.stopCommand_runs (s : State) (h : s.runner.state.Runs) : s.stopCommand.runner.state.Runs := by
  obtain ⟨x, y, w, r, p, e⟩ := h
  simp only [State.stopCommand, e]
  exact ⟨x, y, w, true, p, rfl⟩

/-- A word written to the window changes order memory, runner and attention, and ends no run. -/
theorem State.windowWrite_frame (s : State) (a : BitVec 10) (v : Word) :
    ∃ m r x, s.windowWrite a v = { s with orderMemory := m, runner := r, attention := x } ∧
      (s.runner.state.Runs → r.state.Runs) := by
  simp only [State.windowWrite]
  split
  · exact ⟨_, _, _, rfl, id⟩
  · split
    · split
      · obtain ⟨m, r, x, h⟩ := State.runCommand_frame s (v.extractLsb' 0 5)
        refine ⟨m, r, x, h, fun k => ?_⟩
        have := State.runCommand_runs s (v.extractLsb' 0 5) k
        rwa [h] at this
      · split
        · obtain ⟨r, h⟩ := State.stopCommand_frame s
          refine ⟨_, r, _, h, fun k => ?_⟩
          have := State.stopCommand_runs s k
          rwa [h] at this
        · exact ⟨_, _, _, rfl, id⟩
    · split
      · exact ⟨_, _, _, rfl, id⟩
      · split <;> exact ⟨_, _, _, rfl, id⟩

theorem State.windowWrite_wrote_aside (s : State) (a b : BitVec 10) (v : Word) :
    s.Aside ((s.windowWrite a v).wrote b) := by
  obtain ⟨m, r, x, h, k⟩ := State.windowWrite_frame s a v
  rw [h]
  exact State.port_aside s m _ r x s.answer (fun hs hr => absurd (k hs) hr)

theorem State.runCommand_wrote_aside (s : State) (slot : BitVec 5) (b : BitVec 10) :
    s.Aside ((s.runCommand slot).wrote b) := by
  have k := State.runCommand_runs s slot
  obtain ⟨m, r, x, h⟩ := State.runCommand_frame s slot
  rw [h] at k ⊢
  exact State.port_aside s m _ r x s.answer (fun hs hr => absurd (k hs) hr)

theorem State.stopCommand_wrote_aside (s : State) (b : BitVec 10) : s.Aside (s.stopCommand.wrote b) := by
  have k := State.stopCommand_runs s
  obtain ⟨r, h⟩ := State.stopCommand_frame s
  rw [h] at k ⊢
  exact State.port_aside s s.orderMemory _ r s.attention s.answer (fun hs hr => absurd (k hs) hr)

end Sys2Proof.Machine
end

section
/-! SUPPORT. The hold times of profiles stay in their ranges: through a write of a field, and through the words of the
stored copy and back (R190 to R192). -/

namespace Sys2Proof.Machine

open Sys2Proof.Safety Sys2Proof.Claims

/-- The words of the stored copy before those of the numbers that stand for the whole site. -/
def Profile.stringWords (p : Profile) : List Word :=
  [p.fitted.setWidth 16] ++ p.expected.toList.flatMap maskWords ++ p.cells.toList.map (BitVec.ofNat 16) ++
    p.ratedCharge.toList.map (BitVec.ofNat 16) ++ p.ratedDischarge.toList.map (BitVec.ofNat 16)

theorem Profile.stringWords_length (p : Profile) : p.stringWords.length = 41 := by
  simp [Profile.stringWords, List.length_flatMap, maskWords]

/-- A word of the stored copy behind those of the strings. -/
theorem Profile.natAt_words (p : Profile) (n : Nat) (tail : List Word) (h : p.words = p.stringWords ++ tail) :
    natAt p.words (41 + n) = (tail.getD n 0).toNat := by
  rw [natAt, wordAt, h, List.getD_append_right _ _ _ _ (by rw [Profile.stringWords_length]; omega),
    Profile.stringWords_length, Nat.add_sub_cancel_left]

/-- Hold times in their ranges survive the stored copy. -/
theorem holdsInRange_ofWords {p : Profile} (h : HoldsInRange p) : HoldsInRange (Profile.ofWords p.words) := by
  obtain ⟨hr, hv⟩ := h
  have e1 : natAt p.words (41 + 5) = (BitVec.ofNat 16 p.riseHold).toNat := Profile.natAt_words p 5 _ rfl
  have e2 : natAt p.words (41 + 20) = (BitVec.ofNat 16 p.revokedHold).toNat := Profile.natAt_words p 20 _ rfl
  rw [BitVec.toNat_ofNat] at e1 e2
  refine ⟨?_, ?_⟩
  · show natAt p.words (41 + 5) ≤ 60
    omega
  · show natAt p.words (41 + 20) ≤ 3600
    omega

theorem holdsInRange_default : HoldsInRange Profile.default := ⟨by decide, by decide⟩

/-- A field written within its range leaves the hold times in theirs. -/
theorem holdsInRange_write {p : Profile} (h : HoldsInRange p) (code : Nat) (i : Fin 8) (v : Nat)
    (hv : inRange code v = true) : HoldsInRange (p.write code i v) := by
  obtain ⟨hr, hk⟩ := h
  unfold Profile.write
  split
  case h_11 => simp [inRange, isThreshold, fieldRange] at hv; exact ⟨hv.2, hk⟩
  case h_26 => simp [inRange, isThreshold, fieldRange] at hv; exact ⟨hr, hv.2⟩
  all_goals exact ⟨hr, hk⟩

/-- The profile a load takes. -/
theorem holdsInRange_loaded {x : Stored} (h : x.agrees = true → HoldsInRange (Profile.ofWords x.words)) :
    HoldsInRange x.loaded := by
  unfold Stored.loaded
  split
  · next e => exact h e
  · exact holdsInRange_default

/-- An erased checksum agrees with no words. -/
@[simp] theorem Stored.agrees_erased (ws : List Word) : Stored.agrees ⟨ws, none⟩ = false := by
  simp [Stored.agrees]

end Sys2Proof.Machine
end

section
/-! SUPPORT. The breaker's transitions: outputs follow the state entered, and only a closing commands it closed. -/

namespace Sys2Proof.Machine

open Sys2Proof.Safety

/-- The outputs of the state's breaker are those of its record. -/
theorem breakerOutputsFollowState_iff (s : State) : BreakerOutputsFollowState s ↔ s.breaker.OutputsFollow := Iff.rfl

theorem Breaker.enter_follows (b : Breaker) (st : BreakerState) (now : Nat) : (b.enter st now).OutputsFollow := by
  obtain ⟨hs, hc, hp, hq⟩ := Breaker.enter_spec b st now
  simp only [Breaker.OutputsFollow, hs, hc, hp, hq, and_self]

theorem Breaker.enter_state (b : Breaker) (st : BreakerState) (now : Nat) : (b.enter st now).state = st :=
  (Breaker.enter_spec b st now).1

theorem Breaker.supervise_follows (b : Breaker) (now : Nat) (h : b.OutputsFollow) : (b.supervise now).OutputsFollow := by
  simpa only [Breaker.OutputsFollow, Breaker.supervise_state, Breaker.supervise_commandedClosed,
    Breaker.supervise_closePulse, Breaker.supervise_openPulse] using h

theorem Breaker.close_follows (b : Breaker) (now : Nat) : (b.close now).OutputsFollow := by
  simp only [Breaker.close]
  split <;> exact Breaker.enter_follows _ _ _

theorem Breaker.startOpening_follows (b : Breaker) (k : OpeningKind) (now : Nat) :
    (b.startOpening k now).OutputsFollow := by
  simp only [Breaker.startOpening]
  split <;> exact Breaker.enter_follows _ _ _

/-- An opening begun is OPENING, or its target where the feedback reads open (R154). -/
theorem Breaker.startOpening_state (b : Breaker) (k : OpeningKind) (now : Nat) :
    (b.startOpening k now).state =
      if b.feedback then .opening k (now + Config.breakerTime) else k.target := by
  simp only [Breaker.startOpening]
  split <;> simp [Breaker.enter_state]

@[simp] theorem OpeningKind.target_commandsClosed (k : OpeningKind) : k.target.commandsClosed = false := by
  cases k <;> rfl

theorem Breaker.startOpening_commandsClosed (b : Breaker) (k : OpeningKind) (now : Nat) :
    (b.startOpening k now).state.commandsClosed = false := by
  rw [Breaker.startOpening_state]
  split
  · rfl
  · exact k.target_commandsClosed

theorem Breaker.openNormally_follows (b : Breaker) (now : Nat) (h : b.OutputsFollow) :
    (b.openNormally now).OutputsFollow := by
  simp only [Breaker.openNormally]
  split
  · exact Breaker.startOpening_follows _ _ _
  · exact Breaker.startOpening_follows _ _ _
  all_goals exact h

theorem Breaker.openNormally_commandsClosed (b : Breaker) (now : Nat) :
    (b.openNormally now).state.commandsClosed = false := by
  simp only [Breaker.openNormally]
  split
  · exact Breaker.startOpening_commandsClosed _ _ _
  · exact Breaker.startOpening_commandsClosed _ _ _
  all_goals next e => rw [e]; rfl

theorem Breaker.trip_follows (b : Breaker) (now : Nat) (h : b.OutputsFollow) : (b.trip now).OutputsFollow := by
  simp only [Breaker.trip]
  split
  · exact Breaker.startOpening_follows _ _ _
  · exact Breaker.startOpening_follows _ _ _
  · next k e hs =>
    obtain ⟨hc, hp, hq⟩ := h
    rw [hs] at hc hp hq
    exact ⟨hc, ⟨fun x => absurd (hp.1 x) (by simp), by simp⟩, ⟨fun _ => ⟨_, _, rfl⟩, fun _ => hq.2 ⟨_, _, rfl⟩⟩⟩
  · exact Breaker.enter_follows _ _ _
  all_goals exact h

theorem Breaker.trip_commandsClosed (b : Breaker) (now : Nat) : (b.trip now).state.commandsClosed = false := by
  simp only [Breaker.trip]
  split
  · exact Breaker.startOpening_commandsClosed _ _ _
  · exact Breaker.startOpening_commandsClosed _ _ _
  · rfl
  · rw [Breaker.enter_state]; rfl
  all_goals next e => rw [e]; rfl

theorem Breaker.takeFeedback_follows (b : Breaker) (closed : Bool) (now : Nat) (h : b.OutputsFollow) :
    (b.takeFeedback closed now).OutputsFollow := by
  simp only [Breaker.takeFeedback]
  split
  · exact Breaker.enter_follows _ _ _
  · exact Breaker.enter_follows _ _ _
  · exact Breaker.supervise_follows _ _ h

/-- A change of feedback commands the breaker closed only where it was. -/
theorem Breaker.takeFeedback_commandsClosed (b : Breaker) (closed : Bool) (now : Nat)
    (h : (b.takeFeedback closed now).state.commandsClosed = true) : b.state.commandsClosed = true := by
  simp only [Breaker.takeFeedback] at h
  split at h
  · next e => rw [e]; rfl
  · rw [Breaker.enter_state, OpeningKind.target_commandsClosed] at h
    exact absurd h (by simp)
  · rwa [Breaker.supervise_state] at h

/-! ### The moves of single events -/

theorem State.openNormally_move (s : State) : s.BreakerMove (s.breaker.openNormally s.now) where
  outputs := Breaker.openNormally_follows _ _
  closes h := by rw [Breaker.openNormally_commandsClosed] at h; exact absurd h (by simp)

theorem State.enter_move (s : State) (st : BreakerState) (h : st.commandsClosed = false) :
    s.BreakerMove (s.breaker.enter st s.now) where
  outputs _ := Breaker.enter_follows _ _ _
  closes e := by rw [Breaker.enter_state, h] at e; exact absurd e (by simp)

theorem State.close_move (s : State) (h : s.connectLive = true) : s.BreakerMove (s.breaker.close s.now) where
  outputs _ := Breaker.close_follows _ _
  closes _ := .inr h

theorem State.takeFeedback_move (s : State) (closed : Bool) :
    s.BreakerMove (s.breaker.takeFeedback closed s.now) where
  outputs := Breaker.takeFeedback_follows _ _ _
  closes h := .inl (Breaker.takeFeedback_commandsClosed _ _ _ h)

/-- A Breaker Record whose state stands replaced: no flag is raised. -/
theorem State.setBreaker_of_state (s : State) (b : Breaker) (h : b.state = s.breaker.state) :
    s.setBreaker b = { s with breaker := b } := by
  simp [State.setBreaker, h, State.raiseIf]

/-- A Breaker Record replaced whose state and outputs stand. -/
theorem State.breaker_touch (s : State) (b : Breaker) (hs : b.state = s.breaker.state)
    (ho : s.breaker.OutputsFollow → b.OutputsFollow) : s.Touch { s with breaker := b } := by
  rw [← State.setBreaker_of_state s b hs]
  exact .breaker b ⟨ho, fun h => .inl (hs ▸ h)⟩

theorem State.setGrid_touch (s : State) (g : Conditioned Bool) : s.Touch (s.setGrid g) :=
  State.breaker_touch s { s.breaker with grid := g } rfl id

theorem State.setReconnect_touch (s : State) (e : Option Nat) (a : Bool) : s.Touch (s.setReconnect e a) :=
  State.breaker_touch s { s.breaker with reconnectEnd := e, gridAvailable := a } rfl id

end Sys2Proof.Machine
end

section
/-! SUPPORT. The course of every command but the two resets, and of every step. -/

namespace Sys2Proof.Machine

open Sys2Proof.Safety Sys2Proof.Claims

/-! ### Records and orders -/

theorem State.Course.ofTouch {s t : State} (h : s.Touch t) : s.Course true t := (State.Course.start s).touch h

theorem State.Course.ofEffect {s t : State} (h : s.Effect t) : s.Course false t := (State.Course.start s).effect h

theorem State.Course.ofFirst {s t : State} (h : s.First t) : s.Course false t :=
  (State.Course.start s).first rfl rfl h

theorem State.setString_mark_aside (s : State) (i : Fin 8) :
    s.Aside (s.setString i { s.strings[i.val] with bandChanged := false }) :=
  { State.Aside.refl s with
    strings := fun j => by
      rw [State.setString_strings, getElem_put]
      split
      · next e => subst e; rfl
      · rfl
    startUp := fun h k => absurd h k
    runner := fun h k => absurd h k }

/-- A handle resolves to the record of its slot. -/
theorem State.resolve_permit {s : State} {h : Handle} {i : Fin 48} {p : Permit} (e : s.resolve h = some (i, p)) :
    s.slots[i.val].permit = some p := ((State.resolve_eq_some s h i p).1 e).2.1

theorem ownerLookup_course (h : Word) (s : State) : s.Course true (ownerLookup h s).1 := by
  simp only [ownerLookup]
  split
  · exact .start s
  · next i p e => exact .ofTouch (.unmark i p (State.resolve_permit e))

theorem ownerFind_course (k j : Word) (s : State) : s.Course true (ownerFind k j s).1 := by
  simp only [ownerFind]
  split
  · exact .start s
  · exact .start s
  · split <;> exact .start s

theorem ownerNextChanged_course (s : State) : s.Course true (ownerNextChanged s).1 := by
  simp only [ownerNextChanged]
  split
  · exact .start s
  · split
    · exact .start s
    · next i _ _ p hp => exact .ofTouch (.unmark i p hp)

theorem ownerReadString_course (x page : Word) (s : State) : s.Course true (ownerReadString x page s).1 := by
  simp only [ownerReadString]
  split
  · exact .start s
  · next i _ =>
    have h : s.Course true (s.setString i { s.strings[i] with bandChanged := false }) :=
      .port (State.setString_mark_aside s i)
    split
    · exact h
    · split
      · exact h
      · exact .start s

theorem ownerReadModule_course (x a page : Word) (s : State) : s.Course true (ownerReadModule x a page s).1 := by
  simp only [ownerReadModule]
  split
  · exact .start s
  · split <;> exact .start s

theorem ownerReadBay_course (x : Word) (s : State) : s.Course true (ownerReadBay x s).1 := by
  simp only [ownerReadBay]
  split <;> exact .start s

theorem ownerReadConnection_course (x : Word) (s : State) : s.Course true (ownerReadConnection x s).1 := by
  simp only [ownerReadConnection]
  split
  · exact .start s
  · split <;> exact .start s

theorem ownerReadProfile_course (x y : Word) (s : State) : s.Course true (ownerReadProfile x y s).1 := by
  simp only [ownerReadProfile]
  split
  · exact .start s
  · split <;> exact .start s

theorem ownerGrant_course (op0 op1 op2 op3 op4 op5 : Word) (s : State) :
    s.Course true (ownerGrant op0 op1 op2 op3 op4 op5 s).1 := by
  simp only [ownerGrant]
  split
  · split
    · exact .start s
    · exact .start s
    · next kind holder _ _ _ _ i hr hi =>
      dsimp only
      exact (State.Course.ofFirst (.grant i kind holder op0 op1 op2 op3 op4 op5 hr hi)).settle (some i)
  · exact .start s

theorem ownerAmend_course (h change op2 op3 op4 op5 : Word) (s : State) :
    s.Course true (ownerAmend h change op2 op3 op4 op5 s).1 := by
  simp only [ownerAmend]
  split
  · exact .start s
  · next i p e =>
    split
    · exact .start s
    · next ho =>
        dsimp only
        exact (State.Course.ofEffect (.amend i p change op2 op3 op4 op5 (State.resolve_permit e) ho)).settled

theorem ownerRenew_course (h : Word) (s : State) : s.Course true (ownerRenew h s).1 := by
  simp only [ownerRenew]
  split
  · exact .start s
  · next i p e =>
    split
    · exact .start s
    · split
      · exact .start s
      · split
        · exact .start s
        · next hr => exact .ofTouch (.renew i p (State.resolve_permit e) hr)

theorem ownerRevoke_course (h : Word) (s : State) : s.Course true (ownerRevoke h s).1 := by
  simp only [ownerRevoke]
  split
  · exact .start s
  · split
    · exact .start s
    · dsimp only
      exact (State.Course.ofEffect (.revokeSlot .station true _)).settled

theorem ownerRetire_course (h : Word) (s : State) : s.Course true (ownerRetire h s).1 := by
  simp only [ownerRetire]
  split
  · exact .start s
  · next i p e =>
      dsimp only
      exact (State.Course.ofFirst (.retire i p (State.resolve_permit e))).settled

theorem ownerCloseBreaker_course (s : State) : s.Course true (ownerCloseBreaker s).1 := by
  simp only [ownerCloseBreaker]
  split
  · exact .start s
  · split
    · next h => exact .ofTouch (.breaker _ (State.close_move s h))
    · exact .start s
  all_goals exact .start s

theorem ownerOpenBreaker_course (s : State) : s.Course true (ownerOpenBreaker s).1 :=
  .ofTouch (.breaker _ (State.openNormally_move s))

theorem ownerResetBreaker_course (s : State) : s.Course true (ownerResetBreaker s).1 := by
  simp only [ownerResetBreaker]
  split
  · split
    · exact .start s
    · exact .ofTouch (.breaker _ (State.enter_move s .opened rfl))
  · split
    · exact .start s
    · exact .ofTouch (.breaker _ (State.enter_move s .opened rfl))
  all_goals exact .start s

/-- A state entered by a contactor that is OPEN or FAILED. -/
theorem Contactor.enter_move (c d : Contactor) (st : ContactorState) (now : Nat) (hf : d.fitted = c.fitted)
    (hs : st = .opened ∨ ∃ r, st = .failed r) : c.Move (d.enter st now) where
  fitted := (Contactor.enter_spec d st now).2.2.2.1.trans hf
  state := by
    right
    rw [AtRest, (Contactor.enter_spec d st now).1]
    exact hs
  outputs := by
    obtain ⟨h, hm, hp, -⟩ := Contactor.enter_spec d st now
    rw [h]
    exact .inr ⟨hm, hp⟩

theorem ownerClearContactor_course (x : Word) (s : State) : s.Course true (ownerClearContactor x s).1 := by
  simp only [ownerClearContactor]
  split
  · exact .start s
  · next i _ =>
    split
    · dsimp only
      exact (State.Course.ofEffect (.contactor i (s.contactors[i].cleared s.now)
        (Contactor.enter_move _ _ .opened s.now rfl (.inl rfl))
        (fun h => by rw [Contactor.cleared, (Contactor.enter_spec _ _ _).1] at h; cases h))).settled
    · exact .start s

theorem ownerResetBay_course (x : Word) (s : State) : s.Course true (ownerResetBay x s).1 := by
  simp only [ownerResetBay]
  split
  · exact .start s
  · next k _ =>
    have quiet : (∀ e, s.fire[k].state ≠ .released (some e)) → s.Course true (s.quietBay k).settle := fun h =>
      (State.Course.ofEffect (.quietBay k h)).settled
    split
    · exact .start s
    · exact .start s
    · exact .start s
    all_goals
      next h =>
      split
      · exact .start s
      · dsimp only
        exact quiet (fun e => by rw [h]; simp)

theorem ownerReleaseNow_course (x : Word) (s : State) : s.Course true (ownerReleaseNow x s).1 := by
  simp only [ownerReleaseNow]
  split
  · exact .start s
  · next k _ =>
    have release : s.fire[k].state.inAlarm = true → s.Course true (s.releaseBay k).settle := fun h =>
      (State.Course.ofEffect (.releaseBay k h)).settled
    split
    · next h => dsimp only; exact release (by rw [h]; rfl)
    · next h => dsimp only; exact release (by rw [h]; rfl)
    all_goals exact .start s

theorem ownerRollcall_course (x : Word) (s : State) : s.Course true (ownerRollcall x s).1 := by
  simp only [ownerRollcall]
  split
  · exact .start s
  · next b _ =>
    have request : s.Course true (s.setBus b s.buses[b].request) :=
      .port (State.setBus_aside s b _ ⟨rfl, rfl, id, id⟩)
    split
    · dsimp only
      exact ((State.Course.setBus (.start s) b s.buses[b].request rfl).switchToRollCall b).settled
    · exact request
    · exact request
    · exact request
    · exact .start s
    · exact .start s
    · exact .start s

theorem State.takeClock_aside (s : State) (x : SiteTime) : s.Aside (s.takeClock x) :=
  State.setUnit_aside s _ rfl rfl rfl id

theorem ownerSetClock_course (day second high : Word) (s : State) :
    s.Course true (ownerSetClock day second high s).1 := by
  simp only [ownerSetClock]
  split
  · exact .start s
  · dsimp only
    exact ((State.Course.port (State.takeClock_aside s _)).effect (.revokeWhere _ .expired)).settled

theorem State.changeMode_course (s : State) (m : Mode) : s.Course true (s.changeMode m) := by
  have h : s.Course false (s.setUnit { s.unit with mode := m }) := .ofEffect (.setMode m)
  simp only [State.changeMode]
  split
  · exact (h.effect (.revokeWhere _ .mode)).settled
  · exact h.settled

theorem ownerSetMode_course (x : Word) (s : State) : s.Course true (ownerSetMode x s).1 := by
  simp only [ownerSetMode]
  split
  · exact .start s
  · split
    · exact .start s
    · split
      · exact .start s
      · dsimp only
        exact s.changeMode_course _

theorem ownerWriteProfile_course (x y lo hi : Word) (s : State) : s.Course true (ownerWriteProfile x y lo hi s).1 := by
  simp only [ownerWriteProfile]
  split
  · exact .start s
  · split
    · next hv =>
      refine .port (State.setUnit_aside s _ rfl rfl rfl ?_)
      rintro ⟨ha, hw, hst⟩
      exact ⟨ha, holdsInRange_write hw _ _ _ hv, hst⟩
    · exact .start s

/-! ### Commits, loads and start-up -/

theorem State.beginCommit_aside (s : State) : s.Aside s.beginCommit :=
  State.setUnit_aside s _ rfl rfl rfl (fun ⟨ha, hw, _⟩ => ⟨ha, hw, fun h => by simp [State.setUnit] at h⟩)

theorem State.setWaiting_aside (s : State) : s.Aside s.setWaiting := by
  simp only [State.setWaiting]
  split
  · exact State.port_aside s s.orderMemory s.transaction _ s.attention s.answer
      (fun _ h => absurd ⟨_, _, _, _, _, rfl⟩ h)
  · exact .refl s
  · exact .refl s

theorem State.setWaiting_attention (s : State) : s.setWaiting.attention = s.attention := by
  simp only [State.setWaiting]
  split <;> rfl

theorem State.setWaiting_strings (s : State) : s.setWaiting.strings = s.strings := by
  simp only [State.setWaiting]
  split <;> rfl

theorem execCommitProfile_course (s t : State) (h : execCommitProfile s = .next t) : s.Course true t := by
  have begun : s.Course true s.beginCommit := .port s.beginCommit_aside
  simp only [execCommitProfile, Host.Outcome.next.injEq] at h
  subst h
  split
  · exact begun.aside (State.setWaiting_aside _) (.of_eq (State.setWaiting_attention _))
      (State.setWaiting_strings _)
  · split
    · exact .port (State.answer_aside s _)
    · exact begun

theorem State.endCommit_aside (s : State) : s.Aside s.endCommit :=
  State.setUnit_aside s _ rfl rfl rfl (fun ⟨ha, hw, _⟩ => ⟨ha, hw, fun _ => holdsInRange_ofWords hw⟩)

theorem State.handOut_course (s t : State) (p : Profile) (c : s.Course true t) (hs : t.slots = s.slots)
    (hr : t.strings = s.strings) (hp : t.unit.working = p) : s.Course false (t.handOut p) := by
  have h1 : s.Course false (t.refitUnit p) := c.first hs hr (.refit p hp)
  have h2 := ((h1.refitBuses t.unit.active p).effect (.refitContactors p)).effect (.refitCooling p)
  exact h2.aside (State.setLink_aside _ _ (by simp only [Link.refit]; split <;> rfl)) (.of_eq rfl) rfl

theorem State.answerCommit_course {s t : State} (c : s.Course true t) (a : Answer) :
    s.Course true (t.answerCommit a) := by
  have given : s.Course true { t with answer := some a } := c.aside (State.answer_aside t _) (.of_eq rfl) rfl
  simp only [State.answerCommit]
  split
  · exact c.aside (State.answerOrder_aside t _ _ _ a) (State.answerOrder_announces t _ _ _ a).1
      (State.answerOrder_strings t _ _ _ a)
  all_goals exact given

theorem execCommitComplete_course (s t : State) (h : execCommitComplete s = .next t) : s.Course true t := by
  simp only [execCommitComplete, Host.Outcome.next.injEq] at h
  subst h
  split
  · exact .start s
  · exact State.answerCommit_course
      (State.handOut_course s s.endCommit s.unit.working (.port s.endCommit_aside) rfl rfl rfl).settled _

theorem State.handLoaded_course (s t : State) (p : Profile)
    (c : s.Course false { t with strings := tab8 fun i => { t.strings[i] with fitted := p.isFitted i } }) :
    s.Course false (t.handLoaded p) := by
  have h := foldl_keeps (s.Course false) (loadBus p) (fun _ b h => h.loadBus p b) allStrings _ c
  exact (h.effect (.loadContactors p)).effect (.opened _ rfl)

theorem execStartUpProfileLoad_course (s t : State) (h : execStartUpProfileLoad s = .next t) : s.Course true t := by
  simp only [execStartUpProfileLoad, Host.Outcome.next.injEq] at h
  subst h
  split
  · exact .start s
  · next hl =>
    refine State.Course.settled (State.handLoaded_course s _ _ ?_)
    have h := State.Course.ofFirst (State.First.load (s := s) (by simpa using hl))
    rw [State.loadUnit] at h
    simpa using h

theorem State.endStartUp_course (s : State) (cause : StartEnd) : s.Course true (s.endStartUp cause) :=
  .port { State.Aside.refl s with
    startUp := fun _ _ => State.raise_flagged_self _ _
    runner := fun h k => absurd h k }

/-! ### Permit timers, key and door -/

theorem execLeaseLapse_course (i : Fin 48) (s t : State) (h : execLeaseLapse i s = .next t) : s.Course true t := by
  simp only [execLeaseLapse, Host.Outcome.next.injEq] at h
  subst h
  split
  · split
    · exact (State.Course.ofEffect (.revokeSlot .lease false i)).settled
    · exact .start s
  · exact .start s

theorem execRiseHoldEnd_course (i : Fin 48) (s t : State) (h : execRiseHoldEnd i s = .next t) : s.Course true t := by
  simp only [execRiseHoldEnd, Host.Outcome.next.injEq] at h
  subst h
  split
  · exact .start s
  · next p hp =>
    split
    · exact .start s
    · next l hl =>
      split
      · exact .start s
      · next r hr =>
        split
        · next hs => exact (State.Course.ofEffect (.riseEnd i p l r hp hl hr hs)).settled
        · exact .start s

theorem execRevokedHoldEnd_course (i : Fin 48) (s t : State) (h : execRevokedHoldEnd i s = .next t) :
    s.Course true t := by
  simp only [execRevokedHoldEnd, Host.Outcome.next.injEq] at h
  subst h
  split
  · next p hp =>
    split
    · exact ((State.Course.ofFirst (.retire i p hp)).aside (State.raise_aside _ .permit)
        (State.raise_keepsFlags _ _) rfl).settled
    · exact .start s
  · exact .start s

theorem State.setKey_aside (s : State) (x : Bool) : s.Aside (s.setKey x) :=
  { State.Aside.refl s with
    startUp := fun h k => absurd h k
    runner := fun h k => absurd h k }

theorem execCrewKeyChange_course (x : Bool) (s t : State) (h : execCrewKeyChange x s = .next t) : s.Course true t := by
  simp only [execCrewKeyChange, Host.Outcome.next.injEq] at h
  subst h
  split
  · exact .start s
  · split
    · exact .port (State.setKey_aside s _)
    · exact ((State.Course.port (State.setKey_aside s _)).effect (.revokeWhere _ .key)).settled

theorem State.door_aside (s : State) (d : Conditioned Bool) : s.Aside { s with door := d } :=
  { State.Aside.refl s with
    startUp := fun h k => absurd h k
    runner := fun h k => absurd h k }

theorem execDoorTaken_course (s t : State) (h : execDoorTaken s = .next t) : s.Course true t := by
  simp only [execDoorTaken, Host.Outcome.next.injEq] at h
  subst h
  split
  · exact (State.Course.port (State.door_aside s _)).settle none
  · exact .start s

end Sys2Proof.Machine
end

section
/-! SUPPORT. The course of the plant's and the link's commands, and so of every step but that of a reset. -/

namespace Sys2Proof.Machine

open Sys2Proof.Safety Sys2Proof.Claims

/-! ### Buses -/

theorem execSelftestEnd_course (b : Fin 8) (x y : Option BusChar) (s t : State)
    (h : execSelftestEnd b x y s = .next t) : s.Course true t := by
  simp only [execSelftestEnd, Host.Outcome.next.injEq] at h
  subst h
  split
  · exact ((State.Course.start s).endSelfTest b x y).settled
  all_goals exact .start s

/-- A bus record whose state changes neither to or from POLLING nor to FAILED or STUCK, its roster standing. -/
theorem Bus.aside_of_state (b c : Bus) (hp : b.state ≠ .polling) (hq : c.state ≠ .polling) (hr : c.roster = b.roster)
    (hf : ∀ p, c.state ≠ .failed p) (hs : ∀ l e, c.state ≠ .stuck l e) : b.Aside c where
  polling := by
    rw [Bus.isPolling, Bus.isPolling, beq_eq_false_iff_ne.2 hp, beq_eq_false_iff_ne.2 hq]
  roster := hr
  failed := fun ⟨p, e⟩ => absurd e (hf p)
  stuck := fun ⟨l, x, e⟩ => absurd e (hs l x)

theorem execWakePulseEnd_course (b : Fin 8) (s t : State) (h : execWakePulseEnd b s = .next t) : s.Course true t := by
  simp only [execWakePulseEnd, Host.Outcome.next.injEq] at h
  subst h
  split
  · next p e he =>
    exact .port (State.setBus_aside s b _ (Bus.aside_of_state _ _ (by rw [← Fin.getElem_fin, he]; simp) (by simp) rfl
      (by simp) (by simp)))
  all_goals exact .start s

theorem execWakeEnd_course (b : Fin 8) (s t : State) (h : execWakeEnd b s = .next t) : s.Course true t := by
  simp only [execWakeEnd, Host.Outcome.next.injEq] at h
  subst h
  split
  · exact ((State.Course.start s).moveBus b (s.buses[b].enterRollCall s.now) (by simp [Bus.enterRollCall])
      (by simp [Bus.enterRollCall])).settled
  all_goals exact .start s

theorem execStuckRetryEnd_course (b : Fin 8) (s t : State) (h : execStuckRetryEnd b s = .next t) :
    s.Course true t := by
  simp only [execStuckRetryEnd, Host.Outcome.next.injEq] at h
  subst h
  split
  · next l e he =>
    exact .port (State.setBus_aside s b _ (Bus.aside_of_state _ _ (by rw [← Fin.getElem_fin, he]; simp)
      (by simp [Bus.wake]) rfl (by simp [Bus.wake]) (by simp [Bus.wake])))
  all_goals exact .start s

theorem execStuckLine_course (b : Fin 8) (w : LineWatch) (s t : State) (h : execStuckLine b w s = .next t) :
    s.Course true t := by
  simp only [execStuckLine, Host.Outcome.next.injEq] at h
  subst h
  split
  · exact ((State.Course.start s).goStuck b w.level).settled
  · exact .start s

theorem execEchoError_course (b : Fin 8) (n : Nat) (r : Samples) (s t : State) (h : execEchoError b n r s = .next t) :
    s.Course true t := by
  simp only [execEchoError, Host.Outcome.next.injEq] at h
  subst h
  split
  · exact .start s
  · split
    · exact .start s
    · split
      · exact .start s
      · exact .port (State.setBus_aside s b _ ⟨rfl, rfl, id, id⟩)

theorem execIdleGapEnd_course (b : Fin 8) (s t : State) (h : execIdleGapEnd b s = .next t) : s.Course true t := by
  simp only [execIdleGapEnd, Host.Outcome.next.injEq] at h
  subst h
  split
  · exact ((State.Course.start s).endGap b _).settled
  · exact .start s

theorem execPollRoundStart_course (b : Fin 8) (s t : State) (h : execPollRoundStart b s = .next t) :
    s.Course true t := by
  simp only [execPollRoundStart, Host.Outcome.next.injEq] at h
  subst h
  split
  · exact ((State.Course.start s).startRound b).settled
  · exact .start s

theorem execSummaryAnswer_course (b : Fin 8) (x : List BusChar) (s t : State) (h : execSummaryAnswer b x s = .next t) :
    s.Course true t := by
  simp only [execSummaryAnswer, Host.Outcome.next.injEq] at h
  subst h
  split
  · exact s.endExchange_course b _ x
  · exact .start s

theorem execProbeAnswer_course (b : Fin 8) (x : List BusChar) (s t : State) (h : execProbeAnswer b x s = .next t) :
    s.Course true t := by
  simp only [execProbeAnswer, Host.Outcome.next.injEq] at h
  subst h
  split
  · exact s.endExchange_course b _ x
  · exact .start s

theorem execResponseWindowEnd_course (b : Fin 8) (x : List BusChar) (s t : State)
    (h : execResponseWindowEnd b x s = .next t) : s.Course true t := by
  simp only [execResponseWindowEnd, Host.Outcome.next.injEq] at h
  subst h
  exact s.endExchange_course b _ x

theorem execTargetFrameEnd_course (b : Fin 8) (s t : State) (h : execTargetFrameEnd b s = .next t) :
    s.Course true t := by
  simp only [execTargetFrameEnd, Host.Outcome.next.injEq] at h
  subst h
  split
  · exact ((State.Course.start s).endTarget b _).settled
  · exact .start s

theorem State.tick_aside (s : State) : s.Aside s.tick :=
  { State.Aside.refl s with
    buses := fun b => by
      simp only [State.tick, getElem_tab8, Bus.build]
      split
      · split
        · exact ⟨rfl, rfl, id, id⟩
        · exact .refl _
      · exact .refl _
    startUp := fun h k => absurd h k
    runner := fun h k => absurd h k
    now := Nat.le_succ _ }

/-! ### Bays -/

theorem execSmokeLineChange_course (k : Fin 4) (l : SmokeId) (x : SmokePair) (s t : State)
    (h : execSmokeLineChange k l x s = .next t) : s.Course true t := by
  simp only [execSmokeLineChange, Host.Outcome.next.injEq] at h
  subst h
  split
  · exact .start s
  · refine .port (State.setFire_aside s k _ ?_)
    cases l <;> exact ⟨rfl, rfl, rfl, rfl⟩

/-- Inputs of a bay taken: smoke lines and hold button. -/
theorem State.setLine_effect (s : State) (k : Fin 4) (l : SmokeId) (x : SmokeLine) :
    s.Effect (s.setFire k ((s.fire[k.val]).setLine l x)) := by
  cases l
  · exact .fireInputs k x s.fire[k.val].smokeB s.fire[k.val].hold
  · exact .fireInputs k s.fire[k.val].smokeA x s.fire[k.val].hold

theorem execSmokeConditionTaken_course (k : Fin 4) (l : SmokeId) (s t : State)
    (h : execSmokeConditionTaken k l s = .next t) : s.Course true t := by
  simp only [execSmokeConditionTaken, Host.Outcome.next.injEq] at h
  subst h
  split
  · exact .start s
  · exact (State.Course.ofEffect (State.setLine_effect s k l _)).settled

theorem execHoldButtonChange_course (k : Fin 4) (x : Bool) (s t : State) (h : execHoldButtonChange k x s = .next t) :
    s.Course true t := by
  simp only [execHoldButtonChange, Host.Outcome.next.injEq] at h
  subst h
  split
  · exact .start s
  · exact .port (State.setFire_aside s k _ ⟨rfl, rfl, rfl, rfl⟩)

theorem execHoldButtonTaken_course (k : Fin 4) (s t : State) (h : execHoldButtonTaken k s = .next t) :
    s.Course true t := by
  simp only [execHoldButtonTaken, Host.Outcome.next.injEq] at h
  subst h
  split
  · exact (State.Course.ofEffect
      (.fireInputs k s.fire[k.val].smokeA s.fire[k.val].smokeB s.fire[k.val].hold.take)).settled
  · exact .start s

theorem execCountdownEnd_course (k : Fin 4) (s t : State) (h : execCountdownEnd k s = .next t) : s.Course true t := by
  simp only [execCountdownEnd, Host.Outcome.next.injEq] at h
  subst h
  split
  · next e he => exact (State.Course.ofEffect (.releaseBay k (by rw [← Fin.getElem_fin, he]; rfl))).settled
  all_goals exact .start s

theorem execReleasePulseEnd_course (k : Fin 4) (s t : State) (h : execReleasePulseEnd k s = .next t) :
    s.Course true t := by
  simp only [execReleasePulseEnd, Host.Outcome.next.injEq] at h
  subst h
  split
  · next e he => exact .ofTouch (.pulseEnd k e he)
  all_goals exact .start s

theorem execRunOnEnd_course (k : Fin 4) (s t : State) (h : execRunOnEnd k s = .next t) : s.Course true t := by
  simp only [execRunOnEnd, Host.Outcome.next.injEq] at h
  subst h
  split
  · have h : s.Effect (s.setCooling k ((s.cooling[k].stepDown s.now s.unit.active.runOn).drive s.now)) :=
      .cool k _ rfl
    exact (State.Course.ofEffect h).settled
  · exact .start s

theorem execFlowSwitchChange_course (k : Fin 4) (x : Bool) (s t : State) (h : execFlowSwitchChange k x s = .next t) :
    s.Course true t := by
  simp only [execFlowSwitchChange, Host.Outcome.next.injEq] at h
  subst h
  split
  · exact .start s
  · exact .ofTouch (.flow k x)

theorem execFlowTimerEnd_course (k : Fin 4) (s t : State) (h : execFlowTimerEnd k s = .next t) : s.Course true t := by
  simp only [execFlowTimerEnd, Host.Outcome.next.injEq] at h
  subst h
  split
  · exact .start s
  · exact (State.Course.ofEffect (.flowFault k _)).settled

/-! ### Contactors and breaker -/

/-- A contactor record whose state and outputs stand. -/
theorem Contactor.move_of_state (c d : Contactor) (hf : d.fitted = c.fitted) (hs : d.state = c.state)
    (hm : d.mainClosed = c.mainClosed) (hp : d.prechargeClosed = c.prechargeClosed) : c.Move d :=
  ⟨hf, .inl hs, .inl ⟨hm, hp, hs⟩⟩

theorem Contactor.timeOut_move (c : Contactor) (now : Nat) : c.Move (c.timeOut now) := by
  simp only [Contactor.timeOut]
  split
  · exact Contactor.enter_move _ _ _ _ rfl (.inl rfl)
  · exact Contactor.enter_move _ _ _ _ rfl (.inr ⟨_, rfl⟩)

theorem execPrechargeTimeout_course (i : Fin 8) (s t : State) (h : execPrechargeTimeout i s = .next t) :
    s.Course true t := by
  simp only [execPrechargeTimeout, Host.Outcome.next.injEq] at h
  subst h
  split
  · exact (State.Course.ofEffect (.replaceContactor i _ (Contactor.timeOut_move _ s.now))).settled
  all_goals exact .start s

theorem execPrechargeRetryEnd_course (i : Fin 8) (s t : State) (h : execPrechargeRetryEnd i s = .next t) :
    s.Course true t := by
  simp only [execPrechargeRetryEnd, Host.Outcome.next.injEq] at h
  subst h
  split
  · exact (State.Course.ofEffect (.contactor i { s.contactors[i] with retryEnd := none }
      (Contactor.move_of_state _ _ rfl rfl rfl rfl) id)).settled
  · exact .start s

theorem execDrainEnd_course (i : Fin 8) (s t : State) (h : execDrainEnd i s = .next t) : s.Course true t := by
  simp only [execDrainEnd, Host.Outcome.next.injEq] at h
  subst h
  split
  · exact (State.Course.ofEffect (.contactor i (s.contactors[i].enter .opened s.now)
      (Contactor.enter_move _ _ .opened s.now rfl (.inl rfl))
      (fun h => by rw [(Contactor.enter_spec _ _ _).1] at h; cases h))).settled
  all_goals exact .start s

theorem execMainFeedbackChange_course (i : Fin 8) (x : Bool) (s t : State)
    (h : execMainFeedbackChange i x s = .next t) : s.Course true t := by
  simp only [execMainFeedbackChange, Host.Outcome.next.injEq] at h
  subst h
  split
  · exact .start s
  · refine .port (State.setContactor_aside s i _ ?_)
    exact ⟨by simp, by simp, by simp, by simp, by simp, by simp⟩

theorem execContactorFeedbackTimerEnd_course (i : Fin 8) (s t : State)
    (h : execContactorFeedbackTimerEnd i s = .next t) : s.Course true t := by
  simp only [execContactorFeedbackTimerEnd, Host.Outcome.next.injEq] at h
  subst h
  split
  · exact (State.Course.ofEffect (.replaceContactor i (s.contactors[i].failFeedback s.now)
      (Contactor.enter_move _ _ _ s.now rfl (.inr ⟨_, rfl⟩)))).settled
  · exact .start s

theorem execBreakerFeedbackChange_course (x : Bool) (s t : State) (h : execBreakerFeedbackChange x s = .next t) :
    s.Course true t := by
  simp only [execBreakerFeedbackChange, Host.Outcome.next.injEq] at h
  subst h
  split
  · exact .start s
  · exact .ofTouch (.breaker _ (State.takeFeedback_move s x))

theorem execBreakerWindowEnd_course (s t : State) (h : execBreakerWindowEnd s = .next t) : s.Course true t := by
  simp only [execBreakerWindowEnd, Host.Outcome.next.injEq] at h
  subst h
  split
  · exact .ofTouch (.breaker _ (State.enter_move s _ rfl))
  · exact .ofTouch (.breaker _ (State.enter_move s _ rfl))
  all_goals exact .start s

theorem execBreakerFeedbackTimerEnd_course (s t : State) (h : execBreakerFeedbackTimerEnd s = .next t) :
    s.Course true t := by
  simp only [execBreakerFeedbackTimerEnd, Host.Outcome.next.injEq] at h
  subst h
  split
  · exact .ofTouch (.breaker _ (State.enter_move s _ rfl))
  · exact .start s

theorem execGridHealthyChange_course (x : Bool) (s t : State) (h : execGridHealthyChange x s = .next t) :
    s.Course true t := by
  simp only [execGridHealthyChange, Host.Outcome.next.injEq] at h
  subst h
  split
  · exact .start s
  · exact .ofTouch (State.setGrid_touch s _)

theorem execGridHealthyTaken_course (s t : State) (h : execGridHealthyTaken s = .next t) : s.Course true t := by
  have taken : s.Course true (s.setGrid s.breaker.grid.take) := .ofTouch (State.setGrid_touch s _)
  simp only [execGridHealthyTaken, Host.Outcome.next.injEq] at h
  subst h
  split
  · exact .start s
  · split
    · exact taken
    · split
      · exact taken.touch (State.setReconnect_touch _ _ _)
      · exact (taken.effect .gridFalls).settled

theorem execReconnectDelayEnd_course (s t : State) (h : execReconnectDelayEnd s = .next t) : s.Course true t := by
  simp only [execReconnectDelayEnd, Host.Outcome.next.injEq] at h
  subst h
  split
  · exact (State.Course.ofEffect .gridReturns).settled
  · exact .start s

/-! ### The converter link -/

/-- A link record replaced whose state stands, with a flag where the event raises one. -/
theorem State.setLink_raise_aside (s : State) (l : Link) (f : Flag) (h : l.state = s.link.state) :
    s.Aside ((s.setLink l).raise f) :=
  { State.Aside.refl s with
    link := h
    startUp := fun h k => absurd h k
    runner := fun h k => absurd h k }

/-- The link after a valid frame was heard: it is UP, announced where it was DOWN (R165). -/
theorem State.linkAlive_effect (s : State) : s.Effect s.linkAlive := by
  refine .linkState ?_ (State.raiseIf_keepsFlags (s.setLink { s.link with
    state := .up (s.now + Config.ms (100 * s.unit.active.linkTimeout)), buffer := [] }) _ .link) fun h => ?_
  · obtain ⟨x, e⟩ := State.raiseIf_frame (s.setLink
      { s.link with state := .up (s.now + Config.ms (100 * s.unit.active.linkTimeout)), buffer := [] })
      (s.link.state == .down) .link
    rw [State.linkAlive, e]
    rfl
  · refine State.raiseIf_flagged_self _ _ _ ?_
    simpa [State.linkAlive, State.setLink] using h

theorem State.overrun_course (s : State) : s.Course false s.overrun :=
  (State.Course.ofEffect (State.linkAlive_effect s)).aside (State.setLink_raise_aside _ _ .link rfl)
    (State.raise_keepsFlags _ _) rfl

@[simp] theorem State.linkAlive_slots (s : State) : s.linkAlive.slots = s.slots := by simp [State.linkAlive]

@[simp] theorem State.linkAlive_strings (s : State) : s.linkAlive.strings = s.strings := by simp [State.linkAlive]

@[simp] theorem State.storeDc_slots (s : State) (f : InFrame) : (s.storeDc f).slots = s.slots := by
  simp only [State.storeDc]
  split <;> simp

@[simp] theorem State.storeDc_strings (s : State) (f : InFrame) : (s.storeDc f).strings = s.strings := by
  simp only [State.storeDc]
  split <;> simp

theorem State.Course.storeDc {s t : State} (c : s.Course false t) (f : InFrame) : s.Course false (t.storeDc f) := by
  simp only [State.storeDc]
  split
  · exact (c.aside (State.setLink_aside t { t.link with dc := some ⟨f.valueA.toNat, t.now, f.valueB.toInt⟩ } rfl)
      (.of_eq rfl) rfl).effect .checkMatch
  all_goals exact c

/-- What the Permit Manager does with a frame, on a table that the event has not touched. -/
theorem State.Course.permitFrame {s t : State} (c : s.Course false t) (hs : t.slots = s.slots)
    (hr : t.strings = s.strings) (kind : InKind) (h : Handle) (v : Word) : s.Course false (t.permitFrame kind h v).1 := by
  simp only [State.permitFrame]
  split
  · exact c
  · next i p e =>
    have hp := State.resolve_permit e
    split
    · exact c
    · split
      · exact (c.first hs hr (.retire i p hp)).aside (State.raise_aside _ .permit) (State.raise_keepsFlags _ _) rfl
      · exact c
      · split
        · exact c
        · next hn => exact c.touch (.renew i p hp hn)
      · split
        · exact c
        · next hn =>
          simp only [State.takeReduce]
          split
          · exact c
          · next h0 =>
            split
            · exact c
            · next hl => exact c.effect (.reduce i p v.toNat hp hn (by omega) (by omega))

theorem State.takeFrame_course (s : State) (f : InFrame) : s.Course true (s.takeFrame f) := by
  simp only [State.takeFrame]
  split
  · exact .start s
  · split
    · exact s.overrun_course.settled
    · have h := ((State.Course.ofEffect (State.linkAlive_effect s)).storeDc f).permitFrame (by simp) (by simp)
        f.kind f.handle f.valueA
      exact State.Course.settled (h.aside (State.setLink_aside _ _ rfl) (.of_eq rfl) rfl)

theorem State.badFrame_course (s : State) (c : BadCause) (b : List RxChar) : s.Course true (s.badFrame c b) :=
  .port (State.setLink_raise_aside s _ .link rfl)

theorem State.takeCharacter_course (s : State) (c : RxChar) : s.Course true (s.takeCharacter c) := by
  simp only [State.takeCharacter]
  split
  · exact .port (State.setLink_aside s _ rfl)
  · exact .start s
  · exact s.badFrame_course _ _
  · simp only [State.joinFrame]
    split
    · exact .port (State.setLink_aside s _ rfl)
    · simp only [State.judgeNine]
      split
      · exact s.takeFrame_course _
      · exact s.badFrame_course _ _

theorem execBadFrame_course (x : BadEnd) (s t : State) (h : execBadFrame x s = .next t) : s.Course true t := by
  simp only [execBadFrame, Host.Outcome.next.injEq] at h
  subst h
  split
  · exact .start s
  · exact s.badFrame_course _ _

theorem execLinkCharacterTaken_course (x : LinkChar) (s t : State) (h : execLinkCharacterTaken x s = .next t) :
    s.Course true t := by
  simp only [execLinkCharacterTaken, Host.Outcome.next.injEq] at h
  subst h
  split
  · exact s.takeCharacter_course _
  · exact .start s

theorem execLinkTimeout_course (s t : State) (h : execLinkTimeout s = .next t) : s.Course true t := by
  simp only [execLinkTimeout, Host.Outcome.next.injEq] at h
  subst h
  split
  · have h : s.Effect ((s.setLink { s.link with state := .down }).raise .link) :=
      .linkState rfl (State.raise_keepsFlags (s.setLink { s.link with state := .down }) .link)
        (fun _ => State.raise_flagged_self _ _)
    exact (State.Course.ofEffect h).settled
  · exact .start s

theorem execFrameSent_course (s t : State) (h : execFrameSent s = .next t) : s.Course true t := by
  simp only [execFrameSent, Host.Outcome.next.injEq] at h
  subst h
  split
  · exact .port (State.setLink_aside s _ rfl)
  all_goals exact .start s

theorem execTransmitGapEnd_course (s t : State) (h : execTransmitGapEnd s = .next t) : s.Course true t := by
  simp only [execTransmitGapEnd, Host.Outcome.next.injEq] at h
  subst h
  split
  · exact (State.Course.port (State.setLink_aside s { s.link with transmitter := .idle } rfl)).touch .transmit
  all_goals exact .start s

/-! ### Every command and every step -/

theorem State.expiryCheck_effect (s : State) : s.Effect s.expiryCheck := .revokeWhere _ _

/-- The course of every command but the two resets. -/
theorem exec_course (c : Instr) (s t : State) (hp : c ≠ .powerOn) (hr : c ≠ .resetLine) (h : exec c s = .next t) :
    s.Course true t := by
  cases c with
  | powerOn => exact absurd rfl hp
  | resetLine => exact absurd rfl hr
  | startUpProfileLoad => exact execStartUpProfileLoad_course  s t h
  | startUpTimeLimit =>
    simp only [exec, execStartUpTimeLimit, Host.Outcome.next.injEq] at h
    subst h
    split
    · exact s.endStartUp_course _
    · exact .start s
  | siteClockAdvance =>
    simp only [exec, execSiteClockAdvance, Host.Outcome.next.injEq] at h
    subst h
    exact ((State.Course.port (State.takeClock_aside s _)).effect (State.expiryCheck_effect _)).settled
  | run _ => cases h; exact .port (State.runCommand_wrote_aside s _ _)
  | stop => cases h; exact .port (State.stopCommand_wrote_aside s _)
  | orderMemoryWrite _ _ _ => cases h; exact .port (State.windowWrite_wrote_aside s _ _ _)
  | attentionSummaryWrite _ => cases h; exact .port (State.windowWrite_wrote_aside s _ _ _)
  | attentionEnableWrite _ => cases h; exact .port (State.windowWrite_wrote_aside s _ _ _)
  | windowWriteOther _ _ => cases h; exact .port (State.windowWrite_wrote_aside s _ _ _)
  | lookup _ => cases h; exact s.takeOrder_course _ _ (ownerLookup_course _ s)
  | find _ _ => cases h; exact s.takeOrder_course _ _ (ownerFind_course _ _ s)
  | nextChanged => cases h; exact s.takeOrder_course _ _ (ownerNextChanged_course s)
  | readString _ _ => cases h; exact s.takeOrder_course _ _ (ownerReadString_course _ _ s)
  | readModule _ _ _ => cases h; exact s.takeOrder_course _ _ (ownerReadModule_course _ _ _ s)
  | readBay _ => cases h; exact s.takeOrder_course _ _ (ownerReadBay_course _ s)
  | readConnection _ => cases h; exact s.takeOrder_course _ _ (ownerReadConnection_course _ s)
  | readLink => cases h; exact s.takeOrder_course _ _ (.port (State.setLink_aside s { s.link with overrun := false } rfl))
  | readClock => cases h; exact s.takeOrder_course _ _ (.start s)
  | readProfile _ _ => cases h; exact s.takeOrder_course _ _ (ownerReadProfile_course _ _ s)
  | grant _ _ _ _ _ _ => cases h; exact s.takeOrder_course _ _ (ownerGrant_course _ _ _ _ _ _ s)
  | amend _ _ _ _ _ _ => cases h; exact s.takeOrder_course _ _ (ownerAmend_course _ _ _ _ _ _ s)
  | renew _ => cases h; exact s.takeOrder_course _ _ (ownerRenew_course _ s)
  | revoke _ => cases h; exact s.takeOrder_course _ _ (ownerRevoke_course _ s)
  | retire _ => cases h; exact s.takeOrder_course _ _ (ownerRetire_course _ s)
  | closeBreaker => cases h; exact s.takeOrder_course _ _ (ownerCloseBreaker_course s)
  | openBreaker => cases h; exact s.takeOrder_course _ _ (ownerOpenBreaker_course s)
  | resetBreaker => cases h; exact s.takeOrder_course _ _ (ownerResetBreaker_course s)
  | clearContactor _ => cases h; exact s.takeOrder_course _ _ (ownerClearContactor_course _ s)
  | resetBay _ => cases h; exact s.takeOrder_course _ _ (ownerResetBay_course _ s)
  | releaseNow _ => cases h; exact s.takeOrder_course _ _ (ownerReleaseNow_course _ s)
  | rollcall _ => cases h; exact s.takeOrder_course _ _ (ownerRollcall_course _ s)
  | setClock _ _ _ => cases h; exact s.takeOrder_course _ _ (ownerSetClock_course _ _ _ s)
  | setMode _ => cases h; exact s.takeOrder_course _ _ (ownerSetMode_course _ s)
  | writeProfile _ _ _ _ => cases h; exact s.takeOrder_course _ _ (ownerWriteProfile_course _ _ _ _ s)
  | commitProfile => exact execCommitProfile_course  s t h
  | commitComplete => exact execCommitComplete_course  s t h
  | leaseLapse _ => exact execLeaseLapse_course _ s t h
  | riseHoldEnd _ => exact execRiseHoldEnd_course _ s t h
  | revokedHoldEnd _ => exact execRevokedHoldEnd_course _ s t h
  | crewKeyChange _ => exact execCrewKeyChange_course _ s t h
  | doorContactChange _ =>
    simp only [exec, execDoorContactChange, Host.Outcome.next.injEq] at h
    subst h
    split
    · exact .start s
    · exact .port (State.door_aside s _)
  | doorTaken => exact execDoorTaken_course  s t h
  | selftestEnd _ _ _ => exact execSelftestEnd_course _ _ _ s t h
  | wakeEnd _ => exact execWakeEnd_course _ s t h
  | stuckRetryEnd _ => exact execStuckRetryEnd_course _ s t h
  | stuckLine _ _ => exact execStuckLine_course _ _ s t h
  | echoError _ _ _ => exact execEchoError_course _ _ _ s t h
  | idleGapEnd _ => exact execIdleGapEnd_course _ s t h
  | pollRoundStart _ => exact execPollRoundStart_course _ s t h
  | summaryAnswer _ _ => exact execSummaryAnswer_course _ _ s t h
  | probeAnswer _ _ => exact execProbeAnswer_course _ _ s t h
  | responseWindowEnd _ _ => exact execResponseWindowEnd_course _ _ s t h
  | targetFrameEnd _ => exact execTargetFrameEnd_course _ s t h
  | smokeLineChange _ _ _ => exact execSmokeLineChange_course _ _ _ s t h
  | smokeConditionTaken _ _ => exact execSmokeConditionTaken_course _ _ s t h
  | holdButtonChange _ _ => exact execHoldButtonChange_course _ _ s t h
  | holdButtonTaken _ => exact execHoldButtonTaken_course _ s t h
  | countdownEnd _ => exact execCountdownEnd_course _ s t h
  | releasePulseEnd _ => exact execReleasePulseEnd_course _ s t h
  | runOnEnd _ => exact execRunOnEnd_course _ s t h
  | flowSwitchChange _ _ => exact execFlowSwitchChange_course _ _ s t h
  | flowTimerEnd _ => exact execFlowTimerEnd_course _ s t h
  | prechargeTimeout _ => exact execPrechargeTimeout_course _ s t h
  | prechargeRetryEnd _ => exact execPrechargeRetryEnd_course _ s t h
  | drainEnd _ => exact execDrainEnd_course _ s t h
  | mainFeedbackChange _ _ => exact execMainFeedbackChange_course _ _ s t h
  | contactorFeedbackTimerEnd _ => exact execContactorFeedbackTimerEnd_course _ s t h
  | breakerFeedbackChange _ => exact execBreakerFeedbackChange_course _ s t h
  | breakerWindowEnd => exact execBreakerWindowEnd_course  s t h
  | breakerFeedbackTimerEnd => exact execBreakerFeedbackTimerEnd_course  s t h
  | gridHealthyChange _ => exact execGridHealthyChange_course _ s t h
  | gridHealthyTaken => exact execGridHealthyTaken_course  s t h
  | reconnectDelayEnd => exact execReconnectDelayEnd_course  s t h
  | renewFrame _ _ _ _ _ => cases h; exact s.takeFrame_course _
  | reduceFrame _ _ _ _ => cases h; exact s.takeFrame_course _
  | handbackFrame _ _ _ => cases h; exact s.takeFrame_course _
  | queryFrame _ _ _ => cases h; exact s.takeFrame_course _
  | badFrame _ => exact execBadFrame_course _ s t h
  | linkTimeout => exact execLinkTimeout_course  s t h
  | frameSent => exact execFrameSent_course  s t h
  | transmitGapEnd => exact execTransmitGapEnd_course  s t h
  | linkCharacterTaken _ => exact execLinkCharacterTaken_course _ s t h
  | wakePulseEnd _ => exact execWakePulseEnd_course _ s t h

/-- No order of a slot is a reset. -/
theorem Snapshot.order_not_reset (x : Snapshot) : x.order ≠ some .powerOn ∧ x.order ≠ some .resetLine := by
  simp only [Snapshot.order]
  split <;> exact ⟨nofun, nofun⟩

theorem State.handedOrder_not_reset (s : State) (c : Instr) (h : s.handedOrder = some c) :
    c ≠ .powerOn ∧ c ≠ .resetLine := by
  simp only [State.handedOrder] at h
  split at h
  · next x _ _ _ =>
    obtain ⟨a, b⟩ := x.order_not_reset
    exact ⟨fun e => a (e ▸ h), fun e => b (e ▸ h)⟩
  · cases h

/-- What happens on an empty queue has a course: the runner's write, an order's taking, or time that passes. -/
theorem State.idle_course (s t : State) (h : s.idle = .next t) : s.Course true t := by
  simp only [State.idle] at h
  split at h
  · next u _ hu =>
    cases h
    simp only [State.endAnswered] at hu
    split at hu
    · cases hu; exact .port (State.answerOrder_aside s _ _ _ _)
    · cases hu
  · next c _ hc =>
    obtain ⟨hp, hr⟩ := s.handedOrder_not_reset c hc
    exact exec_course c s t hp hr h
  · cases h; exact .port s.tick_aside

/-- The course of every step but that of a reset, from the state with the command taken from its queue. -/
theorem step_course (s t : State) (hp : s.pending.head? ≠ some .powerOn) (hr : s.pending.head? ≠ some .resetLine)
    (h : step s = .next t) : ∃ rest, State.Course { s with pending := rest } true t := by
  simp only [step] at h
  split at h
  · next c rest e =>
    rw [e] at hp hr
    exact ⟨rest, exec_course c _ t (fun x => hp (by rw [x]; rfl)) (fun x => hr (by rw [x]; rfl)) h⟩
  · next e => exact ⟨s.pending, s.idle_course t h⟩

end Sys2Proof.Machine
end

section
/-! SUPPORT. An invariant of steps from what each kind of move keeps, and what the moves do to the Permit Table. -/

namespace Sys2Proof.Machine

open Sys2Proof.Safety Sys2Proof.Claims

/-! ### From moves to steps -/

/-- What a predicate `post` on states between events needs to be kept by every step, `pre` being what is left of it in the
course of an event. -/
structure StepKeeps (pre post : State → Prop) : Prop where
  weaken : ∀ s, post s → pre s
  queue : ∀ s rest, post s → post { s with pending := rest }
  aside : ∀ s t, s.Aside t → (pre s → pre t) ∧ (post s → post t)
  touch : ∀ s t, s.Touch t → (pre s → pre t) ∧ (post s → post t)
  effect : ∀ s t, s.Effect t → pre s → pre t
  first : ∀ s t, s.First t → pre s → pre t
  settle : ∀ s g, pre s → post (s.settleWith g)
  reset : ∀ s clock next x, post s → post { s.afterReset clock next with transaction := x }

/-- Along the course of an event the weaker predicate holds, and where nothing is left to hand on the stronger one. -/
theorem StepKeeps.course {pre post : State → Prop} (k : StepKeeps pre post) {s t : State} {b : Bool}
    (c : s.Course b t) (h : post s) : pre t ∧ (b = true → post t) := by
  induction c with
  | port a =>
    have := (k.aside _ _ a).2 h
    exact ⟨k.weaken _ this, fun _ => this⟩
  | aside c a _ _ ih =>
    obtain ⟨h1, h2⟩ := ih
    exact ⟨(k.aside _ _ a).1 h1, fun e => (k.aside _ _ a).2 (h2 e)⟩
  | touch c a ih =>
    obtain ⟨h1, h2⟩ := ih
    exact ⟨(k.touch _ _ a).1 h1, fun e => (k.touch _ _ a).2 (h2 e)⟩
  | effect c a ih => exact ⟨k.effect _ _ a ih.1, nofun⟩
  | first c _ _ a ih => exact ⟨k.first _ _ a ih.1, nofun⟩
  | settle c g ih =>
    have := k.settle _ g ih.1
    exact ⟨k.weaken _ this, fun _ => this⟩

/-- Every step keeps the predicate. -/
theorem StepKeeps.step {pre post : State → Prop} (k : StepKeeps pre post) (s t : State) (h : post s)
    (hs : Machine.step s = .next t) : post t := by
  by_cases hp : s.pending.head? = some .powerOn
  · obtain ⟨rest, e⟩ := List.head?_eq_some_iff.1 hp
    rw [Machine.step, e] at hs
    cases hs
    exact k.reset { s with pending := rest } _ _ _ (k.queue s rest h)
  · by_cases hr : s.pending.head? = some .resetLine
    · obtain ⟨rest, e⟩ := List.head?_eq_some_iff.1 hr
      rw [Machine.step, e] at hs
      cases hs
      exact k.reset { s with pending := rest } _ _ _ (k.queue s rest h)
    · obtain ⟨rest, c⟩ := step_course s t hp hr hs
      exact (k.course c (k.queue s rest h)).2 rfl

theorem State.startUpStage_aside (s : State) : s.Aside s.startUpStage := by
  simp only [State.startUpStage]
  split
  · exact .refl s
  · split
    · exact { State.Aside.refl s with
        startUp := fun _ _ => State.raise_flagged_self _ _
        runner := fun h k => absurd h k }
    · exact .refl s

theorem State.startUpStage_keepsFlags (s : State) : s.KeepsFlags s.startUpStage := by
  simp only [State.startUpStage]
  split
  · exact .refl s
  · split
    · exact State.raise_keepsFlags { s with unit := _ } .start
    · exact .refl s

/-- The settling of an event is a chain of its stages. -/
theorem State.settleWith_keeps {P : State → Prop} (ha : ∀ s t, s.Aside t → P s → P t) (ht : ∀ s t, s.Touch t → P s → P t)
    (he : ∀ s t, s.Effect t → P s → P t) (s : State) (g : Option (Fin 48)) (h : P s) : P (s.settleWith g) := by
  have h1 := he _ _ .doorStage h
  have h2 := he _ _ .fireAndAlarm h1
  have h3 := he _ _ .coolStage h2
  have h4 := he _ _ .connectStage h3
  have h5 := he _ _ (.isolateStage g) h4
  have h6 := he _ _ .evaluateStage h5
  have h7 := ht _ _ .transmit h6
  exact ha _ _ (State.startUpStage_aside _) h7

/-- A predicate that every single move keeps, the settling's stages among them. -/
theorem StepKeeps.ofMoves {P : State → Prop} (queue : ∀ s rest, P s → P { s with pending := rest })
    (aside : ∀ s t, s.Aside t → P s → P t) (touch : ∀ s t, s.Touch t → P s → P t)
    (effect : ∀ s t, s.Effect t → P s → P t) (first : ∀ s t, s.First t → P s → P t)
    (reset : ∀ s clock next x, P s → P { s.afterReset clock next with transaction := x }) : StepKeeps P P where
  weaken _ := id
  queue := queue
  aside s t h := ⟨aside s t h, aside s t h⟩
  touch s t h := ⟨touch s t h, touch s t h⟩
  effect := effect
  first := first
  settle := State.settleWith_keeps aside touch effect
  reset := reset

/-! ### What every move leaves of a record -/

/-- A record of which kind, holder, scope and the having of limits stand, and REVOKED with its reason and its hold. -/
structure Permit.Remains (p q : Permit) : Prop where
  stands : Stands p q
  limits : q.limits.isSome = p.limits.isSome

theorem Permit.Remains.refl (p : Permit) : p.Remains p := ⟨⟨rfl, rfl, rfl, fun h => ⟨h, rfl, rfl⟩⟩, rfl⟩

theorem stands_trans {p q r : Permit} (h : Stands p q) (k : Stands q r) : Stands p r := by
  obtain ⟨a, b, c, d⟩ := h
  obtain ⟨a', b', c', d'⟩ := k
  refine ⟨a'.trans a, b'.trans b, c'.trans c, fun hp => ?_⟩
  obtain ⟨x, y, z⟩ := d hp
  obtain ⟨x', y', z'⟩ := d' x
  exact ⟨x', y'.trans y, z'.trans z⟩

theorem Permit.Remains.trans {p q r : Permit} (h : p.Remains q) (k : q.Remains r) : p.Remains r :=
  ⟨stands_trans h.stands k.stands, k.limits.trans h.limits⟩

theorem Permit.Follows.remains {p q : Permit} (h : p.Follows q) : p.Remains q :=
  ⟨⟨h.kind, h.holder, h.scope, fun e => ⟨(h.revoked e).1, (h.revoked e).2.1, (h.revoked e).2.2.1⟩⟩, h.limits⟩

/-- A record that is not REVOKED changed in other fields than kind, holder and scope. -/
theorem Permit.remains_of_standing {p q : Permit} (hp : p.state ≠ .revoked) (hk : q.kind = p.kind)
    (hh : q.holder = p.holder) (hs : q.scope = p.scope) (hl : q.limits.isSome = p.limits.isSome) : p.Remains q :=
  ⟨⟨hk, hh, hs, fun e => absurd e hp⟩, hl⟩

/-- A slot that keeps its generation, and whose record, if it has one, has gone over into a related one. -/
def Slot.Rel (R : Permit → Permit → Prop) (a b : Slot) : Prop :=
  b.generation = a.generation ∧
    ((a.permit = none ∧ b.permit = none) ∨ ∃ p q, a.permit = some p ∧ b.permit = some q ∧ R p q)

/-- A Permit Table in which every slot keeps its generation, every record having gone over into a related one. -/
def State.SlotsRel (R : Permit → Permit → Prop) (s t : State) : Prop :=
  ∀ i : Fin 48, Slot.Rel R s.slots[i.val] t.slots[i.val]

section SlotsRel

variable {R : Permit → Permit → Prop} {s t u : State}

theorem Slot.Rel.refl (hR : ∀ p, R p p) (a : Slot) : a.Rel R a := by
  refine ⟨rfl, ?_⟩
  cases h : a.permit with
  | none => exact .inl ⟨rfl, rfl⟩
  | some p => exact .inr ⟨p, p, rfl, rfl, hR p⟩

theorem Slot.Rel.trans (hR : ∀ p q r, R p q → R q r → R p r) {a b c : Slot} (h : a.Rel R b) (k : b.Rel R c) :
    a.Rel R c := by
  obtain ⟨g, h⟩ := h
  obtain ⟨g', k⟩ := k
  refine ⟨g'.trans g, ?_⟩
  rcases h with ⟨ha, hb⟩ | ⟨p, q, ha, hb, hf⟩ <;> rcases k with ⟨kb, kc⟩ | ⟨q', r, kb, kc, kf⟩
  · exact .inl ⟨ha, kc⟩
  · rw [hb] at kb; cases kb
  · rw [hb] at kb; cases kb
  · rw [hb] at kb; cases kb; exact .inr ⟨p, r, ha, kc, hR p q r hf kf⟩

theorem State.SlotsRel.trans (hR : ∀ p q r, R p q → R q r → R p r) (h : s.SlotsRel R t) (k : t.SlotsRel R u) :
    s.SlotsRel R u := fun i => (h i).trans hR (k i)

theorem State.SlotsRel.of_eq (hR : ∀ p, R p p) (h : t.slots = s.slots) : s.SlotsRel R t :=
  fun i => by rw [h]; exact Slot.Rel.refl hR _

theorem State.SlotsRel.mono {Q : Permit → Permit → Prop} (hRQ : ∀ p q, R p q → Q p q) (h : s.SlotsRel R t) :
    s.SlotsRel Q t := fun i => by
  obtain ⟨g, h⟩ := h i
  refine ⟨g, h.imp_right ?_⟩
  rintro ⟨p, q, hp, hq, hf⟩
  exact ⟨p, q, hp, hq, hRQ p q hf⟩

/-- The record that a slot held, seen from the record it holds. -/
theorem State.SlotsRel.back (h : s.SlotsRel R t) {i : Fin 48} {q : Permit} (hq : Holds t i q) :
    ∃ p, Holds s i p ∧ R p q := by
  rcases (h i).2 with ⟨-, hn⟩ | ⟨p, q', hp, hq', hf⟩
  · rw [Holds, Fin.getElem_fin, hn] at hq; cases hq
  · rw [Holds, Fin.getElem_fin, hq'] at hq; cases hq; exact ⟨p, hp, hf⟩

/-- The record that a slot holds, seen from the record it held. -/
theorem State.SlotsRel.forth (h : s.SlotsRel R t) {i : Fin 48} {p : Permit} (hp : Holds s i p) :
    ∃ q, Holds t i q ∧ R p q := by
  rcases (h i).2 with ⟨hn, -⟩ | ⟨p', q, hp', hq, hf⟩
  · rw [Holds, Fin.getElem_fin, hn] at hp; cases hp
  · rw [Holds, Fin.getElem_fin, hp'] at hp; cases hp; exact ⟨q, hq, hf⟩

/-- A record replaced by a related one. -/
theorem State.setPermit_rel (hR : ∀ p, R p p) (s : State) (i : Fin 48) (p q : Permit)
    (hp : s.slots[i.val].permit = some p) (hf : R p q) : s.SlotsRel R (s.setPermit i q) := by
  intro j
  rw [State.setPermit_slots, getElem_put]
  split
  · next e => subst e; exact ⟨rfl, .inr ⟨p, q, hp, rfl, hf⟩⟩
  · exact Slot.Rel.refl hR _

end SlotsRel

/-- A Permit Table in which every slot keeps its generation and its record. -/
def State.SlotsRemain (s t : State) : Prop := s.SlotsRel Permit.Remains t

theorem State.SlotsFollow.remain {s t : State} (h : s.SlotsFollow t) : s.SlotsRemain t := fun i => by
  obtain ⟨g, h⟩ := h i
  refine ⟨g, h.imp_right ?_⟩
  rintro ⟨p, q, hp, hq, hf⟩
  exact ⟨p, q, hp, hq, hf.remains⟩

theorem State.SlotsRemain.of_eq {s t : State} (h : t.slots = s.slots) : s.SlotsRemain t :=
  State.SlotsRel.of_eq Permit.Remains.refl h

theorem State.SlotsRemain.trans {s t u : State} (h : s.SlotsRemain t) (k : t.SlotsRemain u) : s.SlotsRemain u :=
  State.SlotsRel.trans (fun _ _ _ => Permit.Remains.trans) h k

/-- A record replaced by one that remains. -/
theorem State.setPermit_remain (s : State) (i : Fin 48) (p q : Permit) (hp : s.slots[i.val].permit = some p)
    (hf : p.Remains q) : s.SlotsRemain (s.setPermit i q) := State.setPermit_rel Permit.Remains.refl s i p q hp hf

/-- A record that is not REVOKED stands. -/
theorem Permit.standing_iff (p : Permit) : p.standing = true ↔ p.state ≠ .revoked := by
  simp [Permit.standing]

theorem Permit.Remains.standing {p q : Permit} (h : p.Remains q) (hq : q.standing = true) : p.standing = true := by
  rw [Permit.standing_iff] at hq ⊢
  exact fun e => hq (h.stands.2.2.2 e).1

theorem Permit.liveOrSuspended_iff (p : Permit) :
    p.liveOrSuspended = true ↔ p.state = .live ∨ p.state = .suspended := by
  simp [Permit.liveOrSuspended]

theorem State.Touch.slotsRemain {s t : State} (h : s.Touch t) : s.SlotsRemain t := by
  cases h with
  | unmark i p hp => exact s.setPermit_remain i p _ hp ⟨⟨rfl, rfl, rfl, fun e => ⟨e, rfl, rfl⟩⟩, rfl⟩
  | renew i p hp _ => exact s.setPermit_remain i p _ hp ⟨⟨rfl, rfl, rfl, fun e => ⟨e, rfl, rfl⟩⟩, rfl⟩
  | breaker => exact .of_eq (by simp)
  | pulseEnd => exact .of_eq rfl
  | flow => exact .of_eq rfl
  | transmit => exact s.linkStage_follows.remain

theorem refuseWhen_eq_none {c : Bool} {code : RefCode} : refuseWhen c code = none ↔ c = false := by
  cases c <;> simp [refuseWhen]

theorem orElse_eq_none {a b : Option RefCode} : orElse a b = none ↔ a = none ∧ b = none := by
  cases a <;> simp [orElse]

/-- An AMEND that is not refused finds its permit standing. -/
theorem Permit.amendRefusal_standing {p : Permit} {o : AmendOps} {clock : SiteTime}
    (h : p.amendRefusal o clock = none) : p.state ≠ .revoked := by
  obtain ⟨h, -⟩ := orElse_eq_none.1 h
  simpa using refuseWhen_eq_none.1 h

theorem Permit.amended_remains (p : Permit) (o : AmendOps) (now : Nat) (hp : p.state ≠ .revoked) :
    p.Remains (p.amended o now) :=
  Permit.remains_of_standing hp rfl rfl rfl (by simp [Permit.amended])

theorem State.amendSlot_remain (s : State) (i : Fin 48) (p : Permit) (o : AmendOps)
    (hp : s.slots[i.val].permit = some p) (hr : p.state ≠ .revoked) : s.SlotsRemain (s.amendSlot i p o) := by
  have h := s.setPermit_remain i p _ hp (p.amended_remains o s.now hr)
  simp only [State.amendSlot]
  split
  · exact h.trans (State.retargetSlot_follows _ _ _).remain
  · exact h

theorem State.reduceSlot_remain (s : State) (i : Fin 48) (p : Permit) (limit : Nat)
    (hp : s.slots[i.val].permit = some p) (hr : p.state ≠ .revoked) : s.SlotsRemain (s.reduceSlot i p limit) :=
  (s.setPermit_remain i p { p with limits := p.limits.map fun l => ⟨limit, l.effective, l.rise⟩ } hp
    (Permit.remains_of_standing hr rfl rfl rfl (by simp))).trans (State.retargetSlot_follows _ _ _).remain

theorem Permit.applyPending_spec (p : Permit) (l : Limits) (r : Rise) :
    (p.applyPending l r).kind = p.kind ∧ (p.applyPending l r).holder = p.holder ∧
      (p.applyPending l r).scope = p.scope ∧ (p.applyPending l r).limits = some ⟨l.requested, r.value, none⟩ := by
  simp only [Permit.applyPending]
  split <;> exact ⟨rfl, rfl, rfl, rfl⟩

theorem State.endRise_remain (s : State) (i : Fin 48) (p : Permit) (l : Limits) (r : Rise)
    (hp : s.slots[i.val].permit = some p) (hl : p.limits = some l) (hs : p.liveOrSuspended = true) :
    s.SlotsRemain (s.endRise i p l r) := by
  obtain ⟨hk, hh, hsc, hlim⟩ := p.applyPending_spec l r
  have hr : p.state ≠ .revoked := by
    intro e
    rw [Permit.liveOrSuspended_iff, e] at hs
    simp at hs
  have h := s.setPermit_remain i p (p.applyPending l r) hp
    (Permit.remains_of_standing hr hk hh hsc (by rw [hlim, hl]; rfl))
  exact (h.trans (.of_eq (State.raise_slots _ .permit))).trans (State.retargetSlot_follows _ _ _).remain

theorem State.Effect.slotsRemain {s t : State} (h : s.Effect t) : s.SlotsRemain t := by
  cases h with
  | senses h => exact .of_eq (by rw [h.frame])
  | revokeSlot r b i => exact (s.revokeSlot_follows r b i).remain
  | revokeWhere f r => exact (s.revokeWhere_follows f r).remain
  | amend i p change op2 op3 op4 op5 hp ho => exact s.amendSlot_remain i p _ hp (Permit.amendRefusal_standing ho)
  | reduce i p limit hp hr => exact s.reduceSlot_remain i p limit hp hr
  | riseEnd i p l r hp hl hr hs => exact s.endRise_remain i p l r hp hl hs
  | gridFalls =>
    exact ((State.SlotsFollow.of_eq (t := (s.setReconnect none false).openBreaker) (by simp)).trans
      (State.suspendConnect_follows _)).remain
  | gridReturns =>
    exact ((State.SlotsFollow.of_eq (t := s.setReconnect none true) (by simp)).trans
      (State.resumeConnect_follows _)).remain
  | isolateStage g => exact (s.isolateStage_follows g).remain
  | evaluateStage => exact s.evaluateStage_follows.remain
  | fireAndAlarm => exact s.fireAndAlarm_follows.remain
  | quietBay | releaseBay => exact .of_eq (State.setFireTable_slots _ _)
  | replaceContactor | refitContactors | refitCooling | checkMatch | connectStage => exact .of_eq (by simp [State.replaceContactor, State.refitContactors, State.refitCooling])
  | linkState h => exact .of_eq (by rw [h])
  | fireInputs | cool | flowFault | contactor | setMode | loadContactors | opened | doorStage | coolStage => exact .of_eq rfl

end Sys2Proof.Machine
end

section
/-! PROOF. What a step does to a slot: it keeps its generation and its record's fixed fields, or it is freed (O58). -/

namespace Sys2Proof.Machine

open Sys2Proof.Safety Sys2Proof.Claims

/-- A slot after a course: its generation and its record stand, or it has been freed with the next generation. -/
def Slot.Ruled (a b : Slot) : Prop :=
  (b.generation = a.generation ∧ ∀ p, a.permit = some p → ∃ q, b.permit = some q ∧ Stands p q) ∨
    (b = ⟨a.generation + 1, none⟩ ∧ a.permit ≠ none)

theorem Slot.Ruled.remain {a b c : Slot} (h : a.Ruled b) (k : b.Rel Permit.Remains c) : a.Ruled c := by
  obtain ⟨g, k⟩ := k
  rcases h with ⟨hg, hp⟩ | ⟨rfl, hn⟩
  · refine .inl ⟨g.trans hg, fun p e => ?_⟩
    obtain ⟨q, hq, hst⟩ := hp p e
    rcases k with ⟨hn, -⟩ | ⟨q', r, hq', hr, hf⟩
    · rw [hn] at hq; cases hq
    · rw [hq] at hq'; cases hq'
      exact ⟨r, hr, stands_trans hst hf.stands⟩
  · rcases k with ⟨-, hc⟩ | ⟨q', r, hq', -, -⟩
    · refine .inr ⟨?_, hn⟩
      cases c
      simp only at g hc
      rw [g, hc]
    · cases hq'

theorem Slot.Ruled.refl (a : Slot) : a.Ruled a :=
  .inl ⟨rfl, fun p hp => ⟨p, hp, (Permit.Remains.refl p).stands⟩⟩

/-- The lowest-numbered FREE slot is FREE. -/
theorem State.freeSlot_free {s : State} {i : Fin 48} (h : s.freeSlot = some i) : s.slots[i.val].permit = none := by
  simpa using List.find?_some h

@[simp] theorem State.grantSlot_slots (s : State) (i : Fin 48) (kind : Kind) (holder : Holder) (o : GrantOps) :
    (s.grantSlot i kind holder o).slots = (s.setPermit i (s.grantedPermit kind holder o)).slots := by
  simp only [State.grantSlot]
  split <;> simp

@[simp] theorem State.loadUnit_slots (s : State) : s.loadUnit.slots = s.slots := by simp [State.loadUnit]

@[simp] theorem State.refitUnit_slots (s : State) (p : Profile) : (s.refitUnit p).slots = s.slots := by
  simp [State.refitUnit, State.refitStrings]

/-- A grant fills a FREE slot, a retirement frees a record's, and nothing else of the first effects touches the table. -/
theorem State.First.ruled {s t : State} (h : s.First t) (i : Fin 48) : (s.slots[i.val]).Ruled t.slots[i.val] := by
  cases h with
  | grant j kind holder _ _ _ _ _ _ _ hj =>
    rw [State.grantSlot_slots, State.setPermit_slots, getElem_put]
    split
    · next e =>
      subst e
      exact .inl ⟨rfl, fun p hp => by rw [State.freeSlot_free hj] at hp; cases hp⟩
    · exact .refl _
  | retire j p hp =>
    rw [State.retireSlot_slots_self s j p hp, getElem_put]
    split
    · next e => subst e; exact .inr ⟨rfl, by rw [hp]; simp⟩
    · exact .refl _
  | load => rw [State.loadUnit_slots]; exact .refl _
  | refit p => rw [State.refitUnit_slots]; exact .refl _

theorem State.Course.ruled {s t : State} {b : Bool} (c : s.Course b t) (i : Fin 48) :
    (s.slots[i.val]).Ruled t.slots[i.val] := by
  induction c with
  | port h => rw [h.slots]; exact .refl _
  | aside _ h _ _ ih => rw [h.slots]; exact ih
  | touch _ h ih => exact ih.remain (h.slotsRemain i)
  | effect _ h ih => exact ih.remain (h.slotsRemain i)
  | first _ hs _ h _ => rw [← hs]; exact h.ruled i
  | settle _ g ih => exact ih.remain ((State.settleWith_follows _ g).remain i)

/-- Settles O58: what every move of a step's course leaves of a slot. -/
theorem recordsChangeByRule : Obligations.RecordsChangeByRule := by
  intro s t hp hr h i
  obtain ⟨rest, c⟩ := step_course s t hp hr h
  rcases c.ruled i with ⟨hg, hq⟩ | ⟨hf, hn⟩
  · refine ⟨.inl hg, fun p q hsp htq => ?_⟩
    obtain ⟨q', hq', hst⟩ := hq p hsp
    rw [Holds, Fin.getElem_fin, hq'] at htq
    cases htq
    exact hst
  · refine ⟨.inr ⟨hf, hn⟩, fun p q _ htq => ?_⟩
    rw [Holds, Fin.getElem_fin, hf] at htq
    cases htq

end Sys2Proof.Machine
end

section
/-! SUPPORT. What the operations over all slots do to each of them, as one function of its record, and what the hand-offs
behind an event's own effects leave of a record. -/

namespace Sys2Proof.Machine

open Sys2Proof.Safety Sys2Proof.Claims

/-! ### A function applied to every record -/

/-- A slot with its record, if it holds one, passed through a function. -/
def Slot.update (f : Permit → Permit) (a : Slot) : Slot := { a with permit := a.permit.map f }

/-- A Permit Table with the record of every slot passed through a function of the slot. -/
def State.SlotsUpdate (f : Fin 48 → Permit → Permit) (s t : State) : Prop :=
  ∀ i : Fin 48, t.slots[i.val] = (s.slots[i.val]).update (f i)

theorem Slot.update_of_fixed {f : Permit → Permit} {a : Slot} (h : ∀ p, a.permit = some p → f p = p) : a.update f = a := by
  obtain ⟨g, p⟩ := a
  cases p with
  | none => rfl
  | some p => simp [Slot.update, h p rfl]

theorem Slot.update_update (f g : Permit → Permit) (a : Slot) : (a.update f).update g = a.update (g ∘ f) := by
  simp [Slot.update]

/-- A table entry put back where it stands. -/
theorem put_self {α : Type} {n : Nat} (v : Vector α n) (i : Fin n) : put v i v[i.val] = v := by
  simp [put]

/-- One turn of an operation over the slots that writes the record of its slot. -/
theorem State.setPermit_turn (s : State) (i : Fin 48) (f : Permit → Permit) {p : Permit}
    (h : s.slots[i.val].permit = some p) : (s.setPermit i (f p)).slots = put s.slots i ((s.slots[i.val]).update f) := by
  rw [State.setPermit_slots]
  simp [Slot.update, h]

/-- One turn of an operation over the slots that leaves its slot as it is. -/
theorem State.idle_turn (s : State) (i : Fin 48) (f : Permit → Permit)
    (h : ∀ p, s.slots[i.val].permit = some p → f p = p) : s.slots = put s.slots i ((s.slots[i.val]).update f) := by
  rw [Slot.update_of_fixed h, put_self]

theorem nodup_allSlots : allSlots.Nodup := by decide

/-- An operation over the slots each turn of which passes the record of its slot through a function, and keeps what the
function reads besides. -/
theorem State.foldl_updates (C : State → Prop) (f : Fin 48 → Permit → Permit) (g : State → Fin 48 → State)
    (h : ∀ t i, C t → C (g t i) ∧ (g t i).slots = put t.slots i ((t.slots[i.val]).update (f i))) (s : State) (hs : C s) :
    C (allSlots.foldl g s) ∧ s.SlotsUpdate f (allSlots.foldl g s) := by
  have go : ∀ (l : List (Fin 48)) (t : State), l.Nodup → C t → C (l.foldl g t) ∧
      ∀ i : Fin 48, (l.foldl g t).slots[i.val] = if i ∈ l then (t.slots[i.val]).update (f i) else t.slots[i.val] := by
    intro l
    induction l with
    | nil => exact fun t _ ht => ⟨ht, fun i => by simp⟩
    | cons x xs ih =>
      intro t hnd ht
      obtain ⟨hx, hxs⟩ := List.nodup_cons.1 hnd
      obtain ⟨hc, hsl⟩ := h t x ht
      obtain ⟨hc', hsl'⟩ := ih (g t x) hxs hc
      refine ⟨hc', fun i => ?_⟩
      rw [List.foldl_cons, hsl' i, hsl, getElem_put]
      by_cases e : i = x
      · subst e; simp [hx]
      · simp [e]
  obtain ⟨hc, hsl⟩ := go allSlots s nodup_allSlots hs
  exact ⟨hc, fun i => by rw [hsl i, if_pos (mem_allSlots i)]⟩

section SlotsUpdate

variable {f g : Fin 48 → Permit → Permit} {s t u : State}

theorem State.SlotsUpdate.of_eq (h : t.slots = s.slots) : s.SlotsUpdate (fun _ p => p) t := fun i => by
  rw [h, Slot.update_of_fixed (fun _ _ => rfl)]

theorem State.SlotsUpdate.trans (h : s.SlotsUpdate f t) (k : t.SlotsUpdate g u) :
    s.SlotsUpdate (fun i => g i ∘ f i) u := fun i => by
  rw [k i, h i, Slot.update_update]

theorem State.SlotsUpdate.then_eq (h : s.SlotsUpdate f t) (k : u.slots = t.slots) : s.SlotsUpdate f u := fun i => by
  rw [k, h i]

theorem State.SlotsUpdate.holds (h : s.SlotsUpdate f t) {i : Fin 48} {p : Permit} (hp : Holds s i p) :
    Holds t i (f i p) := by
  rw [Holds, Fin.getElem_fin] at hp ⊢
  rw [h i, Slot.update, hp]
  rfl

theorem State.SlotsUpdate.back (h : s.SlotsUpdate f t) {i : Fin 48} {q : Permit} (hq : Holds t i q) :
    ∃ p, Holds s i p ∧ q = f i p := by
  rw [Holds, Fin.getElem_fin, h i, Slot.update] at hq
  obtain ⟨p, hp, rfl⟩ := Option.map_eq_some_iff.1 hq
  exact ⟨p, hp, rfl⟩

theorem State.SlotsUpdate.rel {R : Permit → Permit → Prop} (h : s.SlotsUpdate f t) (hf : ∀ i p, R p (f i p)) :
    s.SlotsRel R t := fun i => by
  rw [h i]
  refine ⟨rfl, ?_⟩
  cases hp : s.slots[i.val].permit with
  | none => exact .inl ⟨rfl, by simp [Slot.update, hp]⟩
  | some p => exact .inr ⟨p, f i p, rfl, by simp [Slot.update, hp], hf i p⟩

end SlotsUpdate

/-! ### The operations over all slots -/

/-- A record under a revocation of the standing permits with a property. -/
def Permit.revokedWhere (f : Permit → Bool) (reason : Reason) (now hold : Nat) (p : Permit) : Permit :=
  if f p && p.standing then p.revoked reason false now hold else p

/-- What a revocation of a slot does to the table. -/
theorem State.revokeSlot_turn (s : State) (reason : Reason) (byOrder : Bool) (i : Fin 48) :
    (s.revokeSlot reason byOrder i).slots = put s.slots i ((s.slots[i.val]).update fun p =>
      if p.standing then p.revoked reason byOrder s.now (Config.sec s.unit.active.revokedHold) else p) := by
  simp only [State.revokeSlot, Fin.getElem_fin]
  split
  · next hn => exact s.idle_turn i _ (fun p hp => by rw [hn] at hp; cases hp)
  · next p hp =>
    split
    · next hst =>
      rw [State.connectGone_slots, State.raiseIf_slots]
      have := s.setPermit_turn i (fun p => if p.standing then
        p.revoked reason byOrder s.now (Config.sec s.unit.active.revokedHold) else p) hp
      simpa only [hst, if_true] using this
    · next hst => exact s.idle_turn i _ (fun q hq => by rw [hp] at hq; cases hq; simp [hst])

theorem State.revokeWhere_updates (s : State) (f : Permit → Bool) (reason : Reason) :
    s.SlotsUpdate (fun _ => Permit.revokedWhere f reason s.now (Config.sec s.unit.active.revokedHold))
      (s.revokeWhere f reason) := by
  refine (State.foldl_updates (fun t => t.now = s.now ∧ t.unit = s.unit) _ _ ?_ s ⟨rfl, rfl⟩).2
  rintro t i ⟨hn, hu⟩
  simp only [Fin.getElem_fin]
  split
  · next p hp =>
    split
    · next hf =>
      refine ⟨by simp [hn, hu], ?_⟩
      rw [State.revokeSlot_turn, hn, hu]
      simp [Slot.update, hp, Permit.revokedWhere, hf]
    · next hf =>
      refine ⟨⟨hn, hu⟩, t.idle_turn i _ (fun q hq => ?_)⟩
      rw [hp] at hq; cases hq
      simp [Permit.revokedWhere, hf]
  · next hn' => exact ⟨⟨hn, hu⟩, t.idle_turn i _ (fun q hq => by rw [hn'] at hq; cases hq)⟩

/-- The permits that a bay's alarm entry revokes (R19). -/
def Permit.metByAlarm (k : Fin 4) (p : Permit) : Bool :=
  p.kind == .connect || ((p.kind == .charge || p.kind == .discharge) && meetsBay p.scope k)

theorem State.alarmEntry_updates (s : State) (k : Fin 4) :
    s.SlotsUpdate (fun _ => Permit.revokedWhere (·.metByAlarm k) .fire s.now (Config.sec s.unit.active.revokedHold))
      (s.alarmEntry k) :=
  (s.revokeWhere_updates (·.metByAlarm k) .fire).then_eq (by simp [State.alarmEntry, Permit.metByAlarm])

theorem Permit.revokedWhere_revokedWhere (f g : Permit → Bool) (reason : Reason) (now hold : Nat)
    (p : Permit) :
    Permit.revokedWhere g reason now hold (Permit.revokedWhere f reason now hold p) =
      Permit.revokedWhere (fun p => f p || g p) reason now hold p := by
  by_cases hs : p.standing = true <;> by_cases hf : f p = true
  · have hr : (p.revoked reason false now hold).standing = false := rfl
    simp [Permit.revokedWhere, hs, hf, hr]
  all_goals simp [Permit.revokedWhere, hs, hf]

theorem State.alarmStage_updates (s : State) (l : List (Fin 4)) :
    s.SlotsUpdate
      (fun _ => Permit.revokedWhere (fun p => l.any p.metByAlarm) .fire s.now (Config.sec s.unit.active.revokedHold))
      (s.alarmStage l) := by
  simp only [State.alarmStage]
  induction l generalizing s with
  | nil => exact fun i => (Slot.update_of_fixed fun p _ => by simp [Permit.revokedWhere]).symm
  | cons k ks ih =>
    intro i
    have h := (s.alarmEntry_updates k).trans (ih (s.alarmEntry k)) i
    obtain ⟨_, _, _, _, _, e⟩ := s.alarmEntry_frame k
    rw [List.foldl_cons, h]
    congr 1
    funext p
    simp only [Function.comp_apply, e, List.any_cons]
    exact Permit.revokedWhere_revokedWhere _ _ _ _ _ p

theorem State.fireAndAlarm_updates (s : State) :
    s.SlotsUpdate
      (fun _ => Permit.revokedWhere (fun p => (alarmEntries s.fire s.fireStage.fire).any p.metByAlarm) .fire s.now
        (Config.sec s.unit.active.revokedHold)) s.fireAndAlarm := by
  intro i
  have := s.fireStage.alarmStage_updates (alarmEntries s.fire s.fireStage.fire) i
  rw [State.fireAndAlarm]
  simpa only [State.fireStage_slots, State.fireStage_now, State.fireStage_unit] using this

theorem State.suspendConnect_updates (s : State) : s.SlotsUpdate (fun _ => Permit.gridFall) s.suspendConnect := by
  refine (State.foldl_updates (fun _ => True) _ _ (fun t i _ => ⟨trivial, ?_⟩) s trivial).2
  simp only [Fin.getElem_fin]
  split
  · next p hp =>
    split
    · exact t.setPermit_turn i Permit.gridFall hp
    · next hc =>
      exact t.idle_turn i _ (fun q hq => by rw [hp] at hq; cases hq; rw [Permit.gridFall, if_neg hc])
  · next hn => exact t.idle_turn i _ (fun q hq => by rw [hn] at hq; cases hq)

/-- A record under the return of the grid (R23). -/
def Permit.gridReturn (p : Permit) : Permit :=
  if p.kind = .connect ∧ p.state = .suspended ∧ p.reason = some .grid then p.gridBack else p

/-- One turn of the resumption of a CONNECT. -/
theorem State.resumeConnect_turn (t : State) (i : Fin 48) (p : Permit) (hp : t.slots[i.val].permit = some p)
    (hc : p.kind = .connect ∧ p.state = .suspended ∧ p.reason = some .grid) :
    (t.setPermit i p.gridBack).slots = put t.slots i ((t.slots[i.val]).update Permit.gridReturn) := by
  have := t.setPermit_turn i Permit.gridReturn hp
  rwa [Permit.gridReturn, if_pos hc] at this

theorem State.resumeConnect_updates (s : State) : s.SlotsUpdate (fun _ => Permit.gridReturn) s.resumeConnect := by
  refine (State.foldl_updates (fun _ => True) _ _ (fun t i _ => ⟨trivial, ?_⟩) s trivial).2
  simp only [Fin.getElem_fin]
  split
  · next p hp =>
    split
    · next hc =>
      refine Eq.trans ?_ (t.resumeConnect_turn i p hp hc)
      split <;> simp
    · next hc =>
      exact t.idle_turn i _ (fun q hq => by rw [hp] at hq; cases hq; rw [Permit.gridReturn, if_neg hc])
  · next hn => exact t.idle_turn i _ (fun q hq => by rw [hn] at hq; cases hq)

/-- A record when a PENDING ISOLATE whose scope is open is completed (R24). -/
def Permit.completed (opened : BitVec 8 → Bool) (granted : Bool) (p : Permit) : Permit :=
  if p.kind = .isolate ∧ p.state = .pending ∧ opened p.scope then
    { p with state := .live, changed := p.changed || !granted }
  else p

theorem State.isolateStage_updates (s : State) (granted : Option (Fin 48)) :
    s.SlotsUpdate (fun i => Permit.completed s.scopeOpen (granted == some i)) (s.isolateStage granted) := by
  refine (State.foldl_updates (fun _ => True) _ _ (fun t i _ => ⟨trivial, ?_⟩) s trivial).2
  simp only [Fin.getElem_fin]
  split
  · next p hp =>
    have h := t.setPermit_turn i (Permit.completed s.scopeOpen (granted == some i)) hp
    split
    · next hc =>
      rw [Permit.completed, if_pos hc] at h
      split
      · next hg => subst hg; simpa using h
      · next hg =>
        have hb : (granted == some i) = false := by simpa using hg
        simpa only [hb, Bool.not_false, Bool.or_true, State.raise_slots] using h
    · next hc =>
      exact t.idle_turn i _ (fun q hq => by rw [hp] at hq; cases hq; rw [Permit.completed, if_neg hc])
  · next hn => exact t.idle_turn i _ (fun q hq => by rw [hn] at hq; cases hq)

/-- A record with its target recomputed from a state (R10). -/
def State.retargeted (s : State) (src : Source) (p : Permit) : Permit :=
  p.retarget src (s.targetOf p) s.now (Config.sec s.unit.active.riseHold) (s.restricting p.scope)

theorem State.retargetSlot_turn (s : State) (src : Source) (i : Fin 48) :
    (s.retargetSlot src i).slots = put s.slots i ((s.slots[i.val]).update (s.retargeted src)) := by
  simp only [State.retargetSlot, Fin.getElem_fin]
  split
  · next hn => exact s.idle_turn i _ (fun p hp => by rw [hn] at hp; cases hp)
  · next p hp =>
    rw [State.raiseIf_slots]
    exact s.setPermit_turn i (s.retargeted src) hp

/-- A record under the hand-off of an evaluation (R53, R54). -/
def State.handedTo (s : State) (old : Vector StringRec 8) (p : Permit) : Permit :=
  if namesAny old s.strings p.scope then s.retargeted .other p else p

theorem State.retargeted_congr {s t : State} (hs : t.strings = s.strings) (hn : t.now = s.now) (hu : t.unit = s.unit)
    (src : Source) : t.retargeted src = s.retargeted src := by
  funext p
  simp only [State.retargeted, State.targetOf, State.envelopeSum, State.restricting, hs, hn, hu]

theorem State.handOff_updates (s : State) (old : Vector StringRec 8) :
    s.SlotsUpdate (fun _ => s.handedTo old) (s.handOff old) := by
  refine (State.foldl_updates (fun t => t.strings = s.strings ∧ t.now = s.now ∧ t.unit = s.unit) _ _ ?_ s
    ⟨rfl, rfl, rfl⟩).2
  rintro t i ⟨hs, hn, hu⟩
  simp only [Fin.getElem_fin]
  split
  · next p hp =>
    split
    · next hc =>
      refine ⟨by simp [hs, hn, hu], ?_⟩
      rw [State.retargetSlot_turn, State.retargeted_congr hs hn hu]
      rw [hs] at hc
      simp [Slot.update, hp, State.handedTo, hc]
    · next hc =>
      refine ⟨⟨hs, hn, hu⟩, t.idle_turn i _ (fun q hq => ?_)⟩
      rw [hp] at hq; cases hq
      rw [hs] at hc
      simp [State.handedTo, hc]
  · next hn' => exact ⟨⟨hs, hn, hu⟩, t.idle_turn i _ (fun q hq => by rw [hn'] at hq; cases hq)⟩

/-- What the evaluation of the String Table does to the Permit Table, after the start-up load. -/
theorem State.evaluateStage_updates (s : State) (h : s.loaded = true) :
    s.SlotsUpdate (fun _ => s.evaluateAll.handedTo s.strings) s.evaluateStage := by
  rw [State.evaluateStage, if_pos h]
  exact fun i => s.evaluateAll.handOff_updates s.strings i

end Sys2Proof.Machine
end

section
/-! SUPPORT. What the hand-offs behind an event's own effects leave of a record, and the permits that the other blocks look
for in the table. -/

namespace Sys2Proof.Machine

open Sys2Proof.Safety Sys2Proof.Claims

/-- A record after hand-offs: it is revoked by none of them, only an ISOLATE becomes LIVE by one, and a LIVE record without
limits stays LIVE. -/
structure Permit.HandedOn (p q : Permit) : Prop where
  remains : p.Remains q
  revoked : q.state = .revoked → p.state = .revoked
  falls : q.state = .live → p.state = .live ∨ p.kind = .isolate
  stays : p.limits = none → p.state = .live → q.state = .live

theorem Permit.HandedOn.of_state {p q : Permit} (h : p.Remains q) (hs : q.state = p.state) : p.HandedOn q :=
  ⟨h, fun e => hs ▸ e, fun e => .inl (hs ▸ e), fun _ e => hs.trans e⟩

theorem Permit.HandedOn.refl (p : Permit) : p.HandedOn p := .of_state (.refl p) rfl

theorem Permit.HandedOn.trans {p q r : Permit} (h : p.HandedOn q) (k : q.HandedOn r) : p.HandedOn r where
  remains := h.remains.trans k.remains
  revoked := h.revoked ∘ k.revoked
  falls e := by
    rcases k.falls e with hq | hq
    · exact h.falls hq
    · exact .inr (h.remains.stands.1 ▸ hq)
  stays hl e := by
    have hq : q.limits = none := by
      rw [← Option.isNone_iff_eq_none, ← Option.not_isSome, h.remains.limits, hl]; rfl
    exact k.stays hq (h.stays hl e)

theorem Permit.HandedOn.standing {p q : Permit} (h : p.HandedOn q) : q.standing = p.standing := by
  rw [Bool.eq_iff_iff]
  refine ⟨h.remains.standing, fun hp => ?_⟩
  rw [Permit.standing_iff] at hp ⊢
  exact hp ∘ h.revoked

/-- A target below the effective limit: the fields that it writes (R11). -/
theorem Permit.applyFall_eq (p : Permit) (l : Limits) (src : Source) (target : Nat) (restr : Fin 8 × Cause) :
    p.applyFall l src target restr = { p with
      limits := some ⟨l.requested, target, none⟩
      state := if target = 0 ∧ p.state = .live then .suspended else p.state
      reason := if target = 0 ∧ p.state = .live then some (.envelope restr.1 restr.2) else p.reason
      changed := p.changed || src != .amend
      notice := (p.applyFall l src target restr).notice } := by
  simp only [Permit.applyFall]
  split <;> simp [*]

/-- A target not below the effective limit: the fields that it writes; a reason written is an envelope's in place of an
envelope's (R11, R12). -/
theorem Permit.applyRise_eq (p : Permit) (l : Limits) (src : Source) (target now hold : Nat) (restr : Fin 8 × Cause) :
    p.applyRise l src target now hold restr = { p with
      limits := some ⟨l.requested, l.effective, nextRise l target now hold⟩
      reason := (p.applyRise l src target now hold restr).reason
      changed := (p.applyRise l src target now hold restr).changed
      notice := (p.applyRise l src target now hold restr).notice } := by
  simp only [Permit.applyRise]
  split
  · split <;> rfl
  · rfl

/-- A recomputed target leaves a record without limits, one PENDING and one REVOKED as they are; of any other it makes a
fall or a rise. -/
theorem Permit.retarget_cases (p : Permit) (src : Source) (target now hold : Nat) (restr : Fin 8 × Cause) :
    (p.retarget src target now hold restr = p ∧ (p.limits = none ∨ p.liveOrSuspended = false)) ∨
      ∃ l, p.limits = some l ∧ p.liveOrSuspended = true ∧
        ((target < l.effective ∧ p.retarget src target now hold restr = p.applyFall l src target restr) ∨
          (l.effective ≤ target ∧
            p.retarget src target now hold restr = p.applyRise l src target now hold restr)) := by
  cases hl : p.limits with
  | none => exact .inl ⟨by simp [Permit.retarget, hl], .inl rfl⟩
  | some l =>
    cases hs : p.liveOrSuspended with
    | false => exact .inl ⟨by simp [Permit.retarget, hl, hs], .inr rfl⟩
    | true =>
      refine .inr ⟨l, rfl, rfl, ?_⟩
      rcases Nat.lt_or_ge target l.effective with ht | ht
      · exact .inl ⟨ht, by simp [Permit.retarget, hl, hs, ht]⟩
      · exact .inr ⟨ht, by simp [Permit.retarget, hl, hs, Nat.not_lt.2 ht]⟩

/-- A recomputed target suspends a LIVE record with limits at most. -/
theorem Permit.retarget_handedOn (p : Permit) (src : Source) (target now hold : Nat) (restr : Fin 8 × Cause) :
    p.HandedOn (p.retarget src target now hold restr) := by
  have hr := (p.retarget_follows src target now hold restr).remains
  rcases p.retarget_cases src target now hold restr with ⟨e, -⟩ | ⟨l, hl, -, ⟨-, e⟩ | ⟨-, e⟩⟩
  · rw [e]; exact .refl p
  · have hs : (p.retarget src target now hold restr).state =
        if target = 0 ∧ p.state = .live then .suspended else p.state := by rw [e, Permit.applyFall_eq]
    refine ⟨hr, fun h => ?_, fun h => ?_, fun hn => by rw [hl] at hn; cases hn⟩
    all_goals rw [hs] at h; split at h
    · cases h
    · exact h
    · cases h
    · exact .inl h
  · exact .of_state hr (by rw [e, Permit.applyRise_eq])

theorem State.retargeted_handedOn (s : State) (src : Source) (p : Permit) : p.HandedOn (s.retargeted src p) :=
  p.retarget_handedOn _ _ _ _ _

theorem State.handedTo_handedOn (s : State) (old : Vector StringRec 8) (p : Permit) : p.HandedOn (s.handedTo old p) := by
  rw [State.handedTo]
  split
  · exact s.retargeted_handedOn .other p
  · exact .refl p

theorem Permit.completed_handedOn (opened : BitVec 8 → Bool) (granted : Bool) (p : Permit) :
    p.HandedOn (p.completed opened granted) := by
  rw [Permit.completed]
  split
  · next h =>
    obtain ⟨hk, hs, -⟩ := h
    have hne : p.state ≠ .revoked := by rw [hs]; simp
    exact ⟨Permit.remains_of_standing hne rfl rfl rfl rfl, nofun, fun _ => .inr hk, fun _ _ => rfl⟩
  · exact .refl p

/-! ### The table after hand-offs -/

/-- A Permit Table of which every record has been handed on. -/
def State.SlotsHandedOn (s t : State) : Prop := s.SlotsRel Permit.HandedOn t

theorem State.SlotsHandedOn.of_eq {s t : State} (h : t.slots = s.slots) : s.SlotsHandedOn t :=
  State.SlotsRel.of_eq Permit.HandedOn.refl h

theorem State.SlotsHandedOn.trans {s t u : State} (h : s.SlotsHandedOn t) (k : t.SlotsHandedOn u) : s.SlotsHandedOn u :=
  State.SlotsRel.trans (fun _ _ _ => Permit.HandedOn.trans) h k

theorem State.SlotsUpdate.handedOn {f : Fin 48 → Permit → Permit} {s t : State} (h : s.SlotsUpdate f t)
    (hf : ∀ (i : Fin 48) (p : Permit), p.HandedOn (f i p)) : s.SlotsHandedOn t := State.SlotsUpdate.rel h hf

theorem State.setPermit_handedOn (s : State) (i : Fin 48) (p q : Permit) (hp : s.slots[i.val].permit = some p)
    (h : p.HandedOn q) : s.SlotsHandedOn (s.setPermit i q) := State.setPermit_rel Permit.HandedOn.refl s i p q hp h

theorem State.isolateStage_handedOn (s : State) (g : Option (Fin 48)) : s.SlotsHandedOn (s.isolateStage g) :=
  (s.isolateStage_updates g).handedOn fun _ p => p.completed_handedOn _ _

theorem State.evaluateStage_handedOn (s : State) : s.SlotsHandedOn s.evaluateStage := by
  cases h : s.loaded with
  | true => exact (s.evaluateStage_updates h).handedOn fun _ p => State.handedTo_handedOn _ _ p
  | false => exact .of_eq (by simp [State.evaluateStage, h])

theorem State.retargetSlot_handedOn (s : State) (src : Source) (i : Fin 48) : s.SlotsHandedOn (s.retargetSlot src i) := by
  cases h : s.slots[i.val].permit with
  | none =>
    refine .of_eq ?_
    rw [State.retargetSlot_turn, Slot.update_of_fixed (fun p hp => by rw [h] at hp; cases hp), put_self]
  | some p =>
    refine (s.setPermit_handedOn i p _ h (s.retargeted_handedOn src p)).trans (.of_eq ?_)
    rw [State.retargetSlot_turn, s.setPermit_turn i (s.retargeted src) h]

theorem State.linkStage_handedOn (s : State) : s.SlotsHandedOn s.linkStage := by
  simp only [State.linkStage]
  split
  · split
    · exact .of_eq rfl
    · split
      · split
        · next p hp =>
          exact (s.setPermit_handedOn _ p { p with notice := false } hp
            (.of_state ⟨⟨rfl, rfl, rfl, fun e => ⟨e, rfl, rfl⟩⟩, rfl⟩ rfl)).trans (.of_eq rfl)
        · exact .of_eq rfl
      · exact .of_eq rfl
  · exact .of_eq rfl

theorem State.Touch.slotsHandedOn {s t : State} (h : s.Touch t) : s.SlotsHandedOn t := by
  cases h with
  | unmark i p hp | renew i p hp =>
    exact s.setPermit_handedOn i p _ hp (.of_state ⟨⟨rfl, rfl, rfl, fun e => ⟨e, rfl, rfl⟩⟩, rfl⟩ rfl)
  | breaker => exact .of_eq (by simp)
  | pulseEnd | flow => exact .of_eq rfl
  | transmit => exact s.linkStage_handedOn

/-! ### Permits looked for in the table -/

/-- Some record has a property. -/
theorem State.anyPermit_eq_true {s : State} {f : Permit → Bool} :
    s.anyPermit f = true ↔ ∃ i p, Holds s i p ∧ f p = true := by
  simp only [State.anyPermit, List.any_eq_true, mem_allSlots, true_and, Holds]
  refine exists_congr fun i => ?_
  cases h : s.slots[i].permit <;> simp

/-- No record has a property. -/
theorem State.anyPermit_eq_false {s : State} {f : Permit → Bool} :
    s.anyPermit f = false ↔ ∀ i p, Holds s i p → f p = false := by
  rw [← Bool.not_eq_true, State.anyPermit_eq_true]
  simp

theorem State.connectLive_iff {s : State} :
    s.connectLive = true ↔ ∃ i p, Holds s i p ∧ p.kind = .connect ∧ p.state = .live := by
  simp [State.connectLive, State.anyPermit_eq_true]

theorem State.entryLive_iff {s : State} :
    s.entryLive = true ↔ ∃ i p, Holds s i p ∧ p.kind = .entry ∧ p.state = .live := by
  simp [State.entryLive, State.anyPermit_eq_true]

theorem State.entryCovers_iff {s : State} {k : Fin 4} :
    s.entryCovers k = true ↔ ∃ i p, Holds s i p ∧ p.kind = .entry ∧ p.state = .live ∧ meetsBay p.scope k = true := by
  simp [State.entryCovers, State.anyPermit_eq_true, and_assoc]

/-- The record of a slot after a write. -/
theorem State.setPermit_holds {s : State} {i j : Fin 48} {p q : Permit} :
    Holds (s.setPermit i p) j q ↔ if j = i then q = p else Holds s j q := by
  simp only [Holds, Fin.getElem_fin, State.setPermit_slots, getElem_put]
  split
  · simp [eq_comm]
  · exact Iff.rfl

/-- Slots that agree hold the same records. -/
theorem Holds.congr {s t : State} (h : t.slots = s.slots) {i : Fin 48} {p : Permit} : Holds t i p ↔ Holds s i p := by
  simp only [Holds, h]

end Sys2Proof.Machine
end

section
/-! PROOF. Every step keeps site laws 1, 2 and 4 (O53). -/

namespace Sys2Proof.Machine

open Sys2Proof.Safety Sys2Proof.Claims

/-! ### Outputs of the breaker -/

section OutputsFollow

variable {s : State}

theorem State.setBreaker_outputs {b : Breaker} (h : b.OutputsFollow) : BreakerOutputsFollowState (s.setBreaker b) := by
  rw [breakerOutputsFollowState_iff, State.setBreaker_breaker]; exact h

theorem State.arm_outputs (a : Bool) (h : BreakerOutputsFollowState s) : BreakerOutputsFollowState (s.arm a) := h

theorem State.openBreaker_outputs (h : BreakerOutputsFollowState s) : BreakerOutputsFollowState s.openBreaker :=
  State.setBreaker_outputs (Breaker.openNormally_follows _ _ h)

theorem State.tripBreaker_outputs (h : BreakerOutputsFollowState s) : BreakerOutputsFollowState s.tripBreaker :=
  State.setBreaker_outputs (Breaker.trip_follows _ _ h)

theorem outputs_of_breaker {t : State} (e : t.breaker = s.breaker) (h : BreakerOutputsFollowState s) :
    BreakerOutputsFollowState t := by
  rw [breakerOutputsFollowState_iff, e]; exact h

theorem State.connectGone_outputs (p : Permit) (fire : Bool) (h : BreakerOutputsFollowState s) :
    BreakerOutputsFollowState (s.connectGone p fire) := by
  simp only [State.connectGone]
  split
  · refine State.arm_outputs _ ?_
    split
    · exact State.tripBreaker_outputs h
    · exact State.openBreaker_outputs h
  · exact h

theorem State.revokeSlot_outputs (reason : Reason) (byOrder : Bool) (i : Fin 48) (h : BreakerOutputsFollowState s) :
    BreakerOutputsFollowState (s.revokeSlot reason byOrder i) := by
  simp only [State.revokeSlot]
  split
  · exact h
  · split
    · exact State.connectGone_outputs _ _ (outputs_of_breaker (by simp) h)
    · exact h

theorem State.revokeWhere_outputs (f : Permit → Bool) (reason : Reason) (h : BreakerOutputsFollowState s) :
    BreakerOutputsFollowState (s.revokeWhere f reason) := by
  refine foldl_keeps BreakerOutputsFollowState _ (fun t i ht => ?_) _ s h
  split
  · split
    · exact State.revokeSlot_outputs _ _ _ ht
    · exact ht
  · exact ht

theorem State.resumeConnect_outputs (h : BreakerOutputsFollowState s) : BreakerOutputsFollowState s.resumeConnect := by
  refine foldl_keeps BreakerOutputsFollowState _ (fun t i ht => ?_) _ s h
  split
  · next p _ =>
    split
    · dsimp only
      split
      · exact State.setBreaker_outputs (Breaker.close_follows _ _)
      · exact State.arm_outputs _ (outputs_of_breaker (by simp) ht)
    · exact ht
  · exact ht

theorem State.fireAndAlarm_outputs (h : BreakerOutputsFollowState s) : BreakerOutputsFollowState s.fireAndAlarm := by
  refine foldl_keeps BreakerOutputsFollowState _ (fun t k ht => ?_) _ s.fireStage (outputs_of_breaker (by simp) h)
  have hr := State.tripBreaker_outputs (State.revokeWhere_outputs (·.metByAlarm k) .fire ht)
  exact outputs_of_breaker (t := t.alarmEntry k) (by simp [State.alarmEntry, Permit.metByAlarm]) hr

end OutputsFollow

theorem State.Effect.outputs {s t : State} (h : s.Effect t) (hs : BreakerOutputsFollowState s) :
    BreakerOutputsFollowState t := by
  cases h with
  | revokeSlot r b i => exact State.revokeSlot_outputs r b i hs
  | revokeWhere f r => exact State.revokeWhere_outputs f r hs
  | gridFalls =>
    exact outputs_of_breaker (State.suspendConnect_breaker _)
      (State.openBreaker_outputs (s := s.setReconnect none false) hs)
  | gridReturns => exact State.resumeConnect_outputs (s := s.setReconnect none true) hs
  | fireAndAlarm => exact State.fireAndAlarm_outputs hs
  | senses h => exact outputs_of_breaker (by rw [h.frame]) hs
  | linkState h => exact outputs_of_breaker (by rw [h]) hs
  | amend i p => exact outputs_of_breaker (by simp only [State.amendSlot]; split <;> simp) hs
  | reduce | riseEnd | quietBay | releaseBay | replaceContactor | refitContactors | refitCooling | checkMatch
  | connectStage | isolateStage | evaluateStage =>
    exact outputs_of_breaker (by simp [State.reduceSlot, State.endRise, State.quietBay, State.releaseBay,
      State.replaceContactor, State.refitContactors, State.refitCooling]) hs
  | fireInputs | cool | flowFault | contactor | setMode | loadContactors | opened | doorStage | coolStage => exact hs

theorem State.First.outputs {s t : State} (h : s.First t) (hs : BreakerOutputsFollowState s) :
    BreakerOutputsFollowState t := by
  cases h with
  | grant =>
    simp only [State.grantSlot]
    split <;> exact hs
  | retire i p hp =>
    simp only [State.retireSlot]
    split
    · exact hs
    · exact State.connectGone_outputs _ _ hs
  | load => exact outputs_of_breaker (by simp [State.loadUnit]) hs
  | refit => exact outputs_of_breaker (by simp [State.refitUnit, State.refitStrings]) hs

theorem breakerOutputs_kept : StepKeeps BreakerOutputsFollowState BreakerOutputsFollowState :=
  StepKeeps.ofMoves (fun _ _ h => h) (fun _ _ a => outputs_of_breaker a.breaker)
    (fun s t h hs => by
      cases h with
      | breaker b hb => exact State.setBreaker_outputs (hb.outputs hs)
      | transmit => exact outputs_of_breaker (by simp) hs
      | unmark | renew | pulseEnd | flow => exact hs)
    (fun _ _ => State.Effect.outputs) (fun _ _ => State.First.outputs)
    (fun s _ _ _ _ => by
      refine ⟨rfl, ?_, ?_⟩ <;> simp [State.afterReset, Breaker.atReset])

/-! ### Limits and kinds -/

theorem State.SlotsRemain.limitsFollowKind {s t : State} (h : s.SlotsRemain t) (hs : LimitsFollowKind s) :
    LimitsFollowKind t := by
  intro i q hq
  obtain ⟨p, hp, hpq⟩ := h.back hq
  rw [hpq.limits, hpq.stands.1]
  exact hs i p hp

/-- A record that a GRANT writes holds limits exactly for CHARGE and DISCHARGE (R9). -/
theorem State.grantedPermit_limits (s : State) (kind : Kind) (holder : Holder) (o : GrantOps) :
    (s.grantedPermit kind holder o).limits.isSome = (s.grantedPermit kind holder o).kind.hasLimit := by
  cases kind <;> rfl

/-- The records after one of the first effects: granted, or held before. -/
theorem State.First.holds {s t : State} (h : s.First t) {i : Fin 48} {q : Permit} (hq : Holds t i q) :
    Holds s i q ∨ ∃ kind holder o, s.grantRefusal kind holder o = none ∧ s.freeSlot = some i ∧
      q = s.grantedPermit kind holder o ∧ t.slots = (s.setPermit i q).slots := by
  cases h with
  | grant j kind holder _ _ _ _ _ _ hr hj =>
    rw [Holds.congr (State.grantSlot_slots s j kind holder _), State.setPermit_holds] at hq
    split at hq
    · next e => subst e; subst hq; exact .inr ⟨kind, holder, _, hr, hj, rfl, State.grantSlot_slots _ _ _ _ _⟩
    · exact .inl hq
  | retire j p hp =>
    rw [Holds, Fin.getElem_fin, State.retireSlot_slots_self s j p hp, getElem_put] at hq
    split at hq
    · cases hq
    · exact .inl hq
  | load => exact .inl ((Holds.congr (State.loadUnit_slots s)).1 hq)
  | refit p => exact .inl ((Holds.congr (State.refitUnit_slots s p)).1 hq)

theorem State.First.limitsFollowKind {s t : State} (h : s.First t) (hs : LimitsFollowKind s) : LimitsFollowKind t := by
  intro i q hq
  rcases h.holds hq with hp | ⟨kind, holder, o, -, -, rfl, -⟩
  · exact hs i q hp
  · exact s.grantedPermit_limits kind holder o

/-- After a reset every slot is FREE. -/
theorem State.afterReset_free (s : State) (clock : SiteTime) (next : Nat) (x : Transaction) (i : Fin 48) (p : Permit) :
    ¬Holds { s.afterReset clock next with transaction := x } i p := by
  have h : ∀ i : Fin 48, State.reset.slots[i].permit = none := by decide
  intro hp
  have e : Holds State.reset i p := hp
  rw [Holds, h i] at e
  cases e

/-- What an invariant needs to be kept together with the having of limits. -/
theorem StepKeeps.withLimits {P : State → Prop} (queue : ∀ s rest, P s → P { s with pending := rest })
    (aside : ∀ s t, s.Aside t → LimitsFollowKind s → P s → P t)
    (touch : ∀ s t, s.Touch t → LimitsFollowKind s → P s → P t)
    (effect : ∀ s t, s.Effect t → LimitsFollowKind s → P s → P t)
    (first : ∀ s t, s.First t → LimitsFollowKind s → P s → P t)
    (reset : ∀ s clock next x, P s → P { s.afterReset clock next with transaction := x }) :
    StepKeeps (fun s => LimitsFollowKind s ∧ P s) (fun s => LimitsFollowKind s ∧ P s) :=
  StepKeeps.ofMoves (fun s rest ⟨hl, h⟩ => ⟨hl, queue s rest h⟩)
    (fun s t a ⟨hl, h⟩ => ⟨(State.SlotsRemain.of_eq a.slots).limitsFollowKind hl, aside s t a hl h⟩)
    (fun s t a ⟨hl, h⟩ => ⟨a.slotsRemain.limitsFollowKind hl, touch s t a hl h⟩)
    (fun s t a ⟨hl, h⟩ => ⟨a.slotsRemain.limitsFollowKind hl, effect s t a hl h⟩)
    (fun s t a ⟨hl, h⟩ => ⟨a.limitsFollowKind hl, first s t a hl h⟩)
    (fun s clock next x ⟨_, h⟩ => ⟨fun i p hp => absurd hp (s.afterReset_free clock next x i p), reset s clock next x h⟩)

/-! ### The breaker under a LIVE CONNECT -/

/-- A move of the table that keeps LIVE records without limits LIVE keeps a LIVE CONNECT. -/
theorem connectLive_forth {R : Permit → Permit → Prop} {s t : State} (h : s.SlotsRel R t) (hl : LimitsFollowKind s)
    (hR : ∀ p q, R p q → p.kind = .connect → p.limits = none → p.state = .live → q.kind = .connect ∧ q.state = .live)
    (hs : s.connectLive = true) : t.connectLive = true := by
  rw [State.connectLive_iff] at hs ⊢
  obtain ⟨i, p, hp, hk, hst⟩ := hs
  obtain ⟨q, hq, hpq⟩ := h.forth hp
  have hn : p.limits = none := by
    have e := hl i p hp
    rw [hk] at e
    simpa [Kind.hasLimit] using e
  exact ⟨i, q, hq, hR p q hpq hk hn hst⟩

theorem State.SlotsHandedOn.connectLive {s t : State} (h : s.SlotsHandedOn t) (hl : LimitsFollowKind s)
    (hs : s.connectLive = true) : t.connectLive = true :=
  connectLive_forth h hl (fun _ _ hpq hk hn hst => ⟨hpq.remains.stands.1.trans hk, hpq.stays hn hst⟩) hs

/-- Site law 4 goes over where the breaker is no more commanded closed and a LIVE CONNECT stays. -/
theorem closedUnder_of {s t : State} (h : ClosedUnderLiveConnect s)
    (hb : t.breaker.state.commandsClosed = true → s.breaker.state.commandsClosed = true)
    (hc : s.connectLive = true → t.connectLive = true) : ClosedUnderLiveConnect t := fun e => hc (h (hb e))

theorem connectLive_congr {s t : State} (h : t.slots = s.slots) : t.connectLive = s.connectLive := by
  rw [Bool.eq_iff_iff, State.connectLive_iff, State.connectLive_iff]
  simp only [Holds.congr h]

theorem closedUnder_congr {s t : State} (h : ClosedUnderLiveConnect s) (hb : t.breaker = s.breaker)
    (hs : t.slots = s.slots) : ClosedUnderLiveConnect t :=
  closedUnder_of h (fun e => hb ▸ e) (fun e => (connectLive_congr hs).trans e)

/-- Hand-offs beside the breaker keep site law 4. -/
theorem State.SlotsHandedOn.closedUnder {s t : State} (h : s.SlotsHandedOn t) (hb : t.breaker = s.breaker)
    (hl : LimitsFollowKind s) (hs : ClosedUnderLiveConnect s) : ClosedUnderLiveConnect t :=
  closedUnder_of hs (fun e => hb ▸ e) (h.connectLive hl)

/-- A breaker that is not commanded closed meets site law 4. -/
theorem closedUnder_of_open {s : State} (h : s.breaker.state.commandsClosed = false) : ClosedUnderLiveConnect s :=
  fun e => by rw [h] at e; cases e

/-- Where a LIVE CONNECT goes the breaker opens. -/
theorem State.connectGone_open (s : State) (p : Permit) (fire : Bool) (hk : p.kind = .connect) (hs : p.state = .live) :
    (s.connectGone p fire).breaker.state.commandsClosed = false := by
  have hls : p.liveOrSuspended = true := (Permit.liveOrSuspended_iff p).2 (.inl hs)
  rw [State.connectGone, if_pos (by simp [hk, hls])]
  cases fire
  · simp only [Bool.false_eq_true, if_false, State.arm, State.openBreaker, State.setBreaker_breaker]
    exact Breaker.openNormally_commandsClosed _ _
  · simp only [if_true, State.arm, State.tripBreaker, State.setBreaker_breaker]
    exact Breaker.trip_commandsClosed _ _

/-- What is handed on where a CONNECT goes commands the breaker closed nowhere. -/
theorem State.connectGone_closed (s : State) (p : Permit) (fire : Bool)
    (h : (s.connectGone p fire).breaker.state.commandsClosed = true) : s.breaker.state.commandsClosed = true := by
  rw [State.connectGone] at h
  split at h
  · cases fire
    · simp only [Bool.false_eq_true, if_false, State.arm, State.openBreaker, State.setBreaker_breaker,
        Breaker.openNormally_commandsClosed] at h
    · simp only [if_true, State.arm, State.tripBreaker, State.setBreaker_breaker, Breaker.trip_commandsClosed,
        Bool.false_eq_true] at h
  · exact h

/-- A record that goes: where it is no LIVE CONNECT, the LIVE CONNECT that was stands in another slot. -/
theorem closedUnder_goes {s u : State} {i : Fin 48} {p : Permit} (fire : Bool) (hs : ClosedUnderLiveConnect s)
    (hp : Holds s i p) (hu : u.breaker = s.breaker) (ho : ∀ j q, j ≠ i → Holds s j q → Holds u j q) :
    ClosedUnderLiveConnect (u.connectGone p fire) := by
  by_cases hc : p.kind = .connect ∧ p.state = .live
  · exact closedUnder_of_open (State.connectGone_open u p fire hc.1 hc.2)
  · refine closedUnder_of hs (fun e => hu ▸ State.connectGone_closed u p fire e) (fun e => ?_)
    rw [connectLive_congr (State.connectGone_slots u p fire)]
    rw [State.connectLive_iff] at e ⊢
    obtain ⟨j, q, hq, hk, hst⟩ := e
    refine ⟨j, q, ho j q (fun e => hc ?_) hq, hk, hst⟩
    subst e
    rw [Holds, hp] at hq
    cases hq
    exact ⟨hk, hst⟩

theorem State.revokeSlot_closedUnder {s : State} (reason : Reason) (byOrder : Bool) (i : Fin 48)
    (hs : ClosedUnderLiveConnect s) : ClosedUnderLiveConnect (s.revokeSlot reason byOrder i) := by
  simp only [State.revokeSlot]
  split
  · exact hs
  · next p hp =>
    split
    · refine closedUnder_goes _ hs hp (by simp) (fun j q hj hq => ?_)
      rw [Holds.congr (State.raiseIf_slots _ _ _), State.setPermit_holds, if_neg hj]
      exact hq
    · exact hs

theorem State.revokeWhere_closedUnder {s : State} (f : Permit → Bool) (reason : Reason)
    (hs : ClosedUnderLiveConnect s) : ClosedUnderLiveConnect (s.revokeWhere f reason) := by
  refine foldl_keeps ClosedUnderLiveConnect _ (fun t i ht => ?_) _ s hs
  split
  · split
    · exact State.revokeSlot_closedUnder _ _ _ ht
    · exact ht
  · exact ht

theorem State.alarmEntry_open (s : State) (k : Fin 4) :
    (s.alarmEntry k).breaker.state.commandsClosed = false := by
  simp only [State.alarmEntry, State.freePath_breaker, State.openBay_breaker, State.tripBreaker,
    State.setBreaker_breaker, Breaker.trip_commandsClosed]

theorem State.fireAndAlarm_closedUnder {s : State} (hs : ClosedUnderLiveConnect s) :
    ClosedUnderLiveConnect s.fireAndAlarm :=
  foldl_keeps ClosedUnderLiveConnect _ (fun t k _ => closedUnder_of_open (t.alarmEntry_open k)) _ s.fireStage
    (closedUnder_congr hs (by simp) (by simp))

/-- A CONNECT resumed is LIVE, so its breaker may close. -/
theorem State.resumeConnect_closedUnder {s : State} (hs : ClosedUnderLiveConnect s) :
    ClosedUnderLiveConnect s.resumeConnect := by
  refine foldl_keeps ClosedUnderLiveConnect _ (fun t i ht => ?_) _ s hs
  split
  · next p hp =>
    split
    · next hc =>
      have hlive : ∀ u : State, u.slots = (t.setPermit i p.gridBack).slots → u.connectLive = true := fun u hu =>
        State.connectLive_iff.2 ⟨i, p.gridBack, by rw [Holds.congr hu, State.setPermit_holds, if_pos rfl], hc.1, rfl⟩
      dsimp only
      split
      · exact fun _ => hlive _ (by simp)
      · exact fun _ => hlive _ (by simp)
    · exact ht
  · exact ht

theorem State.amendSlot_handedOn (s : State) (i : Fin 48) (p : Permit) (o : AmendOps)
    (hp : s.slots[i.val].permit = some p) (hr : p.state ≠ .revoked) : s.SlotsHandedOn (s.amendSlot i p o) := by
  have h := s.setPermit_handedOn i p _ hp (.of_state (p.amended_remains o s.now hr) rfl)
  simp only [State.amendSlot]
  split
  · exact h.trans (State.retargetSlot_handedOn _ _ _)
  · exact h

theorem State.reduceSlot_handedOn (s : State) (i : Fin 48) (p : Permit) (limit : Nat)
    (hp : s.slots[i.val].permit = some p) (hr : p.state ≠ .revoked) : s.SlotsHandedOn (s.reduceSlot i p limit) :=
  (s.setPermit_handedOn i p { p with limits := p.limits.map fun l => ⟨limit, l.effective, l.rise⟩ } hp
    (.of_state (Permit.remains_of_standing hr rfl rfl rfl (by simp)) rfl)).trans (State.retargetSlot_handedOn _ _ _)

/-- A rise ends on a record with limits, so not on a CONNECT. -/
theorem State.endRise_closedUnder {s : State} {i : Fin 48} {p : Permit} {l : Limits} {r : Rise}
    (hp : s.slots[i.val].permit = some p) (hl : p.limits = some l) (hk : LimitsFollowKind s)
    (hs : ClosedUnderLiveConnect s) : ClosedUnderLiveConnect (s.endRise i p l r) := by
  refine closedUnder_of hs (fun e => by simpa [State.endRise] using e) (fun e => ?_)
  rw [State.connectLive_iff] at e
  obtain ⟨j, q, hq, hc, hst⟩ := e
  have hn : q.limits.isSome = false := by rw [hk j q hq, hc]; rfl
  have hj : j ≠ i := by
    rintro rfl
    rw [Holds, Fin.getElem_fin, hp] at hq
    cases hq
    simp [hl] at hn
  have hq' : Holds (s.setPermit i (p.applyPending l r)) j q := by rw [State.setPermit_holds, if_neg hj]; exact hq
  have hq'' := (Holds.congr (State.raise_slots (s.setPermit i (p.applyPending l r)) .permit)).2 hq'
  obtain ⟨q2, hq2, h2⟩ := (State.retargetSlot_handedOn _ .other i).forth hq''
  exact State.connectLive_iff.2 ⟨j, q2, hq2, h2.remains.stands.1.trans hc, h2.stays (by simpa using hn) hst⟩

theorem State.Effect.closedUnder {s t : State} (h : s.Effect t) (hl : LimitsFollowKind s)
    (hs : ClosedUnderLiveConnect s) : ClosedUnderLiveConnect t := by
  cases h with
  | revokeSlot r b i => exact State.revokeSlot_closedUnder r b i hs
  | revokeWhere f r => exact State.revokeWhere_closedUnder f r hs
  | gridFalls =>
    refine closedUnder_of_open ?_
    simp only [State.gridFalls, State.suspendConnect_breaker, State.openBreaker, State.setBreaker_breaker,
      Breaker.openNormally_commandsClosed]
  | gridReturns => exact State.resumeConnect_closedUnder (s := s.setReconnect none true) hs
  | fireAndAlarm => exact State.fireAndAlarm_closedUnder hs
  | amend i p _ _ _ _ _ hp ho =>
    refine (s.amendSlot_handedOn i p _ hp (Permit.amendRefusal_standing ho)).closedUnder ?_ hl hs
    simp only [State.amendSlot]; split <;> simp
  | reduce i p limit hp hr =>
    exact (s.reduceSlot_handedOn i p limit hp hr).closedUnder (by simp [State.reduceSlot]) hl hs
  | riseEnd i p l r hp hpl => exact State.endRise_closedUnder hp hpl hl hs
  | isolateStage g => exact (s.isolateStage_handedOn g).closedUnder (by simp) hl hs
  | evaluateStage => exact s.evaluateStage_handedOn.closedUnder (by simp) hl hs
  | senses h => exact closedUnder_congr hs (by rw [h.frame]) (by rw [h.frame])
  | linkState h => exact closedUnder_congr hs (by rw [h]) (by rw [h])
  | quietBay | releaseBay | replaceContactor | refitContactors | refitCooling | checkMatch | connectStage =>
    refine closedUnder_congr hs ?_ ?_ <;>
      simp [State.quietBay, State.releaseBay, State.replaceContactor, State.refitContactors, State.refitCooling]
  | fireInputs | cool | flowFault | contactor | setMode | loadContactors | opened | doorStage | coolStage => exact hs

theorem State.First.closedUnder {s t : State} (h : s.First t) (hs : ClosedUnderLiveConnect s) :
    ClosedUnderLiveConnect t := by
  cases h with
  | grant i kind holder _ _ _ _ _ _ _ hi =>
    refine closedUnder_of hs (fun e => ?_) (fun e => ?_)
    · simp only [State.grantSlot] at e
      split at e <;> exact e
    · rw [connectLive_congr (State.grantSlot_slots s i kind holder _)]
      rw [State.connectLive_iff] at e ⊢
      obtain ⟨j, q, hq, hk, hst⟩ := e
      refine ⟨j, q, ?_, hk, hst⟩
      rw [State.setPermit_holds, if_neg]
      · exact hq
      · rintro rfl
        rw [Holds, Fin.getElem_fin, State.freeSlot_free hi] at hq
        cases hq
  | retire i p hp =>
    have e : s.retireSlot i = (s.setSlot i ⟨s.slots[i].generation + 1, none⟩).connectGone p false := by
      simp [State.retireSlot, hp]
    rw [e]
    refine closedUnder_goes false hs hp rfl (fun j q hj hq => ?_)
    rw [Holds, Fin.getElem_fin, State.setSlot_slots, getElem_put_ne _ _ _ _ hj]
    exact hq
  | load => exact closedUnder_congr hs (by simp [State.loadUnit]) (by simp)
  | refit => exact closedUnder_congr hs (by simp [State.refitUnit, State.refitStrings]) (by simp)

theorem State.Touch.closedUnder {s t : State} (h : s.Touch t) (hl : LimitsFollowKind s)
    (hs : ClosedUnderLiveConnect s) : ClosedUnderLiveConnect t := by
  cases h with
  | breaker b hb =>
    intro e
    rw [State.setBreaker_breaker] at e
    rw [connectLive_congr (State.setBreaker_slots s b)]
    exact (hb.closes e).elim hs id
  | unmark i p hp => exact (State.Touch.unmark i p hp).slotsHandedOn.closedUnder rfl hl hs
  | renew i p hp hr => exact (State.Touch.renew i p hp hr).slotsHandedOn.closedUnder rfl hl hs
  | transmit => exact s.linkStage_handedOn.closedUnder (by simp) hl hs
  | pulseEnd | flow => exact hs

theorem closedUnder_kept :
    StepKeeps (fun s => LimitsFollowKind s ∧ ClosedUnderLiveConnect s)
      (fun s => LimitsFollowKind s ∧ ClosedUnderLiveConnect s) :=
  StepKeeps.withLimits (fun _ _ h => h) (fun _ _ a _ h => closedUnder_congr h a.breaker a.slots)
    (fun _ _ => State.Touch.closedUnder) (fun _ _ => State.Effect.closedUnder) (fun _ _ a _ => a.closedUnder)
    (fun _ _ _ _ _ => closedUnder_of_open rfl)

/-! ### One permit of a kind -/

/-- A relation on the records of two slots that the permits granted one after another meet: law `L` on standing records
goes over where records remain, and a grant establishes it for its record. -/
theorem pairLaw_kept (L : Permit → Permit → Prop)
    (remains : ∀ p q p' q', p.Remains p' → q.Remains q' → L p' q' → L p q)
    (symm : ∀ p q, L p q → L q p)
    (granted : ∀ (s : State) kind holder o q, s.grantRefusal kind holder o = none → (∃ j, Holds s j q) →
      ¬L (s.grantedPermit kind holder o) q) :
    StepKeeps (fun s => ∀ i j p q, Holds s i p → Holds s j q → L p q → i = j)
      (fun s => ∀ i j p q, Holds s i p → Holds s j q → L p q → i = j) := by
  have hrem : ∀ s t : State, s.SlotsRemain t → (∀ i j p q, Holds s i p → Holds s j q → L p q → i = j) →
      ∀ i j p q, Holds t i p → Holds t j q → L p q → i = j := by
    intro s t h hs i j p' q' hp' hq' hl
    obtain ⟨p, hp, hpp⟩ := h.back hp'
    obtain ⟨q, hq, hqq⟩ := h.back hq'
    exact hs i j p q hp hq (remains p q p' q' hpp hqq hl)
  refine StepKeeps.ofMoves (fun _ _ h => h) (fun s t a => hrem s t (.of_eq a.slots)) (fun s t a => hrem s t a.slotsRemain)
    (fun s t a => hrem s t a.slotsRemain) ?_ ?_
  · intro s t a hs i j p q hp hq hl
    rcases a.holds hp with hp' | ⟨kind, holder, o, hr, hi, rfl, he⟩
    · rcases a.holds hq with hq' | ⟨kind, holder, o, hr, hj, rfl, he⟩
      · exact hs i j p q hp' hq' hl
      · by_contra hne
        rw [Holds.congr he, State.setPermit_holds, if_neg hne] at hp
        exact granted s kind holder o p hr ⟨i, hp⟩ (symm _ _ hl)
    · by_contra hne
      rw [Holds.congr he, State.setPermit_holds, if_neg (Ne.symm hne)] at hq
      exact granted s kind holder o q hr ⟨j, hq⟩ hl
  · intro s clock next x _ i j p q hp
    exact absurd hp (s.afterReset_free clock next x i p)

/-- The checks of a grant that is not refused (R4). -/
theorem State.grantRefusal_passed {s : State} {kind : Kind} {holder : Holder} {o : GrantOps}
    (h : s.grantRefusal kind holder o = none) :
    grantFieldRefused kind holder o s.unit.clock = false ∧ s.fireMeets kind o.scope = false ∧
      s.clashes kind o.scope = false := by
  simp only [State.grantRefusal, orElse_eq_none, refuseWhen_eq_none] at h
  obtain ⟨-, -, -, hf, -, -, hm, hc, -⟩ := h
  exact ⟨hf, hm, hc⟩

/-- Two scopes that hold one string meet. -/
theorem scopes_meet {a b : BitVec 8} {n : Fin 8} (ha : inScope a n = true) (hb : inScope b n = true) :
    (a &&& b) != 0 := by
  simp only [inScope] at ha hb
  rw [bne_iff_ne]
  intro e
  have h : (a &&& b).getLsbD n.val = true := by rw [BitVec.getLsbD_and, ha, hb]; rfl
  rw [e] at h
  simp at h

/-- Two standing CHARGE or two standing DISCHARGE permits with a string in common. -/
def LimitClash (p q : Permit) : Prop :=
  p.kind = q.kind ∧ p.kind.hasLimit = true ∧ p.standing = true ∧ q.standing = true ∧
    ∃ n, inScope p.scope n = true ∧ inScope q.scope n = true

/-- Two standing CONNECT permits. -/
def ConnectClash (p q : Permit) : Prop :=
  p.kind = .connect ∧ q.kind = .connect ∧ p.standing = true ∧ q.standing = true

theorem oneLimit_kept : StepKeeps (fun s => ∀ i j p q, Holds s i p → Holds s j q → LimitClash p q → i = j)
    (fun s => ∀ i j p q, Holds s i p → Holds s j q → LimitClash p q → i = j) := by
  refine pairLaw_kept LimitClash ?_ ?_ ?_
  · rintro p q p' q' hp hq ⟨hk, hl, hs, hs', n, hn, hn'⟩
    rw [hp.stands.1, hq.stands.1] at hk
    rw [hp.stands.1] at hl
    rw [hp.stands.2.2.1] at hn
    rw [hq.stands.2.2.1] at hn'
    exact ⟨hk, hl, hp.standing hs, hq.standing hs', n, hn, hn'⟩
  · rintro p q ⟨hk, hl, hs, hs', n, hn, hn'⟩
    exact ⟨hk.symm, hk ▸ hl, hs', hs, n, hn', hn⟩
  · rintro s kind holder o q hr ⟨j, hq⟩ ⟨hk, hl, -, hs, n, hn, hn'⟩
    obtain ⟨-, -, hc⟩ := State.grantRefusal_passed hr
    have hf := State.anyPermit_eq_false.1 hc j q hq
    have hm := scopes_meet hn' hn
    change kind = q.kind at hk
    change kind.hasLimit = true at hl
    change (q.scope &&& o.scope) != 0 at hm
    subst hk
    cases hkq : q.kind <;> rw [hkq] at hl hf <;> simp_all [Kind.hasLimit]

theorem oneConnect_kept : StepKeeps (fun s => ∀ i j p q, Holds s i p → Holds s j q → ConnectClash p q → i = j)
    (fun s => ∀ i j p q, Holds s i p → Holds s j q → ConnectClash p q → i = j) := by
  refine pairLaw_kept ConnectClash ?_ ?_ ?_
  · rintro p q p' q' hp hq ⟨hk, hk', hs, hs'⟩
    rw [hp.stands.1] at hk
    rw [hq.stands.1] at hk'
    exact ⟨hk, hk', hp.standing hs, hq.standing hs'⟩
  · rintro p q ⟨hk, hk', hs, hs'⟩
    exact ⟨hk', hk, hs', hs⟩
  · rintro s kind holder o q hr ⟨j, hq⟩ ⟨hk, hk', -, hs⟩
    obtain ⟨-, -, hc⟩ := State.grantRefusal_passed hr
    have hf := State.anyPermit_eq_false.1 hc j q hq
    change kind = .connect at hk
    subst hk
    simp [hk', hs] at hf

theorem oneLimitPermitPerString_iff (s : State) :
    OneLimitPermitPerString s ↔ ∀ i j p q, Holds s i p → Holds s j q → LimitClash p q → i = j := by
  constructor
  · rintro h i j p q hp hq ⟨hk, hl, hs, hs', n, hn, hn'⟩
    exact h i j p q n hp hq hk hl hs hs' hn hn'
  · intro h i j p q n hp hq hk hl hs hs' hn hn'
    exact h i j p q hp hq ⟨hk, hl, hs, hs', n, hn, hn'⟩

theorem oneConnect_iff (s : State) :
    OneConnect s ↔ ∀ i j p q, Holds s i p → Holds s j q → ConnectClash p q → i = j := by
  constructor
  · rintro h i j p q hp hq ⟨hk, hk', hs, hs'⟩
    exact h i j p q hp hq hk hk' hs hs'
  · intro h i j p q hp hq hk hk' hs hs'
    exact h i j p q hp hq ⟨hk, hk', hs, hs'⟩

/-- Settles O53: each of the laws is kept by every move of a step's course. -/
theorem stepsKeepPermitAndBreakerLaws : Obligations.StepsKeepPermitAndBreakerLaws := by
  refine ⟨⟨fun s t => breakerOutputs_kept.step s t, fun s t hl hc => closedUnder_kept.step s t ⟨hl, hc⟩⟩, ?_, ?_⟩
  · intro s t h hst
    rw [oneLimitPermitPerString_iff] at h ⊢
    exact oneLimit_kept.step s t h hst
  · intro s t h hst
    rw [oneConnect_iff] at h ⊢
    exact oneConnect_kept.step s t h hst

end Sys2Proof.Machine
end

section
/-! PROOF. Every step keeps site law 9, the door lock and service-readiness following what they derive from (O57). -/

namespace Sys2Proof.Machine

open Sys2Proof.Safety Sys2Proof.Claims

/-! ### Envelopes -/

/-- The state of an event's settling that the evaluation of the String Table reads. -/
def State.beforeEvaluation (s : State) (g : Option (Fin 48)) : State :=
  (s.doorStage.fireAndAlarm.coolStage.connectStage).isolateStage g

theorem State.settleWith_eq (s : State) (g : Option (Fin 48)) :
    s.settleWith g = (s.beforeEvaluation g).evaluateStage.linkStage.startUpStage := rfl

theorem State.beforeEvaluation_loaded (s : State) (g : Option (Fin 48)) : (s.beforeEvaluation g).loaded = s.loaded := by
  simp [State.beforeEvaluation]

theorem State.beforeEvaluation_strings (s : State) (g : Option (Fin 48)) :
    (s.beforeEvaluation g).strings = s.strings := by simp [State.beforeEvaluation]

/-- The String Table after its evaluation. -/
theorem State.evaluateStage_strings (s : State) (h : s.loaded = true) :
    s.evaluateStage.strings = tab8 fun i => s.strings[i].evaluate s.unit.active (s.conditions i) := by
  rw [State.evaluateStage, if_pos h, State.handOff_strings]
  rfl

theorem State.evaluateStage_unloaded (s : State) (h : s.loaded = false) : s.evaluateStage = s := by
  simp [State.evaluateStage, h]

/-- MODULES reads a string's bus, its online count and the active profile. -/
theorem modulesHold_congr {s t : State} (i : Fin 8) (hp : t.buses[i.val].isPolling = s.buses[i.val].isPolling)
    (hr : t.buses[i.val].roster = s.buses[i.val].roster)
    (hc : t.strings[i.val].onlineCount = s.strings[i.val].onlineCount) (ha : t.unit.active = s.unit.active) :
    t.modulesHold i = s.modulesHold i := by
  simp only [State.modulesHold, State.allExpectedOnline, Bus.onlineAt, Bus.entry, Fin.getElem_fin, hp, hr, hc, ha]

/-- Under the conditions of site law 9 both envelopes are 0 (R49). -/
theorem envelopes_zero (p : Profile) (r : StringRec) (c : Conditions)
    (h : c.fitted = false ∨ c.outOfService = true ∨ c.modules = true) :
    (r.evaluate p c).chargeEnvelope = 0 ∧ (r.evaluate p c).dischargeEnvelope = 0 := by
  simp only [StringRec.evaluate, chargeEnvelopeOf, dischargeEnvelopeOf]
  rcases h with h | h | h <;> simp [h]

/-- Site law 9 for one string, by its record, its contactor and its bus. -/
theorem envelopesZero_congr {s t : State} (hl : t.loaded = s.loaded)
    (hs : ∀ i : Fin 8, t.strings[i.val] = { s.strings[i.val] with bandChanged := t.strings[i.val].bandChanged })
    (hc : ∀ i : Fin 8, t.contactors[i.val].state = s.contactors[i.val].state)
    (hm : ∀ i : Fin 8, t.modulesHold i = s.modulesHold i) (h : EnvelopesZero s) : EnvelopesZero t := by
  intro i hi
  simp only [Fin.getElem_fin] at hi ⊢
  rw [hl, hc, hm, hs i] at hi
  rw [hs i]
  simpa only [Fin.getElem_fin] using h i (by simpa only [Fin.getElem_fin] using hi)

theorem State.Aside.modulesHold {s t : State} (a : s.Aside t) (i : Fin 8) : t.modulesHold i = s.modulesHold i :=
  modulesHold_congr i (a.buses i).polling (a.buses i).roster (by rw [a.strings i]) a.active

theorem State.Aside.envelopesZero {s t : State} (a : s.Aside t) (h : EnvelopesZero s) : EnvelopesZero t :=
  envelopesZero_congr a.loaded a.strings (fun i => (a.contactors i).state) a.modulesHold h

/-- A touch leaves strings, buses, contactors and the profile. -/
theorem State.Touch.frame {s t : State} (h : s.Touch t) :
    t.strings = s.strings ∧ t.buses = s.buses ∧ t.contactors = s.contactors ∧ t.unit = s.unit ∧ t.loaded = s.loaded ∧
      t.doorReleased = s.doorReleased ∧ t.now = s.now := by
  cases h <;> simp

theorem State.Touch.modulesHold {s t : State} (h : s.Touch t) (i : Fin 8) : t.modulesHold i = s.modulesHold i := by
  obtain ⟨hs, hb, -, hu, -⟩ := h.frame
  exact modulesHold_congr i (by rw [hb]) (by rw [hb]) (by rw [hs]) (by rw [hu])

theorem State.Touch.envelopesZero {s t : State} (a : s.Touch t) (h : EnvelopesZero s) : EnvelopesZero t := by
  obtain ⟨hs, -, hc, -, hl, -⟩ := a.frame
  exact envelopesZero_congr hl (fun i => by rw [hs]) (fun i => by rw [hc]) a.modulesHold h

/-- Before the start-up load all envelopes are 0 (R38). -/
def State.UnloadedZero (s : State) : Prop :=
  s.loaded = false → ∀ i : Fin 8, s.strings[i.val].chargeEnvelope = 0 ∧ s.strings[i.val].dischargeEnvelope = 0

/-- Envelopes that stand, and a load that is not undone. -/
theorem State.UnloadedZero.congr {s t : State} (h : s.UnloadedZero) (hl : t.loaded = false → s.loaded = false)
    (hs : ∀ i : Fin 8, t.strings[i.val].chargeEnvelope = s.strings[i.val].chargeEnvelope ∧
      t.strings[i.val].dischargeEnvelope = s.strings[i.val].dischargeEnvelope) : t.UnloadedZero := fun e i => by
  obtain ⟨hc, hd⟩ := hs i
  rw [hc, hd]
  exact h (hl e) i

theorem State.Effect.unloadedZero {s t : State} (a : s.Effect t) (h : s.UnloadedZero) : t.UnloadedZero := by
  have same : t.strings = s.strings → (t.loaded = false → s.loaded = false) → t.UnloadedZero := fun e hl =>
    h.congr hl fun i => by rw [e]; exact ⟨rfl, rfl⟩
  cases a with
  | senses k => exact h.congr (fun e => by rw [k.frame] at e; exact e) fun i => (k.strings i).2
  | linkState k => exact same (by rw [k]) (by rw [k]; exact id)
  | evaluateStage =>
    intro e
    rw [State.evaluateStage_loaded] at e
    rw [State.evaluateStage_unloaded s e]
    exact h e
  | amend i p => exact same (by simp only [State.amendSlot]; split <;> simp) (by simp only [State.amendSlot]; split <;> simp)
  | opened => exact same rfl nofun
  | fireInputs | cool | flowFault | contactor | setMode | loadContactors | doorStage | coolStage => exact same rfl id
  | revokeSlot | revokeWhere | reduce | riseEnd | gridFalls | gridReturns | quietBay | releaseBay | replaceContactor
  | checkMatch | refitContactors | refitCooling | fireAndAlarm | connectStage | isolateStage =>
    refine same ?_ ?_ <;> simp [State.reduceSlot, State.endRise, State.gridFalls, State.quietBay, State.releaseBay,
      State.replaceContactor, State.refitContactors, State.refitCooling]

/-- A commit leaves the envelopes for the comparison of R54. -/
theorem StringRec.refit_envelopes (r : StringRec) (p : Profile) (fitted : Bool) :
    (r.refit p fitted).chargeEnvelope = r.chargeEnvelope ∧ (r.refit p fitted).dischargeEnvelope = r.dischargeEnvelope := by
  simp only [StringRec.refit]
  split
  · split
    · rw [StringRec.setBand_spec]; exact ⟨rfl, rfl⟩
    · exact ⟨rfl, rfl⟩
  · exact ⟨rfl, rfl⟩

theorem State.First.unloadedZero {s t : State} (a : s.First t) (h : s.UnloadedZero) : t.UnloadedZero := by
  cases a with
  | grant => simp only [State.grantSlot]; split <;> exact h
  | retire => exact h.congr (by simp) fun i => by simp
  | load => exact h.congr (by simp [State.loadUnit]) fun i => by simp [State.loadUnit]
  | refit p =>
    exact h.congr (by simp [State.refitUnit, State.refitStrings]) fun i => by
      simpa [State.refitUnit, State.refitStrings] using StringRec.refit_envelopes s.strings[i.val] p (p.isFitted i)

/-- The evaluation of an event's settling sets the envelopes by the conditions that hold after it. -/
theorem State.settleWith_envelopesZero (s : State) (g : Option (Fin 48)) (h : s.UnloadedZero) :
    EnvelopesZero (s.settleWith g) := by
  rw [State.settleWith_eq]
  have hb : (s.beforeEvaluation g).UnloadedZero := h.congr (by rw [State.beforeEvaluation_loaded]; exact id)
    fun i => by rw [State.beforeEvaluation_strings]; exact ⟨rfl, rfl⟩
  generalize s.beforeEvaluation g = u at hb
  refine (State.startUpStage_aside _).envelopesZero (State.Touch.envelopesZero .transmit ?_)
  cases hl : u.loaded with
  | false =>
    rw [State.evaluateStage_unloaded u hl]
    exact fun i _ => hb hl i
  | true =>
    intro i hi
    have hm : u.evaluateStage.modulesHold i = u.modulesHold i :=
      modulesHold_congr i (by simp) (by simp) (by rw [State.evaluateStage_strings u hl]; simp [StringRec.evaluate])
        (by simp)
    rw [hm, State.evaluateStage_loaded, hl, State.evaluateStage_contactors, State.evaluateStage_strings u hl] at hi
    rw [State.evaluateStage_strings u hl]
    simp only [Fin.getElem_fin, getElem_tab8, Bool.true_eq_false, false_or] at hi ⊢
    refine envelopes_zero _ _ _ ?_
    rcases hi with hf | hc | hm
    · exact .inl hf
    · exact .inr (.inl (by simpa [State.conditions] using hc))
    · exact .inr (.inr hm)

theorem envelopesZero_kept : StepKeeps State.UnloadedZero EnvelopesZero where
  weaken s h e i := h i (.inl e)
  queue _ _ h := h
  aside s t a := ⟨fun h => h.congr (fun e => by rw [a.loaded] at e; exact e) fun i => by rw [a.strings i]; exact ⟨rfl, rfl⟩,
    a.envelopesZero⟩
  touch s t a := by
    obtain ⟨hs, -, -, -, hl, -⟩ := a.frame
    exact ⟨fun h => h.congr (fun e => by rw [hl] at e; exact e) fun i => by rw [hs]; exact ⟨rfl, rfl⟩, a.envelopesZero⟩
  effect _ _ := State.Effect.unloadedZero
  first _ _ := State.First.unloadedZero
  settle := State.settleWith_envelopesZero
  reset s clock next x _ i _ := by
    have h : ∀ i : Fin 8, State.reset.strings[i].chargeEnvelope = 0 ∧ State.reset.strings[i].dischargeEnvelope = 0 := by
      decide
    exact h i

/-! ### Service-readiness -/

/-- A contactor that keeps its fitted mark, its unmet conditions and its isolating permit. -/
def Contactor.SameService (c d : Contactor) : Prop :=
  d.fitted = c.fitted ∧ d.unmet = c.unmet ∧ d.isolating = c.isolating

theorem Contactor.enter_sameService (c : Contactor) (st : ContactorState) (now : Nat) : c.SameService (c.enter st now) := by
  obtain ⟨-, -, -, hf, hu, hi⟩ := Contactor.enter_spec c st now
  exact ⟨hf, hu, hi⟩

theorem Contactor.follow_sameService (c : Contactor) (now drainTime : Nat) : c.SameService (c.follow now drainTime) := by
  simp only [Contactor.follow]
  split
  · exact c.enter_sameService _ _
  · exact c.enter_sameService _ _
  · exact c.enter_sameService _ _
  · exact c.enter_sameService _ _
  · split
    · exact c.enter_sameService _ _
    · exact ⟨rfl, rfl, rfl⟩
  · exact ⟨rfl, rfl, rfl⟩

/-- A Contactor Table whose records keep fitted marks, unmet conditions and isolating permits. -/
def State.SameService (s t : State) : Prop := ∀ i : Fin 8, (s.contactors[i.val]).SameService t.contactors[i.val]

theorem State.SameService.refl (s : State) : s.SameService s := fun _ => ⟨rfl, rfl, rfl⟩

theorem State.SameService.trans {s t u : State} (h : s.SameService t) (k : t.SameService u) : s.SameService u :=
  fun i => by
    obtain ⟨a, b, c⟩ := h i
    obtain ⟨a', b', c'⟩ := k i
    exact ⟨a'.trans a, b'.trans b, c'.trans c⟩

theorem State.setContactor_sameService (s : State) (i : Fin 8) (c : Contactor) (h : (s.contactors[i.val]).SameService c) :
    s.SameService (s.setContactor i c) := fun j => by
  rw [State.setContactor_contactors, getElem_put]
  split
  · next e => subst e; exact h
  · exact ⟨rfl, rfl, rfl⟩

theorem State.checkMatch_sameService (s : State) : s.SameService s.checkMatch := by
  simp only [State.checkMatch]
  split
  · exact .refl s
  · next i _ =>
    split
    · exact s.setContactor_sameService i _ (Contactor.enter_sameService _ _ _)
    · exact .refl s

theorem State.startPrecharge_sameService (s : State) (i : Fin 8) : s.SameService (s.startPrecharge i) :=
  (State.SameService.trans (t := { s.setContactor i (s.contactors[i].enter
      (.precharging (s.now + Config.prechargeTime)) s.now) with serving := some i })
    (s.setContactor_sameService i _ (Contactor.enter_sameService _ _ _)) (State.checkMatch_sameService _))

theorem State.arbitrate_sameService (n : Nat) (s : State) : s.SameService (State.arbitrate n s) := by
  induction n generalizing s with
  | zero => exact .refl s
  | succ n ih =>
    simp only [State.arbitrate]
    split
    · exact (s.startPrecharge_sameService _).trans (ih _)
    · exact .refl s

/-- What the Connection Sequencer writes of a string's conditions. -/
theorem State.connectStage_service (s : State) (i : Fin 8) :
    s.connectStage.contactors[i.val].fitted = s.contactors[i.val].fitted ∧
      s.connectStage.contactors[i.val].unmet = s.unmetOf i ∧
      s.connectStage.contactors[i.val].isolating = if s.contactors[i.val].fitted then s.isolatingOf i else none := by
  obtain ⟨hf, hu, hi⟩ := State.arbitrate_sameService 8 (({ s with contactors := tab8 s.connectString }).freePath) i
  obtain ⟨kf, ku, ki⟩ := Contactor.follow_sameService { s.contactors[i] with
    unmet := s.unmetOf i
    isolating := if s.contactors[i].fitted then s.isolatingOf i else none } s.now s.unit.active.drainTime
  simp only [State.freePath_contactors, getElem_tab8] at hf hu hi
  exact ⟨hf.trans kf, hu.trans ku, hi.trans ki⟩

/-- The standing ISOLATE that holds a string stays the same through hand-offs. -/
theorem State.SlotsHandedOn.isolatingOf {s t : State} (h : s.SlotsHandedOn t) (n : Fin 8) :
    t.isolatingOf n = s.isolatingOf n := by
  have hh : t.handleOf = s.handleOf := by
    funext i
    obtain ⟨hg, -⟩ := h i
    simp only [State.handleOf, Fin.getElem_fin, hg]
  simp only [State.isolatingOf, hh, State.findPermit]
  congr 2
  funext i
  rcases (h i).2 with ⟨hs, ht⟩ | ⟨p, q, hp, hq, hpq⟩
  · simp only [Fin.getElem_fin, hs, ht]
  · simp only [Fin.getElem_fin, hp, hq, Permit.isolates, hpq.standing, hpq.remains.stands.1, hpq.remains.stands.2.2.1]

/-- No ISOLATE holds a string where every slot is FREE. -/
theorem isolatingOf_free {s : State} (n : Fin 8) (h : ∀ i p, ¬Holds s i p) : s.isolatingOf n = none := by
  simp only [State.isolatingOf, State.findPermit, Option.map_eq_none_iff, List.find?_eq_none]
  intro i _
  cases hp : s.slots[i].permit with
  | none => simp
  | some p => exact absurd hp (h i p)

/-- Two states that agree in what service-readiness is read from. -/
structure State.ServiceAlike (s t : State) : Prop where
  contactors : s.SameService t
  slots : s.SlotsHandedOn t
  fire : ∀ k : Fin 4, t.fire[k.val].state.inAlarm = s.fire[k.val].state.inAlarm
  modules : ∀ i, t.modulesHold i = s.modulesHold i
  band : ∀ i : Fin 8, t.strings[i.val].band = s.strings[i.val].band
  link : t.link.state = s.link.state
  mode : t.unit.mode = s.unit.mode

theorem State.ServiceAlike.unmetOf {s t : State} (h : s.ServiceAlike t) (i : Fin 8) : t.unmetOf i = s.unmetOf i := by
  obtain ⟨hf, -, -⟩ := h.contactors i
  simp only [State.unmetOf, Fin.getElem_fin, h.slots.isolatingOf, h.fire, h.modules, h.band, h.link, h.mode, hf]

theorem State.ServiceAlike.service {s t : State} (h : s.ServiceAlike t) (hs : ServiceFollowsConditions s) :
    ServiceFollowsConditions t := by
  intro i
  obtain ⟨hf, hu, hi⟩ := h.contactors i
  simp only [Fin.getElem_fin, hf, hu, hi, h.unmetOf, h.slots.isolatingOf]
  exact hs i

theorem State.Aside.serviceAlike {s t : State} (a : s.Aside t) : s.ServiceAlike t where
  contactors i := ⟨(a.contactors i).fitted, (a.contactors i).unmet, (a.contactors i).isolating⟩
  slots := .of_eq a.slots
  fire k := by rw [(a.fire k).state]
  modules := a.modulesHold
  band i := by rw [a.strings i]
  link := a.link
  mode := a.mode

/-- A link frame begun leaves the link's state. -/
theorem State.linkStage_link (s : State) : s.linkStage.link.state = s.link.state := by
  simp only [State.linkStage]
  split
  · split
    · rfl
    · split
      · split <;> rfl
      · rfl
  · rfl

theorem State.Touch.serviceAlike {s t : State} (a : s.Touch t) : s.ServiceAlike t := by
  obtain ⟨hs, -, hc, hu, -⟩ := a.frame
  refine ⟨fun i => by rw [hc]; exact ⟨rfl, rfl, rfl⟩, a.slotsHandedOn, ?_, a.modulesHold, fun i => by rw [hs], ?_,
    by rw [hu]⟩
  · intro k
    cases a with
    | pulseEnd j e hj =>
      rw [State.setFire_fire, getElem_put]
      split
      · next e => subst e; rw [hj]; rfl
      · rfl
    | breaker | transmit => simp
    | unmark | renew | flow => rfl
  · cases a with
    | transmit => exact s.linkStage_link
    | breaker => simp
    | unmark | renew | flow | pulseEnd => rfl

theorem State.isolateStage_serviceAlike (s : State) (g : Option (Fin 48)) : s.ServiceAlike (s.isolateStage g) where
  contactors i := by simp [Contactor.SameService]
  slots := s.isolateStage_handedOn g
  fire k := by simp
  modules i := modulesHold_congr i (by simp) (by simp) (by simp) (by simp)
  band i := by simp
  link := by simp
  mode := by simp

/-- The evaluation of the String Table leaves bands, online counts and fitted marks. -/
theorem State.evaluateStage_string (s : State) (i : Fin 8) :
    s.evaluateStage.strings[i.val].band = s.strings[i.val].band ∧
      s.evaluateStage.strings[i.val].onlineCount = s.strings[i.val].onlineCount ∧
      s.evaluateStage.strings[i.val].fitted = s.strings[i.val].fitted ∧
      s.evaluateStage.strings[i.val].bandChanged = s.strings[i.val].bandChanged := by
  cases h : s.loaded with
  | false => rw [State.evaluateStage_unloaded s h]; exact ⟨rfl, rfl, rfl, rfl⟩
  | true => rw [State.evaluateStage_strings s h]; simp [StringRec.evaluate]

theorem State.evaluateStage_serviceAlike (s : State) : s.ServiceAlike s.evaluateStage := by
  refine ⟨fun i => by simp [Contactor.SameService], s.evaluateStage_handedOn, fun k => by simp, fun i => ?_, fun i => ?_,
    by simp, by simp⟩
  · obtain ⟨-, ho, -, -⟩ := s.evaluateStage_string i
    exact modulesHold_congr i (by simp) (by simp) ho (by simp)
  · obtain ⟨hb, -, -, -⟩ := s.evaluateStage_string i
    exact hb

theorem State.connectStage_serviceFollows (s : State) : ServiceFollowsConditions s.connectStage := by
  intro i
  obtain ⟨hf, hu, hi⟩ := s.connectStage_service i
  have hio : s.connectStage.isolatingOf i = s.isolatingOf i :=
    (State.SlotsHandedOn.of_eq (State.connectStage_slots s)).isolatingOf i
  have hm : s.connectStage.modulesHold i = s.modulesHold i :=
    modulesHold_congr i (by simp) (by simp) (by simp) (by simp)
  have huo : s.connectStage.unmetOf i = s.unmetOf i := by
    simp only [State.unmetOf, Fin.getElem_fin, hio, hm, hf, State.connectStage_fire, State.connectStage_strings,
      State.connectStage_link, State.connectStage_unit]
  simp only [Fin.getElem_fin, hu, hi, hf, hio, huo, and_self]

theorem State.settleWith_serviceFollows (s : State) (g : Option (Fin 48)) : ServiceFollowsConditions (s.settleWith g) :=
  have h1 := s.doorStage.fireAndAlarm.coolStage.connectStage_serviceFollows
  have h2 := (State.isolateStage_serviceAlike _ g).service h1
  have h3 := (State.evaluateStage_serviceAlike _).service h2
  have h4 := (State.Touch.transmit (s := (s.beforeEvaluation g).evaluateStage)).serviceAlike.service h3
  (State.startUpStage_aside _).serviceAlike.service h4

theorem serviceFollows_kept : StepKeeps (fun _ => True) ServiceFollowsConditions where
  weaken _ _ := trivial
  queue _ _ h := h
  aside _ _ a := ⟨fun _ => trivial, a.serviceAlike.service⟩
  touch _ _ a := ⟨fun _ => trivial, a.serviceAlike.service⟩
  effect _ _ _ _ := trivial
  first _ _ _ _ := trivial
  settle s g _ := s.settleWith_serviceFollows g
  reset s clock next x _ i := by
    have hn : State.isolatingOf { s.afterReset clock next with transaction := x } i = none :=
      isolatingOf_free i fun j p => s.afterReset_free clock next x j p
    have hm : State.modulesHold { s.afterReset clock next with transaction := x } i = true := by
      simp [State.modulesHold, State.afterReset, State.reset, StringRec.atReset]
    simp only [State.unmetOf, hn, hm]
    simp [State.afterReset, State.reset, Contactor.atReset, FireRec.atReset, FireState.inAlarm, StringRec.atReset,
      Link.atReset, ProfileUnit.atReset]

/-! ### The door lock -/

/-- The LIVE ENTRY permits of a table that limits follow kinds in, after a move that leaves ENTRY permits. -/
theorem entryLive_of_rel {R : Permit → Permit → Prop} {s t : State} (h : s.SlotsRel R t) (hl : LimitsFollowKind s)
    (hR : ∀ p q, R p q → q.kind = p.kind ∧ (p.kind = .entry → p.limits = none → (q.state = .live ↔ p.state = .live))) :
    t.entryLive = s.entryLive := by
  have hn : ∀ i p, Holds s i p → p.kind = .entry → p.limits = none := fun i p hp hk => by
    have e := hl i p hp
    rw [hk] at e
    simpa [Kind.hasLimit] using e
  rw [Bool.eq_iff_iff, State.entryLive_iff, State.entryLive_iff]
  constructor
  · rintro ⟨i, q, hq, hk, hs⟩
    obtain ⟨p, hp, hpq⟩ := h.back hq
    obtain ⟨ek, es⟩ := hR p q hpq
    rw [ek] at hk
    exact ⟨i, p, hp, hk, (es hk (hn i p hp hk)).1 hs⟩
  · rintro ⟨i, p, hp, hk, hs⟩
    obtain ⟨q, hq, hpq⟩ := h.forth hp
    obtain ⟨ek, es⟩ := hR p q hpq
    exact ⟨i, q, hq, ek.trans hk, (es hk (hn i p hp hk)).2 hs⟩

theorem State.SlotsHandedOn.entryLive {s t : State} (h : s.SlotsHandedOn t) (hl : LimitsFollowKind s) :
    t.entryLive = s.entryLive :=
  entryLive_of_rel h hl fun p q k => ⟨k.remains.stands.1, fun hk hn =>
    ⟨fun e => (k.falls e).resolve_right (by rw [hk]; simp), k.stays hn⟩⟩

/-- An alarm entry revokes no ENTRY. -/
theorem State.fireAndAlarm_entry (s : State) :
    s.SlotsRel (fun p q => p.Follows q ∧ (p.kind = .entry → q = p)) s.fireAndAlarm := by
  refine s.fireAndAlarm_updates.rel fun _ p => ?_
  simp only [Permit.revokedWhere]
  split
  · next h =>
    simp only [Bool.and_eq_true] at h
    refine ⟨Permit.revoked_follows _ _ _ _ _ h.2, fun hk => ?_⟩
    simp [Permit.metByAlarm, hk] at h
  · exact ⟨.refl p, fun _ => rfl⟩

theorem State.fireAndAlarm_entryLive (s : State) (hl : LimitsFollowKind s) : s.fireAndAlarm.entryLive = s.entryLive :=
  entryLive_of_rel s.fireAndAlarm_entry hl fun p q ⟨hf, he⟩ => ⟨hf.kind, fun hk _ => by rw [he hk]⟩

theorem State.settleWith_doorFollows (s : State) (g : Option (Fin 48)) (hl : LimitsFollowKind s) :
    DoorFollowsEntry (s.settleWith g) := by
  have h1 : s.doorStage.fireAndAlarm.entryLive = s.entryLive := s.doorStage.fireAndAlarm_entryLive hl
  have l1 : LimitsFollowKind s.doorStage.fireAndAlarm :=
    s.doorStage.fireAndAlarm_follows.remain.limitsFollowKind hl
  have h2 : s.doorStage.fireAndAlarm.SlotsHandedOn (s.settleWith g) :=
    ((((State.SlotsHandedOn.of_eq (t := s.doorStage.fireAndAlarm.coolStage.connectStage) (by simp)).trans
      (State.isolateStage_handedOn _ g)).trans (State.evaluateStage_handedOn _)).trans
      (State.linkStage_handedOn _)).trans (.of_eq (State.startUpStage_slots _))
  rw [DoorFollowsEntry, h2.entryLive l1, h1]
  simp [State.settleWith]

theorem doorFollows_kept :
    StepKeeps LimitsFollowKind (fun s => LimitsFollowKind s ∧ DoorFollowsEntry s) where
  weaken _ h := h.1
  queue _ _ h := h
  aside s t a := by
    have hl := (State.SlotsRemain.of_eq a.slots).limitsFollowKind
    refine ⟨hl, fun ⟨h, hd⟩ => ⟨hl h, ?_⟩⟩
    rw [DoorFollowsEntry, a.doorReleased, (State.SlotsHandedOn.of_eq a.slots).entryLive h]
    exact hd
  touch s t a := by
    have hl := a.slotsRemain.limitsFollowKind
    obtain ⟨-, -, -, -, -, hr, -⟩ := a.frame
    refine ⟨hl, fun ⟨h, hd⟩ => ⟨hl h, ?_⟩⟩
    rw [DoorFollowsEntry, hr, a.slotsHandedOn.entryLive h]
    exact hd
  effect _ _ a := a.slotsRemain.limitsFollowKind
  first _ _ a := a.limitsFollowKind
  settle s g h := ⟨(State.settleWith_follows s g).remain.limitsFollowKind h, s.settleWith_doorFollows g h⟩
  reset s clock next x _ :=
    ⟨fun i p hp => absurd hp (s.afterReset_free clock next x i p), by
      have h : State.entryLive { s.afterReset clock next with transaction := x } = false :=
        State.anyPermit_eq_false.2 fun i p hp => absurd hp (s.afterReset_free clock next x i p)
      rw [DoorFollowsEntry, h]
      rfl⟩

/-- Settles O57: the settling sets each derived field, and what is beside it leaves them. -/
theorem stepsKeepDerivedFields : Obligations.StepsKeepDerivedFields :=
  ⟨fun s t => envelopesZero_kept.step s t, fun s t => serviceFollows_kept.step s t,
    fun s t hl hd => doorFollows_kept.step s t ⟨hl, hd⟩⟩

end Sys2Proof.Machine
end

section
/-! SUPPORT. What the moves of a step do to the Bay Fire Table and to the String Contactor Table. -/

namespace Sys2Proof.Machine

open Sys2Proof.Safety Sys2Proof.Claims

/-! ### The Bay Fire Table -/

/-- Every bay keeps its state, its release output and its containment request. -/
def State.FireSteady (s t : State) : Prop :=
  ∀ k : Fin 4, t.fire[k.val].state = s.fire[k.val].state ∧ t.fire[k.val].releaseOutput = s.fire[k.val].releaseOutput ∧
    t.fire[k.val].containment = s.fire[k.val].containment

theorem State.FireSteady.of_eq {s t : State} (h : t.fire = s.fire) : s.FireSteady t := fun k => by
  rw [h]; exact ⟨rfl, rfl, rfl⟩

theorem State.FireSteady.of_aside {s t : State} (h : ∀ k : Fin 4, (s.fire[k.val]).Aside t.fire[k.val]) :
    s.FireSteady t := fun k => ⟨(h k).state, (h k).output, (h k).containment⟩

theorem contain_getElem (fire : Vector FireRec 4) (k : Fin 4) :
    (contain fire)[k.val] = { fire[k.val] with containment := containmentOf fire k } := by
  rw [contain, getElem_tab4]; rfl

theorem State.quietBay_fire (s : State) (k : Fin 4) :
    (s.quietBay k).fire = contain (put s.fire k { s.fire[k.val] with state := .quiet }) := by simp [State.quietBay]

theorem State.releaseBay_fire (s : State) (k : Fin 4) :
    (s.releaseBay k).fire = contain (put s.fire k (s.fire[k.val].release s.now)) := by simp [State.releaseBay]

theorem State.fireStage_fire (s : State) : s.fireStage.fire = contain (tab4 s.evaluateBay) := by
  simp [State.fireStage]

theorem State.fireAndAlarm_fire (s : State) : s.fireAndAlarm.fire = contain (tab4 s.evaluateBay) := by
  obtain ⟨_, _, _, _, _, h⟩ := State.alarmStage_frame s.fireStage (alarmEntries s.fire s.fireStage.fire)
  rw [State.fireAndAlarm, h, ← State.fireStage_fire]

/-- The record of a bay after a fire evaluation. -/
theorem State.fireAndAlarm_bay (s : State) (k : Fin 4) :
    s.fireAndAlarm.fire[k.val] =
      { s.evaluateBay k with containment := containmentOf (tab4 s.evaluateBay) k } := by
  rw [State.fireAndAlarm_fire, contain_getElem, getElem_tab4]

/-- The effects that change a bay's state are the quieting and the release of a bay and the fire evaluation. -/
theorem State.Effect.fire {s t : State} (h : s.Effect t) :
    s.FireSteady t ∨ (∃ k, (∀ e, s.fire[k.val].state ≠ .released (some e)) ∧ t = s.quietBay k) ∨
      (∃ k, s.fire[k.val].state.inAlarm = true ∧ t = s.releaseBay k) ∨ t = s.fireAndAlarm := by
  cases h with
  | quietBay k hk => exact .inr (.inl ⟨k, hk, rfl⟩)
  | releaseBay k hk => exact .inr (.inr (.inl ⟨k, hk, rfl⟩))
  | fireAndAlarm => exact .inr (.inr (.inr rfl))
  | senses h => exact .inl (.of_aside h.fire)
  | fireInputs k a b hold =>
    refine .inl fun j => ?_
    rw [State.setFire_fire, getElem_put]
    split
    · next e => subst e; exact ⟨rfl, rfl, rfl⟩
    · exact ⟨rfl, rfl, rfl⟩
  | linkState h => exact .inl (.of_eq (by rw [h]))
  | amend i p => exact .inl (.of_eq (by simp only [State.amendSlot]; split <;> simp))
  | cool | flowFault | contactor | setMode | loadContactors | opened | doorStage | coolStage => exact .inl (.of_eq rfl)
  | revokeSlot | revokeWhere | reduce | riseEnd | gridFalls | gridReturns | replaceContactor | checkMatch
  | refitContactors | refitCooling | connectStage | isolateStage | evaluateStage =>
    refine .inl (.of_eq ?_)
    simp [State.reduceSlot, State.endRise, State.gridFalls, State.replaceContactor, State.refitContactors,
      State.refitCooling]

/-- A touch leaves every bay's state, but for the end of a release pulse. -/
theorem State.Touch.fire {s t : State} (h : s.Touch t) :
    s.FireSteady t ∨ ∃ k e, s.fire[k.val].state = .released (some e) ∧
      t = s.setFire k { s.fire[k.val] with state := .released none, releaseOutput := false } := by
  cases h with
  | pulseEnd k e hk => exact .inr ⟨k, e, hk, rfl⟩
  | breaker | transmit => exact .inl (.of_eq (by simp))
  | unmark | renew | flow => exact .inl (.of_eq rfl)

theorem State.First.fire {s t : State} (h : s.First t) : t.fire = s.fire := by
  cases h with
  | grant => simp only [State.grantSlot]; split <;> rfl
  | retire => simp
  | load => simp [State.loadUnit]
  | refit => simp [State.refitUnit, State.refitStrings]

/-- After a reset every bay is QUIET, with its release output off and no containment requested. -/
theorem State.afterReset_fire (s : State) (clock : SiteTime) (next : Nat) (k : Fin 4) :
    (s.afterReset clock next).fire[k.val].state = .quiet ∧ (s.afterReset clock next).fire[k.val].releaseOutput = false ∧
      (s.afterReset clock next).fire[k.val].containment = .none := by
  simp [State.afterReset, FireRec.atReset]

/-- The alarm class is kept by an evaluation where it stands, and so is the time of a release pulse. -/
theorem FireState.decide_released (st : FireState) (active : Nat) (degraded : Bool) (manual : Manual) (fresh : Nat)
    (e : Option Nat) : st.decide active degraded manual fresh = .released e ↔ st = .released e := by
  cases st <;> simp only [FireState.decide, alarmClass] <;> (repeat' split) <;> simp

/-- A countdown runs only where no manual cause stands (R111). -/
theorem FireState.decide_countdown {st : FireState} {active : Nat} {degraded : Bool} {manual : Manual} {fresh e : Nat}
    (h : st.decide active degraded manual fresh = .countdown e) : manual.any = false := by
  cases hm : manual.any with
  | false => rfl
  | true => cases st <;> simp [FireState.decide, alarmClass, hm] at h <;> (repeat' split at h) <;> simp at h

/-- The bays whose alarm entry is handed on: those that were in no alarm state and are in one. -/
theorem mem_alarmEntries {old new : Vector FireRec 4} {k : Fin 4} :
    k ∈ alarmEntries old new ↔ old[k.val].state.inAlarm = false ∧ new[k.val].state.inAlarm = true := by
  simp [alarmEntries]

/-! ### The String Contactor Table -/

theorem Contactor.Move.atRest {c d : Contactor} (h : c.Move d) (hc : AtRest c) : AtRest d := by
  rcases h.state with e | e
  · simp only [AtRest, e]; exact hc
  · exact e

theorem Contactor.Move.refl (c : Contactor) : c.Move c := ⟨rfl, .inl rfl, .inl ⟨rfl, rfl, rfl⟩⟩

/-- A contactor under a fitted bit keeps its state, or is OPEN (R150). -/
theorem Contactor.refit_atRest {c : Contactor} (fitted : Bool) (now : Nat) (h : AtRest c) :
    AtRest (c.refit fitted now) := by
  simp only [Contactor.refit]
  split
  · exact h
  · split
    · simpa only [AtRest, Contactor.supervise_state] using h
    · exact .inl rfl

/-- An opening at once leaves a contactor OPEN or FAILED (R146). -/
theorem Contactor.openNow_atRest (c : Contactor) (now : Nat) : AtRest (c.openNow now) := by
  simp only [Contactor.openNow]
  split
  · exact .inl (Contactor.enter_spec _ _ _).1
  · exact .inl (Contactor.enter_spec _ _ _).1
  · exact .inl (Contactor.enter_spec _ _ _).1
  · exact .inl (Contactor.enter_spec _ _ _).1
  · next e => exact .inl e
  · next e => exact .inr ⟨_, e⟩

/-- The contactor of a string of a bay after the bay's opening, and of any other string. -/
theorem State.openBay_getElem (s : State) (k : Fin 4) (i : Fin 8) :
    (s.openBay k).contactors[i.val] =
      if bayOf i = k then s.contactors[i.val].openNow s.now else s.contactors[i.val] := by
  rw [State.openBay, getElem_tab8]; rfl

theorem State.alarmEntry_contactor (s : State) (k : Fin 4) (i : Fin 8) :
    (s.alarmEntry k).contactors[i.val] =
      if bayOf i = k then s.contactors[i.val].openNow s.now else s.contactors[i.val] := by
  rw [State.alarmEntry, State.freePath_contactors, State.openBay_getElem]
  simp

theorem Contactor.openNow_openNow (c : Contactor) (now : Nat) : (c.openNow now).openNow now = c.openNow now := by
  rcases c.openNow_atRest now with e | ⟨r, e⟩ <;> rw [Contactor.openNow, e]

/-- The contactors of the bays whose alarm entries are taken are opened at once, the others stand. -/
theorem State.alarmStage_contactor (s : State) (l : List (Fin 4)) (i : Fin 8) :
    (s.alarmStage l).contactors[i.val] =
      if bayOf i ∈ l then s.contactors[i.val].openNow s.now else s.contactors[i.val] := by
  induction l generalizing s with
  | nil => simp [State.alarmStage]
  | cons k ks ih =>
    have hn : (s.alarmEntry k).now = s.now := by
      obtain ⟨_, _, _, _, _, e⟩ := s.alarmEntry_frame k
      rw [e]
    have hc : s.alarmStage (k :: ks) = (s.alarmEntry k).alarmStage ks := by
      rw [State.alarmStage, List.foldl_cons, State.alarmStage]
    rw [hc, ih, State.alarmEntry_contactor, hn]
    by_cases hk : bayOf i = k
    · rw [if_pos hk, if_pos (List.mem_cons.2 (.inl hk)), Contactor.openNow_openNow, ite_self]
    · rw [if_neg hk]
      simp only [List.mem_cons, hk, false_or]

theorem State.fireAndAlarm_contactor (s : State) (i : Fin 8) :
    s.fireAndAlarm.contactors[i.val] =
      if bayOf i ∈ alarmEntries s.fire s.fireStage.fire then s.contactors[i.val].openNow s.now
      else s.contactors[i.val] := by
  rw [State.fireAndAlarm, State.alarmStage_contactor]
  simp

/-- A check of the match closes the string being served, or changes nothing (R142). -/
theorem State.checkMatch_cases (s : State) :
    s.checkMatch = s ∨ ∃ i : Fin 8, s.serving = some i ∧ s.contactors[i.val].state.isPrecharging = true ∧
      s.checkMatch.contactors =
        put s.contactors i { s.contactors[i.val].enter .closed s.now with failures := 0 } := by
  cases h : s.serving with
  | none => exact .inl (by simp only [State.checkMatch, h])
  | some i =>
    by_cases hm : (s.contactors[i.val].state.isPrecharging && s.matches i) = true
    · refine .inr ⟨i, rfl, (Bool.and_eq_true _ _ ▸ hm).1, ?_⟩
      simp only [State.checkMatch, h, Fin.getElem_fin, if_pos hm, State.setContactor_contactors]
    · exact .inl (by simp only [State.checkMatch, h, Fin.getElem_fin, if_neg hm])

/-- One turn of the arbiter: the free path goes to the lowest-numbered QUEUED string, or nothing happens (R141). -/
theorem State.arbitrate_succ (n : Nat) (s : State) :
    State.arbitrate (n + 1) s = s ∨ ∃ i, s.serving = none ∧ s.nextQueued = some i ∧
      State.arbitrate (n + 1) s = State.arbitrate n (s.startPrecharge i) := by
  rw [State.arbitrate]
  split
  · next i h1 h2 => exact .inr ⟨i, h1, h2, rfl⟩
  · exact .inl rfl

/-- A string that has the precharge path is not at rest. -/
theorem atRest_not_precharging {c : Contactor} (h : AtRest c) : c.state.isPrecharging = false := by
  rcases h with e | ⟨r, e⟩ <;> rw [e] <;> rfl

/-- The effects on contactors besides single moves: commit and load, the match, and the stages of the settling. -/
theorem State.Effect.contactors {s t : State} (h : s.Effect t) :
    (∀ i : Fin 8, AtRest s.contactors[i.val] → AtRest t.contactors[i.val]) ∨ t = s.connectStage := by
  have same : t.contactors = s.contactors →
      (∀ i : Fin 8, AtRest s.contactors[i.val] → AtRest t.contactors[i.val]) ∨ t = s.connectStage := fun e =>
    .inl fun i hi => by rw [e]; exact hi
  have moved : ∀ (j : Fin 8) (c : Contactor), t.contactors = (s.setContactor j c).contactors →
      (s.contactors[j.val]).Move c →
      (∀ i : Fin 8, AtRest s.contactors[i.val] → AtRest t.contactors[i.val]) ∨ t = s.connectStage := by
    intro j c e hc
    refine .inl fun i hi => ?_
    rw [e, State.setContactor_contactors, getElem_put]
    split
    · next e => subst e; exact hc.atRest hi
    · exact hi
  cases h with
  | connectStage => exact .inr rfl
  | contactor j c hc => exact moved j c rfl hc
  | replaceContactor j c hc => exact moved j c (by simp [State.replaceContactor]) hc
  | checkMatch =>
    rcases s.checkMatch_cases with e | ⟨j, -, hp, e⟩
    · exact same (by rw [e])
    · refine .inl fun i hi => ?_
      rw [e, getElem_put]
      split
      · next e => subst e; rw [atRest_not_precharging hi] at hp; cases hp
      · exact hi
  | refitContactors p =>
    refine .inl fun i hi => ?_
    simp only [State.refitContactors, State.freePath_contactors, getElem_tab8]
    exact Contactor.refit_atRest _ _ hi
  | loadContactors p =>
    refine .inl fun i hi => ?_
    simp only [getElem_tab8]
    exact Contactor.refit_atRest _ _ hi
  | fireAndAlarm =>
    refine .inl fun i hi => ?_
    rw [State.fireAndAlarm_contactor]
    split
    · exact Contactor.openNow_atRest _ _
    · exact hi
  | senses h => exact same (by rw [h.frame])
  | linkState h => exact same (by rw [h])
  | amend i p => exact same (by simp only [State.amendSlot]; split <;> simp)
  | fireInputs | cool | flowFault | setMode | opened | doorStage | coolStage => exact same rfl
  | revokeSlot | revokeWhere | reduce | riseEnd | gridFalls | gridReturns | quietBay | releaseBay | refitCooling
  | isolateStage | evaluateStage =>
    refine same ?_
    simp [State.reduceSlot, State.endRise, State.gridFalls, State.quietBay, State.releaseBay, State.refitCooling]

/-- A string that some condition keeps out of service stays at rest through a gain or loss of service-readiness. -/
theorem Contactor.follow_atRest {c : Contactor} (now drainTime : Nat) (hu : c.unmet.isEmpty = false) (h : AtRest c) :
    AtRest (c.follow now drainTime) := by
  have e : c.follow now drainTime = c := by
    rcases h with e | ⟨r, e⟩ <;> simp [Contactor.follow, e, hu]
  rw [e]; exact h

/-- A string that is not queued is not given the path, and one not precharging is not closed by the arbiter. -/
theorem State.startPrecharge_contactor (s : State) (i j : Fin 8) (h : j ≠ i) :
    (s.startPrecharge i).contactors[j.val] = s.contactors[j.val] := by
  rw [State.startPrecharge]
  generalize hu : ({ s.setContactor i (s.contactors[i].enter (.precharging (s.now + Config.prechargeTime)) s.now) with
    serving := some i } : State) = u
  have hv : u.serving = some i := by rw [← hu]
  have hc : u.contactors[j.val] = s.contactors[j.val] := by
    rw [← hu]
    exact getElem_put_ne _ _ _ _ h
  rcases u.checkMatch_cases with e | ⟨k, hk, -, e⟩
  · rw [e, hc]
  · rw [hv] at hk
    cases hk
    rw [e, getElem_put_ne _ _ _ _ h, hc]

theorem State.arbitrate_atRest (n : Nat) (s : State) (j : Fin 8) (h : AtRest s.contactors[j.val]) :
    (State.arbitrate n s).contactors[j.val] = s.contactors[j.val] := by
  induction n generalizing s with
  | zero => rfl
  | succ n ih =>
    rcases s.arbitrate_succ n with e | ⟨i, -, hq, e⟩
    · rw [e]
    · have hj : j ≠ i := by
        rintro rfl
        have e := List.find?_some hq
        simp only [Fin.getElem_fin, beq_iff_eq] at e
        rcases h with h | ⟨r, h⟩ <;> rw [h] at e <;> cases e
      have hc := s.startPrecharge_contactor i j hj
      rw [e, ih _ (by rw [hc]; exact h), hc]

/-- A string with an unmet condition that is at rest stays so through the settling's connection stage. -/
theorem State.connectStage_atRest (s : State) (i : Fin 8) (hu : (s.unmetOf i).isEmpty = false)
    (h : AtRest s.contactors[i.val]) : AtRest s.connectStage.contactors[i.val] := by
  have hc : AtRest (s.connectString i) := Contactor.follow_atRest _ _ hu h
  rw [State.connectStage, State.arbitrate_atRest]
  · simpa only [State.freePath_contactors, getElem_tab8] using hc
  · simpa only [State.freePath_contactors, getElem_tab8] using hc

end Sys2Proof.Machine
end

section
/-! PROOF. Every step keeps site laws 6 and 7 (O56). -/

namespace Sys2Proof.Machine

open Sys2Proof.Safety Sys2Proof.Claims

/-! ### Permits against an alarm -/

/-- Site law 6 on permits by the permits that an alarm entry revokes. -/
theorem alarmRevokes_iff (s : State) :
    AlarmRevokes s ↔ ∀ (k : Fin 4) i p, s.fire[k.val].state.inAlarm = true → Holds s i p → p.standing = true →
      p.metByAlarm k = false := by
  have met : ∀ (k : Fin 4) (p : Permit), p.metByAlarm k = false ↔
      p.kind ≠ .connect ∧ (p.kind.hasLimit = true → meetsBay p.scope k = false) := by
    intro k p
    cases hk : p.kind <;> simp [Permit.metByAlarm, hk, Kind.hasLimit]
  simp only [AlarmRevokes, met, Fin.getElem_fin]

/-- Records that remain, and no bay newly in an alarm state. -/
theorem alarmRevokes_of {s t : State} (hs : s.SlotsRemain t)
    (hf : ∀ k : Fin 4, t.fire[k.val].state.inAlarm = true → s.fire[k.val].state.inAlarm = true) (h : AlarmRevokes s) :
    AlarmRevokes t := by
  rw [alarmRevokes_iff] at h ⊢
  intro k i q hk hq hst
  obtain ⟨p, hp, hpq⟩ := hs.back hq
  obtain ⟨ek, -, es, -⟩ := hpq.stands
  have := h k i p (hf k hk) hp (hpq.standing hst)
  simpa only [Permit.metByAlarm, ek, es] using this

theorem State.FireSteady.inAlarm {s t : State} (h : s.FireSteady t) (k : Fin 4)
    (hk : t.fire[k.val].state.inAlarm = true) : s.fire[k.val].state.inAlarm = true := by
  obtain ⟨e, -⟩ := h k
  rwa [e] at hk

theorem State.quietBay_inAlarm (s : State) (j k : Fin 4) (h : (s.quietBay j).fire[k.val].state.inAlarm = true) :
    s.fire[k.val].state.inAlarm = true := by
  rw [State.quietBay_fire, contain_getElem, getElem_put] at h
  split at h
  · cases h
  · exact h

theorem State.releaseBay_inAlarm (s : State) (j k : Fin 4) (hj : s.fire[j.val].state.inAlarm = true)
    (h : (s.releaseBay j).fire[k.val].state.inAlarm = true) : s.fire[k.val].state.inAlarm = true := by
  rw [State.releaseBay_fire, contain_getElem, getElem_put] at h
  split at h
  · next e => subst e; exact hj
  · exact h

/-- The fire evaluation revokes what stands against the bays that it takes to an alarm state. -/
theorem State.fireAndAlarm_alarmRevokes {s : State} (h : AlarmRevokes s) : AlarmRevokes s.fireAndAlarm := by
  rw [alarmRevokes_iff] at h ⊢
  intro k i q hk hq hst
  rw [State.fireAndAlarm_fire] at hk
  obtain ⟨p, hp, rfl⟩ := s.fireAndAlarm_updates.back hq
  rw [Permit.revokedWhere] at hst ⊢
  split at hst
  · exact absurd hst (by simp [Permit.standing, Permit.revoked])
  · next hm =>
    rw [if_neg hm]
    by_cases ho : s.fire[k.val].state.inAlarm = true
    · exact h k i p ho hp hst
    · have hmem : k ∈ alarmEntries s.fire s.fireStage.fire := by
        rw [mem_alarmEntries, State.fireStage_fire]
        exact ⟨by simpa using ho, hk⟩
      simp only [hst, Bool.and_true, List.any_eq_true, not_exists, not_and] at hm
      simpa using hm k hmem

theorem State.Effect.alarmRevokes {s t : State} (a : s.Effect t) (h : AlarmRevokes s) : AlarmRevokes t := by
  rcases a.fire with hf | ⟨k, -, rfl⟩ | ⟨k, hk, rfl⟩ | rfl
  · exact alarmRevokes_of a.slotsRemain hf.inAlarm h
  · exact alarmRevokes_of a.slotsRemain (fun j => s.quietBay_inAlarm k j) h
  · exact alarmRevokes_of a.slotsRemain (fun j => s.releaseBay_inAlarm k j hk) h
  · exact State.fireAndAlarm_alarmRevokes h

theorem State.Touch.inAlarm {s t : State} (a : s.Touch t) (k : Fin 4) :
    t.fire[k.val].state.inAlarm = s.fire[k.val].state.inAlarm := a.serviceAlike.fire k

/-- A GRANT of a kind that an alarm revokes is refused while an alarm state meets it (R7). -/
theorem State.First.alarmRevokes {s t : State} (a : s.First t) (h : AlarmRevokes s) : AlarmRevokes t := by
  rw [alarmRevokes_iff] at h ⊢
  intro k i q hk hq hst
  rw [a.fire] at hk
  rcases a.holds hq with hp | ⟨kind, holder, o, hr, -, rfl, -⟩
  · exact h k i q hk hp hst
  · obtain ⟨-, hm, -⟩ := State.grantRefusal_passed hr
    have hbay := List.any_eq_false.1 hm k (mem_allBays k)
    simp only [Fin.getElem_fin, hk, Bool.true_and] at hbay
    change ((kind == .connect) || ((kind == .charge || kind == .discharge) && meetsBay o.scope k)) = false
    cases kind <;> simp_all

theorem alarmRevokes_kept : StepKeeps AlarmRevokes AlarmRevokes :=
  StepKeeps.ofMoves (fun _ _ h => h)
    (fun _ _ a => alarmRevokes_of (.of_eq a.slots) (State.FireSteady.of_aside a.fire).inAlarm)
    (fun _ _ a => alarmRevokes_of a.slotsRemain fun k hk => (a.inAlarm k).symm.trans hk)
    (fun _ _ => State.Effect.alarmRevokes) (fun _ _ => State.First.alarmRevokes)
    (fun s clock next x _ _ i p _ hp => absurd hp (s.afterReset_free clock next x i p))

/-! ### Contactors against an alarm -/

/-- Contactors that stay at rest, and no bay newly in an alarm state. -/
theorem alarmOpens_of {s t : State} (hc : ∀ i : Fin 8, AtRest s.contactors[i.val] → AtRest t.contactors[i.val])
    (hf : ∀ k : Fin 4, t.fire[k.val].state.inAlarm = true → s.fire[k.val].state.inAlarm = true) (h : AlarmOpens s) :
    AlarmOpens t := fun i hi => hc i (h i (hf _ hi))

/-- A bay in an alarm state leaves its strings unready (R139). -/
theorem State.unmetOf_of_alarm (s : State) (i : Fin 8) (h : s.fire[(bayOf i).val].state.inAlarm = true) :
    (s.unmetOf i).isEmpty = false := by
  simp [Unmet.isEmpty, State.unmetOf, h]

theorem State.connectStage_alarmOpens {s : State} (h : AlarmOpens s) : AlarmOpens s.connectStage := by
  intro i hi
  rw [State.connectStage_fire] at hi
  exact s.connectStage_atRest i (s.unmetOf_of_alarm i hi) (h i hi)

/-- The alarm entries open the contactors of the bays that the evaluation takes to an alarm state. -/
theorem State.fireAndAlarm_alarmOpens {s : State} (h : AlarmOpens s) : AlarmOpens s.fireAndAlarm := by
  intro i hi
  rw [State.fireAndAlarm_fire] at hi
  simp only [Fin.getElem_fin, State.fireAndAlarm_contactor]
  split
  · exact Contactor.openNow_atRest _ _
  · next hm =>
    rw [mem_alarmEntries, State.fireStage_fire, not_and'] at hm
    exact h i (by simpa using hm hi)

theorem State.Effect.alarmOpens {s t : State} (a : s.Effect t) (h : AlarmOpens s) : AlarmOpens t := by
  rcases a.contactors with hc | rfl
  · rcases a.fire with hf | ⟨k, -, rfl⟩ | ⟨k, hk, rfl⟩ | rfl
    · exact alarmOpens_of hc hf.inAlarm h
    · exact alarmOpens_of hc (fun j => s.quietBay_inAlarm k j) h
    · exact alarmOpens_of hc (fun j => s.releaseBay_inAlarm k j hk) h
    · exact State.fireAndAlarm_alarmOpens h
  · exact State.connectStage_alarmOpens h

theorem State.First.contactors {s t : State} (h : s.First t) : t.contactors = s.contactors := by
  cases h with
  | grant => simp only [State.grantSlot]; split <;> rfl
  | retire => simp
  | load => simp [State.loadUnit]
  | refit => simp [State.refitUnit, State.refitStrings]

theorem alarmOpens_kept : StepKeeps AlarmOpens AlarmOpens :=
  StepKeeps.ofMoves (fun _ _ h => h)
    (fun s t a => alarmOpens_of (fun i hi => by simpa only [AtRest, (a.contactors i).state] using hi)
      (State.FireSteady.of_aside a.fire).inAlarm)
    (fun s t a => by
      obtain ⟨-, -, hc, -⟩ := a.frame
      exact alarmOpens_of (fun i => by rw [hc]; exact id) fun k hk => (a.inAlarm k).symm.trans hk)
    (fun _ _ => State.Effect.alarmOpens)
    (fun s t a => alarmOpens_of (fun i => by rw [a.contactors]; exact id) fun k => by rw [a.fire]; exact id)
    (fun s clock next x _ i _ => .inl (by simp [State.afterReset, Contactor.atReset]))

/-! ### Containment and cooling -/

/-- The containment requests are those that the bays' states give (R117). -/
def State.Contained (s : State) : Prop := ∀ k : Fin 4, s.fire[k.val].containment = containmentOf s.fire k

/-- The containment requests read the bays' states alone. -/
theorem containmentOf_congr {v w : Vector FireRec 4}
    (hc : ∀ k : Fin 4, w[k.val].state.closesContainer = v[k.val].state.closesContainer)
    (ha : ∀ k : Fin 4, w[k.val].state = .alarm ↔ v[k.val].state = .alarm) (k : Fin 4) :
    containmentOf w k = containmentOf v k := by
  simp only [containmentOf, Fin.getElem_fin, hc, ha]

theorem State.FireSteady.contained {s t : State} (h : s.FireSteady t) (hs : s.Contained) : t.Contained := by
  intro k
  obtain ⟨-, -, hc⟩ := h k
  rw [hc, hs k]
  refine (containmentOf_congr (fun j => ?_) (fun j => ?_) k).symm
  all_goals obtain ⟨e, -⟩ := h j; rw [e]

theorem contain_contained (t : State) (fire : Vector FireRec 4) (h : t.fire = contain fire) : t.Contained := by
  intro k
  rw [h, contain_getElem]
  exact (containmentOf_congr (fun j => by rw [contain_getElem]) (fun j => by rw [contain_getElem]) k).symm

theorem State.Effect.contained {s t : State} (a : s.Effect t) (h : s.Contained) : t.Contained := by
  rcases a.fire with hf | ⟨k, -, rfl⟩ | ⟨k, -, rfl⟩ | rfl
  · exact hf.contained h
  · exact contain_contained _ _ (s.quietBay_fire k)
  · exact contain_contained _ _ (s.releaseBay_fire k)
  · exact contain_contained _ _ s.fireAndAlarm_fire

theorem State.Touch.contained {s t : State} (a : s.Touch t) (h : s.Contained) : t.Contained := by
  rcases a.fire with hf | ⟨j, e, hj, rfl⟩
  · exact hf.contained h
  · intro k
    have hc : containmentOf (s.setFire j { s.fire[j.val] with state := .released none, releaseOutput := false }).fire k =
        containmentOf s.fire k := by
      refine containmentOf_congr (fun i => ?_) (fun i => ?_) k
      all_goals
        rw [State.setFire_fire, getElem_put]
        split
        · next e => subst e; simp [hj, FireState.closesContainer]
        · rfl
    rw [hc, ← h k, State.setFire_fire, getElem_put]
    split
    · next e => subst e; rfl
    · rfl

/-- What the Cooling Controller holds and drives of one bay. -/
def CoolRec.Follows (r : CoolRec) (c : Containment) : Prop :=
  r.containment = c ∧ r.outputs = outputsOf r.running r.heaterDemand r.containment ∧
    r.flowTimer.map (·.goal) = flowGoal r.outputs.pump r.flowFault r.flow

theorem CoolRec.drive_follows (r : CoolRec) (now : Nat) : (r.drive now).Follows r.containment := by
  obtain ⟨ho, ht, hr, hh, hc, hf, hff⟩ := CoolRec.drive_spec r now
  refine ⟨hc, ?_, ?_⟩
  · rw [ho, hr, hh, hc]
  · rw [ht, hf, hff]

@[simp] theorem CoolRec.follow_containment (r : CoolRec) (demand now runOn : Nat) :
    (r.follow demand now runOn).containment = r.containment := by
  simp only [CoolRec.follow]
  split
  · rfl
  · split <;> rfl

theorem State.coolBay_follows (s : State) (k : Fin 4) : (s.coolBay k).Follows s.fire[k.val].containment := by
  have h := CoolRec.drive_follows (CoolRec.follow { s.cooling[k] with
    even := s.coolInput (evenOf k), odd := s.coolInput (oddOf k)
    heaterDemand := (demandOf (s.coolInput (evenOf k)) (s.coolInput (oddOf k))).2
    containment := s.fire[k].containment } (demandOf (s.coolInput (evenOf k)) (s.coolInput (oddOf k))).1 s.now
      s.unit.active.runOn) s.now
  rw [CoolRec.follow_containment] at h
  exact h

/-- Requests, what the Cooling Controller holds of them, and its outputs. -/
def State.CoolingLaw (s : State) : Prop :=
  s.Contained ∧ ∀ k : Fin 4, (s.cooling[k.val]).Follows s.fire[k.val].containment

theorem coolingLaw_iff (s : State) : ContainmentHeld s ∧ CoolingFollows s ↔ s.CoolingLaw := by
  constructor
  · rintro ⟨h, k⟩
    exact ⟨fun j => (h j).1, fun j => ⟨(h j).2, k j⟩⟩
  · rintro ⟨h, k⟩
    refine ⟨fun j => ?_, fun j => ?_⟩
    · obtain ⟨hc, -⟩ := k j
      exact ⟨h j, hc⟩
    · obtain ⟨-, ho⟩ := k j
      exact ho

theorem State.settleWith_coolingLaw (s : State) (g : Option (Fin 48)) (h : s.Contained) :
    (s.settleWith g).CoolingLaw := by
  have hc : (s.doorStage.fireAndAlarm).Contained := (State.Effect.fireAndAlarm (s := s.doorStage)).contained h
  have hf : (s.settleWith g).fire = (s.doorStage.fireAndAlarm).fire := by simp [State.settleWith]
  have hcool : (s.settleWith g).cooling = tab4 (s.doorStage.fireAndAlarm).coolBay := by simp [State.settleWith]
  refine ⟨fun k => by rw [hf]; exact hc k, fun k => ?_⟩
  rw [hf, hcool, getElem_tab4]
  exact State.coolBay_follows _ k

theorem State.Touch.coolingLaw {s t : State} (a : s.Touch t) (h : s.CoolingLaw) : t.CoolingLaw := by
  refine ⟨a.contained h.1, fun k => ?_⟩
  have hcont : t.fire[k.val].containment = s.fire[k.val].containment := by
    rcases a.fire with hf | ⟨j, e, hj, rfl⟩
    · obtain ⟨-, -, e⟩ := hf k
      exact e
    · rw [State.setFire_fire, getElem_put]
      split
      · next e => subst e; rfl
      · rfl
  rw [hcont]
  cases a with
  | flow j x =>
    rw [State.setCooling_cooling, getElem_put]
    split
    · next e =>
      subst e
      obtain ⟨_, hk⟩ := h
      obtain ⟨hc, -⟩ := hk k
      rw [← hc]
      exact CoolRec.drive_follows _ _
    · exact h.2 k
  | breaker | transmit => simpa using h.2 k
  | unmark | renew | pulseEnd => exact h.2 k

theorem coolingLaw_kept : StepKeeps State.Contained State.CoolingLaw where
  weaken _ h := h.1
  queue _ _ h := h
  aside s t a := by
    have hf := State.FireSteady.of_aside a.fire
    refine ⟨hf.contained, fun ⟨h, k⟩ => ⟨hf.contained h, fun j => ?_⟩⟩
    obtain ⟨-, -, e⟩ := hf j
    rw [a.cooling, e]
    exact k j
  touch _ _ a := ⟨a.contained, a.coolingLaw⟩
  effect _ _ := State.Effect.contained
  first s t a h := State.FireSteady.contained (.of_eq a.fire) h
  settle := State.settleWith_coolingLaw
  reset s clock next x _ := by
    have hs : ∀ j : Fin 4, (s.afterReset clock next).fire[j.val].state = .quiet := fun j =>
      (s.afterReset_fire clock next j).1
    refine ⟨fun k => ?_, fun k => ?_⟩
    · obtain ⟨-, -, hc⟩ := s.afterReset_fire clock next k
      refine hc.trans ?_
      simp [containmentOf, hs, FireState.closesContainer, allBays]
    · obtain ⟨-, -, hc⟩ := s.afterReset_fire clock next k
      change CoolRec.Follows _ (s.afterReset clock next).fire[k.val].containment
      rw [hc]
      simp [State.afterReset, CoolRec.atReset, CoolRec.Follows, outputsOf, flowGoal]

/-- While the requests stand and are held, an alarm state keeps the fans off (R131). -/
theorem alarmStopsFans_of_law {s : State} (h : s.CoolingLaw) : AlarmStopsFans s := by
  obtain ⟨hc, hk⟩ := h
  intro k ha
  obtain ⟨he, ho, -⟩ := hk k
  have hn : s.fire[k.val].containment ≠ .none := by
    rw [hc k, containmentOf]
    split
    · simp
    · next hany =>
      split
      · simp
      · next hal =>
        have hcl := List.any_eq_false.1 (Bool.eq_false_iff.2 hany) k (mem_allBays k)
        simp only [Fin.getElem_fin] at ha hal hcl
        cases hst : s.fire[k.val].state <;> simp_all [FireState.inAlarm, FireState.closesContainer]
  simp only [Fin.getElem_fin]
  rw [ho, he]
  cases hcon : s.fire[k.val].containment <;> simp_all [outputsOf]

/-! ### Release outputs -/

theorem State.FireSteady.release {s t : State} (h : s.FireSteady t) (hs : ReleaseOnlyInPulse s) :
    ReleaseOnlyInPulse t := by
  intro k
  obtain ⟨e, o, -⟩ := h k
  simp only [Fin.getElem_fin, e, o]
  exact hs k

/-- A bay's record replaced and containment recomputed. -/
theorem contain_put_release {s t : State} (k : Fin 4) (r : FireRec) (ht : t.fire = contain (put s.fire k r))
    (hr : r.releaseOutput = true ↔ ∃ e, r.state = .released (some e)) (hs : ReleaseOnlyInPulse s) :
    ReleaseOnlyInPulse t := by
  intro j
  simp only [Fin.getElem_fin, ht, contain_getElem, getElem_put]
  split
  · exact hr
  · exact hs j

theorem State.Effect.release {s t : State} (a : s.Effect t) (h : ReleaseOnlyInPulse s) : ReleaseOnlyInPulse t := by
  rcases a.fire with hf | ⟨k, hk, rfl⟩ | ⟨k, -, rfl⟩ | rfl
  · exact hf.release h
  · refine contain_put_release k _ (s.quietBay_fire k) ⟨fun hr => ?_, nofun⟩ h
    obtain ⟨e, he⟩ := (h k).1 hr
    exact absurd he (hk e)
  · exact contain_put_release k _ (s.releaseBay_fire k) ⟨fun _ => ⟨_, rfl⟩, fun _ => rfl⟩ h
  · intro k
    simp only [Fin.getElem_fin, State.fireAndAlarm_bay, State.evaluateBay, FireState.decide_released]
    exact h k

theorem State.Touch.release {s t : State} (a : s.Touch t) (h : ReleaseOnlyInPulse s) : ReleaseOnlyInPulse t := by
  rcases a.fire with hf | ⟨j, e, hj, rfl⟩
  · exact hf.release h
  · intro k
    simp only [Fin.getElem_fin, State.setFire_fire, getElem_put]
    split
    · simp
    · exact h k

theorem release_kept : StepKeeps ReleaseOnlyInPulse ReleaseOnlyInPulse :=
  StepKeeps.ofMoves (fun _ _ h => h) (fun _ _ a => (State.FireSteady.of_aside a.fire).release)
    (fun _ _ => State.Touch.release) (fun _ _ => State.Effect.release)
    (fun _ _ a => (State.FireSteady.of_eq a.fire).release)
    (fun s clock next x _ k => by
      obtain ⟨hs, ho, -⟩ := s.afterReset_fire clock next k
      simp only [Fin.getElem_fin]
      rw [hs, ho]
      simp)

/-! ### Countdowns -/

/-- A LIVE ENTRY that covers a bay, seen back through a move that makes no ENTRY LIVE. -/
theorem entryCovers_of_rel {R : Permit → Permit → Prop} {s t : State} (h : s.SlotsRel R t)
    (hR : ∀ p q, R p q → q.kind = p.kind ∧ q.scope = p.scope ∧ (p.kind = .entry → q.state = .live → p.state = .live))
    {k : Fin 4} (hs : s.entryCovers k = false) : t.entryCovers k = false := by
  rw [← Bool.not_eq_true, State.entryCovers_iff] at hs ⊢
  rintro ⟨i, q, hq, hk, hl, hm⟩
  obtain ⟨p, hp, hpq⟩ := h.back hq
  obtain ⟨ek, es, hst⟩ := hR p q hpq
  rw [ek] at hk
  rw [es] at hm
  exact hs ⟨i, p, hp, hk, hst hk hl, hm⟩

theorem State.SlotsHandedOn.entryCovers {s t : State} (h : s.SlotsHandedOn t) {k : Fin 4}
    (hs : s.entryCovers k = false) : t.entryCovers k = false :=
  entryCovers_of_rel h (fun p q hpq => ⟨hpq.remains.stands.1, hpq.remains.stands.2.2.1, fun hk hl =>
    (hpq.falls hl).resolve_right (by rw [hk]; simp)⟩) hs

/-- Countdowns that ran before, unattended as before. -/
theorem countdown_of {s t : State} (hs : s.SlotsHandedOn t)
    (hf : ∀ (k : Fin 4) e, t.fire[k.val].state = .countdown e →
      s.fire[k.val].state = .countdown e ∧ t.fire[k.val].hold.taken = s.fire[k.val].hold.taken)
    (hl : t.loaded = s.loaded) (ha : t.unit.active = s.unit.active) (h : CountdownUnattended s) :
    CountdownUnattended t := by
  intro k e he
  obtain ⟨he', hh⟩ := hf k e he
  obtain ⟨h1, h2, h3⟩ := h k e he'
  exact ⟨hs.entryCovers h1, hh.trans h2, by rw [hl, ha]; exact h3⟩

/-- A countdown after a fire evaluation is one without a manual cause. -/
theorem State.fireAndAlarm_countdown (s : State) : CountdownUnattended s.fireAndAlarm := by
  intro k e he
  simp only [Fin.getElem_fin, State.fireAndAlarm_bay, State.evaluateBay] at he
  have hm := FireState.decide_countdown he
  simp only [Manual.any, State.manualOf, Bool.or_eq_false_iff] at hm
  obtain ⟨⟨hc, hh⟩, hp⟩ := hm
  refine ⟨entryCovers_of_rel s.fireAndAlarm_entry ?_ hc, ?_, ?_⟩
  · rintro p q ⟨hf, hq⟩
    exact ⟨hf.kind, hf.scope, fun hk hl => by rwa [hq hk] at hl⟩
  · simpa only [Fin.getElem_fin, State.fireAndAlarm_bay, State.evaluateBay] using hh
  · simpa using hp

theorem State.settleWith_countdown (s : State) (g : Option (Fin 48)) : CountdownUnattended (s.settleWith g) := by
  have hs : s.doorStage.fireAndAlarm.SlotsHandedOn (s.settleWith g) :=
    ((((State.SlotsHandedOn.of_eq (t := s.doorStage.fireAndAlarm.coolStage.connectStage) (by simp)).trans
      (State.isolateStage_handedOn _ g)).trans (State.evaluateStage_handedOn _)).trans
      (State.linkStage_handedOn _)).trans (.of_eq (State.startUpStage_slots _))
  have hf : (s.settleWith g).fire = s.doorStage.fireAndAlarm.fire := by simp [State.settleWith]
  refine countdown_of hs (fun k e he => ?_) (by simp) (by simp) s.doorStage.fireAndAlarm_countdown
  rw [hf] at he ⊢
  exact ⟨he, rfl⟩

theorem countdown_kept : StepKeeps (fun _ => True) CountdownUnattended where
  weaken _ _ := trivial
  queue _ _ h := h
  aside s t a := ⟨fun _ => trivial, countdown_of (.of_eq a.slots)
    (fun k e he => ⟨(a.fire k).state ▸ he, (a.fire k).held⟩) a.loaded a.active⟩
  touch s t a := by
    obtain ⟨-, -, -, hu, hl, -, -⟩ := a.frame
    refine ⟨fun _ => trivial, countdown_of a.slotsHandedOn (fun k e he => ?_) hl (by rw [hu])⟩
    cases a with
    | pulseEnd j x hj =>
      rw [State.setFire_fire, getElem_put] at he ⊢
      split at he
      · cases he
      · next hne => rw [if_neg hne]; exact ⟨he, rfl⟩
    | breaker | transmit => simpa using he
    | unmark | renew | flow => exact ⟨he, rfl⟩
  effect _ _ _ _ := trivial
  first _ _ _ _ := trivial
  settle s g _ := s.settleWith_countdown g
  reset s clock next x _ k e he := by
    obtain ⟨hs, -⟩ := s.afterReset_fire clock next k
    rw [Fin.getElem_fin, hs] at he
    cases he

/-- Settles O56: each law is kept by every move of a step's course, or set by its settling. -/
theorem stepsKeepFireLaws : Obligations.StepsKeepFireLaws := by
  refine ⟨⟨fun s t => alarmRevokes_kept.step s t, fun s t => alarmOpens_kept.step s t, ?_, ?_⟩,
    fun s t => release_kept.step s t, fun s t => countdown_kept.step s t⟩
  · intro s t hc hf hst
    rw [coolingLaw_iff]
    exact coolingLaw_kept.step s t ((coolingLaw_iff s).1 ⟨hc, hf⟩) hst
  · intro s hc hf
    exact alarmStopsFans_of_law ((coolingLaw_iff s).1 ⟨hc, hf⟩)

end Sys2Proof.Machine
end

section
/-! SUPPORT. The changes that the moves of a step make to a record, one at a time. -/

namespace Sys2Proof.Machine

open Sys2Proof.Safety Sys2Proof.Claims

/-- A record as an order, a frame or a timer proposes it, before its target is recomputed from it. -/
inductive Permit.Proposed (s : State) (p : Permit) : Permit → Prop
  | same : p.Proposed s p
  | amended (change op2 op3 op4 op5 : Word)
      (h : p.amendRefusal (AmendOps.decode change op2 op3 op4 op5) s.unit.clock = none) :
      p.Proposed s (p.amended (AmendOps.decode change op2 op3 op4 op5) s.now)
  | reduced (limit : Nat) (hr : p.state ≠ .revoked) (h0 : 0 < limit) (hl : limit ≤ p.requested) :
      p.Proposed s { p with limits := p.limits.map fun l => ⟨limit, l.effective, l.rise⟩ }
  | ended (l : Limits) (r : Rise) (hl : p.limits = some l) (hr : l.rise = some r) (hs : p.liveOrSuspended = true) :
      p.Proposed s (p.applyPending l r)

/-- A record after one move from state `s` to state `t`. Where its target is not recomputed, the envelopes of its scope
stand. -/
inductive Permit.Change (s t : State) (p : Permit) : Permit → Prop
  | marked (changed notice : Bool) (he : t.envelopeSum p.kind p.scope = s.envelopeSum p.kind p.scope) :
      p.Change s t { p with changed := changed, notice := notice }
  | renewed (he : t.envelopeSum p.kind p.scope = s.envelopeSum p.kind p.scope) : p.Change s t (p.renewed s.now)
  | revoked (reason : Reason) (byOrder : Bool) :
      p.Change s t (p.revoked reason byOrder s.now (Config.sec s.unit.active.revokedHold))
  | served (st : PermitState) (reason : Option Reason) (changed : Bool) (hk : p.kind.hasLimit = false) :
      p.Change s t { p with state := st, reason := reason, changed := changed }
  | amended (change op2 op3 op4 op5 : Word)
      (h : p.amendRefusal (AmendOps.decode change op2 op3 op4 op5) s.unit.clock = none)
      (hl : (AmendOps.decode change op2 op3 op4 op5).limit = none)
      (he : t.envelopeSum p.kind p.scope = s.envelopeSum p.kind p.scope) :
      p.Change s t (p.amended (AmendOps.decode change op2 op3 op4 op5) s.now)
  | retargeted (src : Source) (q : Permit) (h : p.Proposed s q) : p.Change s t (t.retargeted src q)

section

variable {s t : State} {p : Permit}

theorem envelopeSum_congr (h : ∀ i : Fin 8, t.strings[i.val].chargeEnvelope = s.strings[i.val].chargeEnvelope ∧
    t.strings[i.val].dischargeEnvelope = s.strings[i.val].dischargeEnvelope) (kind : Kind) (scope : BitVec 8) :
    t.envelopeSum kind scope = s.envelopeSum kind scope := by
  have e : ∀ i : Fin 8, t.strings[i.val].envelopeFor kind = s.strings[i.val].envelopeFor kind := fun i => by
    obtain ⟨hc, hd⟩ := h i
    cases kind <;> simp only [StringRec.envelopeFor, hc, hd]
  simp only [State.envelopeSum, Fin.getElem_fin, e]

/-- A record that stands. -/
theorem Permit.Change.same (he : t.envelopeSum p.kind p.scope = s.envelopeSum p.kind p.scope) : p.Change s t p :=
  .marked p.changed p.notice he

/-- A move of one slot, the strings standing. -/
theorem changes_of_slot (i : Fin 48) (q : Permit) (hs : t.strings = s.strings) (ht : t.slots = (s.setPermit i q).slots)
    (hp : s.slots[i.val].permit = some p) (h : p.Change s t q) : s.SlotsRel (Permit.Change s t) t := by
  intro j
  rw [ht, State.setPermit_slots, getElem_put]
  split
  · next e => subst e; exact ⟨rfl, .inr ⟨p, q, hp, rfl, h⟩⟩
  · exact Slot.Rel.refl (fun p => .same (by simp only [State.envelopeSum, hs])) _

/-- A move that leaves table and envelopes. -/
theorem changes_of_eq (h : t.slots = s.slots) (he : ∀ kind scope, t.envelopeSum kind scope = s.envelopeSum kind scope) :
    s.SlotsRel (Permit.Change s t) t := .of_eq (fun _ => .same (he _ _)) h

/-- A recomputed target of a proposed record. -/
theorem changes_of_retarget (i : Fin 48) (q : Permit) (src : Source) (hp : s.slots[i.val].permit = some p)
    (h : p.Proposed s q) (u : State) (hu : u.slots = (s.setPermit i q).slots)
    (hs : u.strings = s.strings) :
    s.SlotsRel (Permit.Change s (u.retargetSlot src i)) (u.retargetSlot src i) := by
  have hq : u.slots[i.val].permit = some q := by rw [hu, State.setPermit_slots, getElem_put_self]
  have hr : (u.retargetSlot src i).retargeted src = u.retargeted src :=
    State.retargeted_congr (by simp) (by simp) (by simp) src
  refine changes_of_slot i ((u.retargetSlot src i).retargeted src q) (by simp [hs]) ?_ hp (.retargeted src q h)
  rw [State.retargetSlot_turn, hr, ← u.setPermit_turn i (u.retargeted src) hq, State.setPermit_slots, hu]
  simp [put]

/-- A table of which the record of every slot has been changed. -/
theorem changes_of_updates {f : Fin 48 → Permit → Permit} (h : s.SlotsUpdate f t)
    (hf : ∀ (i : Fin 48) (p : Permit), p.Change s t (f i p)) : s.SlotsRel (Permit.Change s t) t := h.rel hf

/-! ### Revocations and the grid -/

theorem Permit.revokedWhere_change (f : Permit → Bool) (reason : Reason)
    (he : t.envelopeSum p.kind p.scope = s.envelopeSum p.kind p.scope) :
    p.Change s t (p.revokedWhere f reason s.now (Config.sec s.unit.active.revokedHold)) := by
  rw [Permit.revokedWhere]
  split
  · exact .revoked reason false
  · exact .same he

theorem Permit.gridFall_change (he : t.envelopeSum p.kind p.scope = s.envelopeSum p.kind p.scope) :
    p.Change s t p.gridFall := by
  rw [Permit.gridFall]
  split
  · next h => exact .served _ _ _ (by rw [h.1]; rfl)
  · exact .same he

theorem Permit.gridReturn_change (he : t.envelopeSum p.kind p.scope = s.envelopeSum p.kind p.scope) :
    p.Change s t p.gridReturn := by
  rw [Permit.gridReturn]
  split
  · next h => exact .served _ _ _ (by rw [h.1]; rfl)
  · exact .same he

theorem Permit.completed_change (opened : BitVec 8 → Bool) (granted : Bool)
    (he : t.envelopeSum p.kind p.scope = s.envelopeSum p.kind p.scope) :
    p.Change s t (p.completed opened granted) := by
  rw [Permit.completed]
  split
  · next h => exact .served .live p.reason _ (by rw [h.1]; rfl)
  · exact .same he

/-! ### The hand-off of an evaluation -/

/-- An evaluation that names no string of a scope leaves the envelopes of the scope. -/
theorem envelopeSum_unnamed (kind : Kind) (scope : BitVec 8) (h : namesAny s.strings t.strings scope = false) :
    t.envelopeSum kind scope = s.envelopeSum kind scope := by
  simp only [State.envelopeSum]
  congr 1
  refine List.map_congr_left fun i hi => ?_
  have hn := List.any_eq_false.1 h i hi
  cases hs : inScope scope i with
  | false => rfl
  | true =>
    simp only [hs, handsOver, Bool.true_and, Bool.or_eq_true, bne_iff_ne, ne_eq, not_or, not_not] at hn
    obtain ⟨⟨hc, hd⟩, -⟩ := hn
    cases kind <;> simp only [if_true, StringRec.envelopeFor, hc, hd]

theorem State.evaluateStage_changes (s : State) : s.SlotsRel (Permit.Change s s.evaluateStage) s.evaluateStage := by
  cases hl : s.loaded with
  | false =>
    rw [State.evaluateStage_unloaded s hl]
    exact changes_of_eq rfl fun _ _ => rfl
  | true =>
    refine changes_of_updates (s.evaluateStage_updates hl) fun _ p => ?_
    have hs : s.evaluateStage.strings = s.evaluateAll.strings := by rw [State.evaluateStage_strings s hl]; rfl
    rw [State.handedTo, ← State.retargeted_congr (s := s.evaluateAll) (t := s.evaluateStage) hs (by simp) (by simp), ← hs]
    split
    · exact .retargeted .other p .same
    · next hn => exact .same (envelopeSum_unnamed _ _ (by simpa using hn))

/-! ### Moves -/

theorem State.Touch.changes (h : s.Touch t) : s.SlotsRel (Permit.Change s t) t := by
  obtain ⟨hs, -⟩ := h.frame
  have he : ∀ kind scope, t.envelopeSum kind scope = s.envelopeSum kind scope := fun _ _ => by
    simp only [State.envelopeSum, hs]
  cases h with
  | unmark i p hp => exact changes_of_slot i _ hs rfl hp (.marked false p.notice (he _ _))
  | renew i p hp => exact changes_of_slot i _ hs rfl hp (.renewed (he _ _))
  | breaker => exact changes_of_eq (by simp) he
  | pulseEnd | flow => exact changes_of_eq rfl he
  | transmit =>
    simp only [State.linkStage] at he ⊢
    split
    · split
      · exact changes_of_eq rfl fun _ _ => rfl
      · split
        · split
          · next p hp => exact changes_of_slot _ _ rfl rfl hp (.marked p.changed false rfl)
          · exact changes_of_eq rfl fun _ _ => rfl
        · exact changes_of_eq rfl fun _ _ => rfl
    · exact changes_of_eq rfl fun _ _ => rfl

theorem State.revokeSlot_changes (s : State) (reason : Reason) (byOrder : Bool) (i : Fin 48) :
    s.SlotsRel (Permit.Change s (s.revokeSlot reason byOrder i)) (s.revokeSlot reason byOrder i) := by
  have he : ∀ kind scope, (s.revokeSlot reason byOrder i).envelopeSum kind scope = s.envelopeSum kind scope :=
    fun _ _ => by simp only [State.envelopeSum, State.revokeSlot_strings]
  intro j
  rw [State.revokeSlot_turn, getElem_put]
  split
  · next e =>
    subst e
    refine ⟨rfl, ?_⟩
    cases hp : s.slots[j.val].permit with
    | none => exact .inl ⟨rfl, by simp [Slot.update, hp]⟩
    | some p =>
      refine .inr ⟨p, _, rfl, by simp only [Slot.update, hp, Option.map_some]; rfl, ?_⟩
      split
      · exact .revoked reason byOrder
      · exact .same (he _ _)
  · exact Slot.Rel.refl (fun p => .same (he _ _)) _

theorem State.Effect.changes (h : s.Effect t) : s.SlotsRel (Permit.Change s t) t := by
  have updated : ∀ {f : Fin 48 → Permit → Permit}, s.SlotsUpdate f t → t.strings = s.strings →
      (∀ (i : Fin 48) (p : Permit), t.envelopeSum p.kind p.scope = s.envelopeSum p.kind p.scope → p.Change s t (f i p)) →
      s.SlotsRel (Permit.Change s t) t := fun hu hs hf =>
    changes_of_updates hu fun i p => hf i p (by simp only [State.envelopeSum, hs])
  have same : t.slots = s.slots → t.strings = s.strings → s.SlotsRel (Permit.Change s t) t := fun e hs =>
    changes_of_eq e fun _ _ => by simp only [State.envelopeSum, hs]
  cases h with
  | senses k => exact changes_of_eq (by rw [k.frame]) (envelopeSum_congr fun i => (k.strings i).2)
  | revokeSlot r b i => exact s.revokeSlot_changes r b i
  | revokeWhere f r =>
    exact updated (s.revokeWhere_updates f r) (by simp) fun _ _ => Permit.revokedWhere_change _ _
  | amend i p change op2 op3 op4 op5 hp ho =>
    have hpr := Permit.Proposed.amended (s := s) (p := p) change op2 op3 op4 op5 ho
    simp only [State.amendSlot]
    cases hl : (AmendOps.decode change op2 op3 op4 op5).limit with
    | none => exact changes_of_slot i _ rfl rfl hp (.amended change op2 op3 op4 op5 ho hl rfl)
    | some l => exact changes_of_retarget i _ .amend hp hpr _ rfl rfl
  | reduce i p limit hp hr h0 hl => exact changes_of_retarget i _ .reduce hp (.reduced limit hr h0 hl) _ rfl rfl
  | riseEnd i p l r hp hl hr hs =>
    exact changes_of_retarget i _ .other hp (.ended l r hl hr hs) _ (by simp) rfl
  | gridFalls =>
    have h := ((State.SlotsUpdate.of_eq (s := s) (t := (s.setReconnect none false).openBreaker) (by simp)).trans
      (State.suspendConnect_updates _))
    exact updated h (by simp [State.gridFalls]) fun _ _ => Permit.gridFall_change
  | gridReturns =>
    have h := ((State.SlotsUpdate.of_eq (s := s) (t := s.setReconnect none true) (by simp)).trans
      (State.resumeConnect_updates _))
    exact updated h (by simp) fun _ _ => Permit.gridReturn_change
  | fireAndAlarm => exact updated s.fireAndAlarm_updates (by simp) fun _ _ => Permit.revokedWhere_change _ _
  | isolateStage g => exact updated (s.isolateStage_updates g) (by simp) fun _ _ => Permit.completed_change _ _
  | evaluateStage => exact s.evaluateStage_changes
  | linkState h => exact same (by rw [h]) (by rw [h])
  | fireInputs | cool | flowFault | contactor | setMode | loadContactors | opened | doorStage | coolStage =>
    exact same rfl rfl
  | quietBay | releaseBay | replaceContactor | checkMatch | refitContactors | refitCooling | connectStage =>
    refine same ?_ ?_ <;>
      simp [State.quietBay, State.releaseBay, State.replaceContactor, State.refitContactors, State.refitCooling]

/-- An effect that the settling hands on leaves time, and the profile in use. -/
theorem State.Effect.timeless (h : s.Effect t) : t.now = s.now ∧ t.unit.active = s.unit.active ∧
    t.unit.working = s.unit.working ∧ t.unit.stored = s.unit.stored := by
  cases h with
  | senses k => rw [k.frame]; exact ⟨rfl, rfl, rfl, rfl⟩
  | linkState k => rw [k]; exact ⟨rfl, rfl, rfl, rfl⟩
  | amend => simp only [State.amendSlot]; split <;> simp
  | fireInputs | cool | flowFault | contactor | setMode | loadContactors | opened | doorStage | coolStage =>
    exact ⟨rfl, rfl, rfl, rfl⟩
  | revokeSlot | revokeWhere | reduce | riseEnd | gridFalls | gridReturns | fireAndAlarm | isolateStage | evaluateStage
  | quietBay | releaseBay | replaceContactor | checkMatch | refitContactors | refitCooling | connectStage =>
    simp [State.reduceSlot, State.endRise, State.gridFalls, State.quietBay, State.releaseBay, State.replaceContactor,
      State.refitContactors, State.refitCooling]

end

end Sys2Proof.Machine
end

section
/-! PROOF. Every step keeps site law 3 and the ranges of records and hold times (O54). -/

namespace Sys2Proof.Machine

open Sys2Proof.Safety Sys2Proof.Claims

/-! ### Site law 3 of one record -/

/-- What a CHARGE or DISCHARGE record meets whatever its target: it has limits, is not PENDING, is SUSPENDED for an
envelope alone, is LIVE exactly with an effective limit above 0, and has a rise above 0. -/
structure Permit.LimitSound (p : Permit) : Prop where
  limits : p.limits.isSome = true
  pending : p.state ≠ .pending
  reason : p.state = .suspended → ∃ n c, p.reason = some (.envelope n c)
  rise : ∀ l r, p.limits = some l → l.rise = some r → 0 < r.value
  live : 0 < p.effective ↔ p.state = .live

/-- A record within its request and the envelopes of its scope. -/
def State.Within (s : State) (p : Permit) : Prop :=
  p.effective ≤ p.requested ∧ p.effective ≤ s.envelopeSum p.kind p.scope

/-- Site law 3 of one record (R10), with what else a record with limits meets. -/
def State.LimitLaw (s : State) (p : Permit) : Prop := p.kind.hasLimit = true → p.LimitSound ∧ s.Within p

section

variable {s t : State} {p q : Permit}

theorem Permit.effective_eq {l : Limits} (h : p.limits = some l) : p.effective = l.effective := by
  simp only [Permit.effective, h]

theorem Permit.requested_eq {l : Limits} (h : p.limits = some l) : p.requested = l.requested := by
  simp only [Permit.requested, h]

/-- The target of a rise that a record is given is above 0. -/
theorem nextRise_value {l : Limits} {target now hold : Nat} {r : Rise} (ht : l.effective ≤ target)
    (hl : ∀ r, l.rise = some r → 0 < r.value) (h : nextRise l target now hold = some r) : 0 < r.value := by
  simp only [nextRise] at h
  split at h
  · cases h
  · next hne =>
    split at h
    · cases h; simp only; omega
    · next r' hr' =>
      split at h
      · cases h; simp only; omega
      · split at h
        · cases h; exact hl r hr'
        · cases h; simp only; omega

/-- A recomputed target establishes site law 3 of a sound record. -/
theorem State.retargeted_law (t : State) (src : Source) (h : q.LimitSound) :
    (t.retargeted src q).LimitSound ∧ t.Within (t.retargeted src q) := by
  have hf := q.retarget_follows src (t.targetOf q) t.now (Config.sec t.unit.active.riseHold) (t.restricting q.scope)
  obtain ⟨l, hl⟩ := Option.isSome_iff_exists.1 h.limits
  have hlive := h.live
  rw [Permit.effective_eq hl] at hlive
  rw [State.Within, State.retargeted, hf.requested, hf.kind, hf.scope]
  rcases q.retarget_cases src (t.targetOf q) t.now (Config.sec t.unit.active.riseHold) (t.restricting q.scope) with
    ⟨e, hn⟩ | ⟨l', hl', hst, ⟨ht, e⟩ | ⟨ht, e⟩⟩
  · rw [e]
    refine ⟨h, ?_⟩
    have hnl : q.state ≠ .live := by
      rcases hn with hn | hn
      · rw [hl] at hn; cases hn
      · intro hs
        rw [(Permit.liveOrSuspended_iff q).2 (.inl hs)] at hn
        cases hn
    have h0 : q.effective = 0 := by
      rw [Permit.effective_eq hl]
      exact Nat.eq_zero_of_not_pos (hnl ∘ hlive.1)
    rw [h0]
    exact ⟨Nat.zero_le _, Nat.zero_le _⟩
  · rw [hl] at hl'
    cases hl'
    have hs : q.state = .live := hlive.1 (by omega)
    rw [e, Permit.applyFall_eq]
    have hle : t.targetOf q ≤ q.requested ∧ t.targetOf q ≤ t.envelopeSum q.kind q.scope :=
      ⟨Nat.min_le_left _ _, Nat.min_le_right _ _⟩
    refine ⟨⟨rfl, ?_, ?_, ?_, ?_⟩, hle⟩
    · simp only [hs, and_true]
      split <;> simp
    · simp only [hs, and_true]
      split
      · exact fun _ => ⟨_, _, rfl⟩
      · simp
    · rintro l' r e' hr
      cases e'
      cases hr
    · simp only [hs, and_true]
      split
      · next h0 => simp [Permit.effective, h0]
      · next h0 => exact ⟨fun _ => rfl, fun _ => Nat.pos_of_ne_zero h0⟩
  · rw [hl] at hl'
    cases hl'
    have heff : l.effective ≤ q.requested ∧ l.effective ≤ t.envelopeSum q.kind q.scope :=
      ⟨ht.trans (Nat.min_le_left _ _), ht.trans (Nat.min_le_right _ _)⟩
    have hreason : q.state = .suspended → ∃ n c, (q.applyRise l src (t.targetOf q) t.now
        (Config.sec t.unit.active.riseHold) (t.restricting q.scope)).reason = some (.envelope n c) := by
      intro hs
      obtain ⟨n, c, hr⟩ := h.reason hs
      simp only [Permit.applyRise, hs, hr]
      split
      · exact ⟨n, c, rfl⟩
      · exact ⟨_, _, rfl⟩
    rw [e, Permit.applyRise_eq]
    refine ⟨⟨rfl, h.pending, hreason, ?_, hlive⟩, heff⟩
    rintro l' r e' hr
    cases e'
    exact nextRise_value ht (fun r => h.rise l r hl) hr

/-- Records that differ in nothing that site law 3 reads but the request and the envelopes. -/
theorem Permit.LimitSound.congr (h : p.LimitSound) (hl : q.limits = p.limits) (hs : q.state = p.state)
    (hr : q.reason = p.reason) : q.LimitSound where
  limits := by rw [hl]; exact h.limits
  pending := by rw [hs]; exact h.pending
  reason := by rw [hs, hr]; exact h.reason
  rise := by rw [hl]; exact h.rise
  live := by
    have e : q.effective = p.effective := by simp only [Permit.effective, hl]
    rw [hs, e]
    exact h.live

/-- A record that is proposed is sound where the record was. -/
theorem Permit.Proposed.sound (hq : p.Proposed s q) (h : p.LimitSound) : q.LimitSound := by
  obtain ⟨l, hl⟩ := Option.isSome_iff_exists.1 h.limits
  have hlive := h.live
  rw [Permit.effective_eq hl] at hlive
  cases hq with
  | same => exact h
  | amended change op2 op3 op4 op5 =>
    refine ⟨by simp [Permit.amended, hl], h.pending, h.reason, ?_, ?_⟩
    · rintro l' r e hr
      simp only [Permit.amended, hl, Option.map_some, Option.some.injEq] at e
      subst e
      exact h.rise l r hl hr
    · simpa only [Permit.effective, Permit.amended, hl, Option.map_some] using hlive
  | reduced limit =>
    refine ⟨by simp [hl], h.pending, h.reason, ?_, ?_⟩
    · rintro l' r e hr
      simp only [hl, Option.map_some, Option.some.injEq] at e
      subst e
      exact h.rise l r hl hr
    · simpa only [Permit.effective, hl, Option.map_some] using hlive
  | ended l' r hl' hr hst =>
    have hv : 0 < r.value := h.rise l' r hl' hr
    have hs : (p.applyPending l' r).state = .live := by
      simp only [Permit.applyPending]
      rcases (Permit.liveOrSuspended_iff p).1 hst with e | e
      · simp [e]
      · obtain ⟨n, c, hc⟩ := h.reason e
        simp [e, hc]
    obtain ⟨-, -, -, hlim⟩ := p.applyPending_spec l' r
    refine ⟨by rw [hlim]; rfl, by rw [hs]; simp, by rw [hs]; simp, ?_, ?_⟩
    · rintro l2 r2 e hr2
      rw [hlim] at e
      cases e
      cases hr2
    · rw [hs, Permit.effective_eq hlim]
      exact ⟨fun _ => rfl, fun _ => hv⟩

theorem Permit.Proposed.kind (hq : p.Proposed s q) : q.kind = p.kind := by
  cases hq with
  | same | amended | reduced => rfl
  | ended l r hl hr hs =>
    obtain ⟨hk, -⟩ := p.applyPending_spec l r
    exact hk

theorem State.retargeted_kind (t : State) (src : Source) (q : Permit) : (t.retargeted src q).kind = q.kind :=
  (q.retarget_follows _ _ _ _ _).kind

/-- Site law 3 of a record goes over every change that a move makes. -/
theorem Permit.Change.law (hq : p.Change s t q) (h : s.LimitLaw p) : t.LimitLaw q := by
  cases hq with
  | marked c n he =>
    intro hk
    obtain ⟨hs, hr, hw⟩ := h hk
    exact ⟨hs.congr rfl rfl rfl, hr, he ▸ hw⟩
  | renewed he =>
    intro hk
    obtain ⟨hs, hr, hw⟩ := h hk
    exact ⟨hs.congr rfl rfl rfl, hr, he ▸ hw⟩
  | revoked reason byOrder =>
    intro hk
    obtain ⟨hs, -⟩ := h hk
    obtain ⟨l, hl⟩ := Option.isSome_iff_exists.1 hs.limits
    have h0 : (p.revoked reason byOrder s.now (Config.sec s.unit.active.revokedHold)).effective = 0 := by
      simp [Permit.revoked, Permit.effective, hl]
    refine ⟨⟨by simp [Permit.revoked, hl], nofun, nofun, ?_, by rw [h0]; simp [Permit.revoked]⟩,
      by rw [h0]; exact Nat.zero_le _, by rw [h0]; exact Nat.zero_le _⟩
    rintro l' r e hr
    simp only [Permit.revoked, hl, Option.map_some, Option.some.injEq] at e
    subst e
    cases hr
  | served st reason changed hk =>
    intro hk'
    rw [hk] at hk'
    cases hk'
  | amended change op2 op3 op4 op5 hr hl he =>
    intro hk
    obtain ⟨hs, hw, hw'⟩ := h hk
    have hlim : (p.amended (AmendOps.decode change op2 op3 op4 op5) s.now).limits = p.limits := by
      cases hpl : p.limits <;> simp [Permit.amended, hpl, hl]
    refine ⟨hs.congr hlim rfl rfl, ?_⟩
    simp only [State.Within, Permit.effective, Permit.requested, hlim]
    exact ⟨hw, he ▸ hw'⟩
  | retargeted src q hq =>
    intro hk
    rw [State.retargeted_kind, hq.kind] at hk
    exact State.retargeted_law t src (hq.sound (h hk).1)

/-- Site law 3 of a record that a GRANT writes (R9, R10). -/
theorem State.grantedPermit_law (s : State) (kind : Kind) (holder : Holder) (o : GrantOps) :
    s.LimitLaw (s.grantedPermit kind holder o) := by
  intro hk
  change kind.hasLimit = true at hk
  have hlim : (s.grantedPermit kind holder o).limits =
      some ⟨o.limit.getD 0, min (o.limit.getD 0) (s.envelopeSum kind o.scope), none⟩ := by
    simp only [State.grantedPermit, hk, if_true]
  have hst : (s.grantEntry kind o.scope (min (o.limit.getD 0) (s.envelopeSum kind o.scope))) =
      if 0 < min (o.limit.getD 0) (s.envelopeSum kind o.scope) then (.live, none)
      else (.suspended, some (.envelope (s.restricting o.scope).1 (s.restricting o.scope).2)) := by
    cases kind with
    | charge | discharge => rfl
    | connect | isolate | entry => cases hk
  refine ⟨⟨by rw [hlim]; rfl, ?_, ?_, ?_, ?_⟩, ?_⟩
  · simp only [State.grantedPermit, hst]
    split <;> simp
  · simp only [State.grantedPermit, hst]
    split
    · simp
    · exact fun _ => ⟨_, _, rfl⟩
  · rintro l r e hr
    rw [hlim] at e
    cases e
    cases hr
  · rw [Permit.effective_eq hlim]
    simp only [State.grantedPermit, hst]
    split
    · next h0 => exact ⟨fun _ => rfl, fun _ => h0⟩
    · next h0 => exact ⟨fun h => absurd h h0, by simp⟩
  · rw [State.Within, Permit.effective_eq hlim, Permit.requested_eq hlim]
    exact ⟨Nat.min_le_left _ _, Nat.min_le_right _ _⟩

end

/-- Every record meets site law 3. -/
def State.LimitsLawful (s : State) : Prop := ∀ i p, Holds s i p → s.LimitLaw p

theorem limitsLawful_iff {s : State} (hl : LimitsFollowKind s) :
    LimitRecordsSound s ∧ EffectiveWithinTarget s ↔ s.LimitsLawful := by
  constructor
  · rintro ⟨hs, he⟩ i p hp hk
    obtain ⟨h1, h2, h3⟩ := hs i p hp hk
    obtain ⟨h4, h5, h6⟩ := he i p hp hk
    exact ⟨⟨by rw [hl i p hp, hk], h1, h2, h3, h4⟩, h5, h6⟩
  · intro h
    refine ⟨fun i p hp hk => ?_, fun i p hp hk => ?_⟩
    · obtain ⟨hs, -⟩ := h i p hp hk
      exact ⟨hs.pending, hs.reason, hs.rise⟩
    · obtain ⟨hs, hr, hw⟩ := h i p hp hk
      exact ⟨hs.live, hr, hw⟩

theorem lawful_of_changes {s t : State} (h : s.SlotsRel (Permit.Change s t) t) (hs : s.LimitsLawful) :
    t.LimitsLawful := by
  intro i q hq
  obtain ⟨p, hp, hpq⟩ := h.back hq
  exact hpq.law (hs i p hp)

theorem State.Aside.changes {s t : State} (a : s.Aside t) : s.SlotsRel (Permit.Change s t) t :=
  changes_of_eq a.slots (envelopeSum_congr fun i => by rw [a.strings i]; exact ⟨rfl, rfl⟩)

/-- The first effects leave the envelopes. -/
theorem State.First.envelopeSum {s t : State} (a : s.First t) (kind : Kind) (scope : BitVec 8) :
    t.envelopeSum kind scope = s.envelopeSum kind scope := by
  cases a with
  | grant => simp only [State.grantSlot]; split <;> rfl
  | retire => simp only [State.envelopeSum, State.retireSlot_strings]
  | load => exact envelopeSum_congr (fun i => by simp [State.loadUnit]) kind scope
  | refit p =>
    refine envelopeSum_congr (fun i => ?_) kind scope
    simpa [State.refitUnit, State.refitStrings] using StringRec.refit_envelopes s.strings[i.val] p (p.isFitted i)

theorem State.First.lawful {s t : State} (a : s.First t) (h : s.LimitsLawful) : t.LimitsLawful := by
  intro i q hq hk
  have hlaw : s.LimitLaw q := by
    rcases a.holds hq with hp | ⟨kind, holder, o, -, -, rfl, -⟩
    · exact h i q hp
    · exact s.grantedPermit_law kind holder o
  obtain ⟨hs, hr, hw⟩ := hlaw hk
  exact ⟨hs, hr, (a.envelopeSum _ _).symm ▸ hw⟩

theorem lawful_kept : StepKeeps (fun s => LimitsFollowKind s ∧ s.LimitsLawful) (fun s => LimitsFollowKind s ∧ s.LimitsLawful) :=
  StepKeeps.withLimits (fun _ _ h => h) (fun _ _ a _ => lawful_of_changes a.changes)
    (fun _ _ a _ => lawful_of_changes a.changes) (fun _ _ a _ => lawful_of_changes a.changes)
    (fun _ _ a _ => a.lawful)
    (fun s clock next x _ i p hp => absurd hp (s.afterReset_free clock next x i p))

/-! ### Ranges -/

section

variable {s t : State} {p q : Permit}

/-- What an amendment or a grant may set: a limit, a lease and an expiry in their ranges (R6). -/
theorem outside_bounds {x : Option Nat} {low high v : Nat} (h : outside x low high = false) (hx : x = some v) :
    v ≤ high := by
  subst hx
  simp only [outside, Bool.or_eq_false_iff, decide_eq_false_iff_not] at h
  omega

/-- The expiry that the operand words of an order give (11.1.4). -/
theorem expiry_bounds {op4 op5 : Word} {high : Nat} {c : Bool} {e : SiteTime} {clock : SiteTime}
    (hx : (if c then some (⟨op4.toNat, secondOf op5 high⟩ : SiteTime) else none) = some e)
    (h : expiryRefused (some e) clock = false) : e.day ≤ 65535 ∧ e.second ≤ 86399 := by
  split at hx
  · cases hx
    simp only [expiryRefused, Bool.or_eq_false_iff, decide_eq_false_iff_not] at h
    exact ⟨Nat.le_of_lt_succ op4.isLt, Nat.le_of_not_lt h.1⟩
  · cases hx

theorem sec_mono {a b : Nat} (h : a ≤ b) : Config.sec a ≤ Config.sec b := Nat.mul_le_mul_right _ h

/-- The limits of a record in range: a request, an effective limit and a rise. -/
def Limits.InRange (l : Limits) (now : Nat) : Prop :=
  l.effective ≤ 8000 ∧ l.requested ≤ 8000 ∧
    ∀ r, l.rise = some r → r.value ≤ 8000 ∧ r.holdEnd ≤ now + Config.sec 60

/-- The times of a record in range. -/
structure Permit.TimesInRange (p : Permit) (now : Nat) : Prop where
  leasePeriod : ∀ l, p.leasePeriod = some l → l ≤ 60
  leaseEnd : ∀ e, p.leaseEnd = some e → e ≤ now + Config.sec 60
  holdEnd : ∀ e, p.holdEnd = some e → e ≤ now + Config.sec 3600
  expiry : ∀ e, p.expiry = some e → e.day ≤ 65535 ∧ e.second ≤ 86399

theorem inRanges_iff : InRanges s p ↔ (∀ l, p.limits = some l → l.InRange s.now) ∧ p.TimesInRange s.now := by
  constructor
  · rintro ⟨he, hr, hlp, hle, hri, hh, hx⟩
    refine ⟨fun l hl => ?_, hlp, hle, hh, hx⟩
    rw [Permit.effective_eq hl] at he
    rw [Permit.requested_eq hl] at hr
    exact ⟨he, hr, fun r => hri l r hl⟩
  · rintro ⟨hl, ht⟩
    have hlim : p.effective ≤ 8000 ∧ p.requested ≤ 8000 := by
      cases h : p.limits with
      | none => simp [Permit.effective, Permit.requested, h]
      | some l =>
        obtain ⟨he, hr, -⟩ := hl l h
        rw [Permit.effective_eq h, Permit.requested_eq h]
        exact ⟨he, hr⟩
    refine ⟨hlim.1, hlim.2, ht.leasePeriod, ht.leaseEnd, fun l r h1 h2 => ?_, ht.holdEnd, ht.expiry⟩
    obtain ⟨-, -, hrise⟩ := hl l h1
    exact hrise r h2

theorem Limits.InRange.mono {l : Limits} {a b : Nat} (h : l.InRange a) (hab : a ≤ b) : l.InRange b := by
  obtain ⟨h1, h2, h3⟩ := h
  refine ⟨h1, h2, fun r hr => ?_⟩
  obtain ⟨h4, h5⟩ := h3 r hr
  exact ⟨h4, by omega⟩

theorem Permit.TimesInRange.mono {a b : Nat} (h : p.TimesInRange a) (hab : a ≤ b) : p.TimesInRange b where
  leasePeriod := h.leasePeriod
  leaseEnd e he := (h.leaseEnd e he).trans (by omega)
  holdEnd e he := (h.holdEnd e he).trans (by omega)
  expiry := h.expiry

/-- A record that keeps its times. -/
theorem Permit.TimesInRange.congr {now : Nat} (h : p.TimesInRange now) (h1 : q.leasePeriod = p.leasePeriod)
    (h2 : q.leaseEnd = p.leaseEnd) (h3 : q.holdEnd = p.holdEnd) (h4 : q.expiry = p.expiry) : q.TimesInRange now where
  leasePeriod := by rw [h1]; exact h.leasePeriod
  leaseEnd := by rw [h2]; exact h.leaseEnd
  holdEnd := by rw [h3]; exact h.holdEnd
  expiry := by rw [h4]; exact h.expiry

theorem nextRise_inRange {l : Limits} {target now hold : Nat} {r : Rise} (h : l.InRange now) (ht : target ≤ 8000)
    (hh : hold ≤ Config.sec 60) (hr : nextRise l target now hold = some r) :
    r.value ≤ 8000 ∧ r.holdEnd ≤ now + Config.sec 60 := by
  obtain ⟨-, -, hrise⟩ := h
  simp only [nextRise] at hr
  split at hr
  · cases hr
  · split at hr
    · cases hr; exact ⟨ht, by simp only; omega⟩
    · next r' hr' =>
      obtain ⟨-, he⟩ := hrise r' hr'
      split at hr
      · cases hr; exact ⟨ht, by simp only; omega⟩
      · split at hr
        · cases hr; exact hrise r hr'
        · cases hr; exact ⟨ht, he⟩

/-- A recomputed target leaves a record in its ranges. -/
theorem State.retargeted_inRange (t : State) (src : Source) (ht : HoldsInRange t.unit.active) (h : InRanges t q) :
    InRanges t (t.retargeted src q) := by
  rw [inRanges_iff] at h ⊢
  obtain ⟨hl, htm⟩ := h
  have hhold : Config.sec t.unit.active.riseHold ≤ Config.sec 60 := sec_mono ht.1
  rw [State.retargeted]
  rcases q.retarget_cases src (t.targetOf q) t.now (Config.sec t.unit.active.riseHold) (t.restricting q.scope) with
    ⟨e, -⟩ | ⟨l, hql, -, hc⟩
  · rw [e]; exact ⟨hl, htm⟩
  · have hr := hl l hql
    obtain ⟨heff, hreq, -⟩ := hr
    have htarget : t.targetOf q ≤ 8000 := by
      rw [← Permit.requested_eq hql] at hreq
      exact (Nat.min_le_left _ _).trans hreq
    rcases hc with ⟨-, e⟩ | ⟨-, e⟩
    · rw [e, Permit.applyFall_eq]
      refine ⟨?_, htm.congr rfl rfl rfl rfl⟩
      rintro l' e'
      cases e'
      exact ⟨htarget, hreq, nofun⟩
    · rw [e, Permit.applyRise_eq]
      refine ⟨?_, htm.congr rfl rfl rfl rfl⟩
      rintro l' e'
      cases e'
      exact ⟨heff, hreq, fun r => nextRise_inRange (hl l hql) htarget hhold⟩

theorem Permit.renewed_times {now : Nat} (h : p.TimesInRange now) : (p.renewed now).TimesInRange now where
  leasePeriod := h.leasePeriod
  leaseEnd e he := by
    obtain ⟨x, hx, rfl⟩ := Option.map_eq_some_iff.1 he
    exact Nat.add_le_add_left (sec_mono (h.leasePeriod x hx)) _
  holdEnd := h.holdEnd
  expiry := h.expiry

/-- The checks of an amendment that is not refused (R26). -/
theorem Permit.amendRefusal_passed {o : AmendOps} {clock : SiteTime} (h : p.amendRefusal o clock = none) :
    outside o.limit 1 8000 = false ∧ outside o.leaseSet 1 60 = false ∧ expiryRefused o.expirySet clock = false := by
  simp only [Permit.amendRefusal, orElse_eq_none, refuseWhen_eq_none, Bool.or_eq_false_iff] at h
  obtain ⟨-, -, -, ⟨-, hl⟩, ⟨-, hs⟩, -, ⟨-, he⟩, -⟩ := h
  exact ⟨hl, hs, he⟩

theorem Permit.amended_inRange (change op2 op3 op4 op5 : Word)
    (hr : p.amendRefusal (AmendOps.decode change op2 op3 op4 op5) s.unit.clock = none) (h : InRanges s p) :
    InRanges s (p.amended (AmendOps.decode change op2 op3 op4 op5) s.now) := by
  rw [inRanges_iff] at h ⊢
  obtain ⟨hl, htm⟩ := h
  obtain ⟨hlim, hlease, hexp⟩ := Permit.amendRefusal_passed hr
  refine ⟨?_, ?_, ?_, htm.holdEnd, ?_⟩
  · intro l' e'
    obtain ⟨l, hpl, rfl⟩ := Option.map_eq_some_iff.1 e'
    obtain ⟨h1, h2, h3⟩ := hl l hpl
    refine ⟨h1, ?_, h3⟩
    cases ho : (AmendOps.decode change op2 op3 op4 op5).limit with
    | none => exact h2
    | some v => exact outside_bounds hlim ho
  · intro x hx
    simp only [Permit.amended] at hx
    split at hx
    · cases hx
    · rcases Option.or_eq_some_iff.1 hx with e | ⟨-, e⟩
      · exact outside_bounds hlease e
      · exact htm.leasePeriod x e
  · intro x hx
    simp only [Permit.amended] at hx
    split at hx
    · cases hx
    · rcases Option.or_eq_some_iff.1 hx with e | ⟨-, e⟩
      · obtain ⟨y, hy, rfl⟩ := Option.map_eq_some_iff.1 e
        exact Nat.add_le_add_left (sec_mono (outside_bounds hlease hy)) _
      · exact htm.leaseEnd x e
  · intro x hx
    simp only [Permit.amended] at hx
    split at hx
    · cases hx
    · rcases Option.or_eq_some_iff.1 hx with e | ⟨-, e⟩
      · rw [e] at hexp
        exact expiry_bounds e hexp
      · exact htm.expiry x e

theorem Permit.Proposed.inRange (hq : p.Proposed s q) (h : InRanges s p) : InRanges s q := by
  cases hq with
  | same => exact h
  | amended change op2 op3 op4 op5 hr => exact Permit.amended_inRange change op2 op3 op4 op5 hr h
  | reduced limit hr h0 hlim =>
    rw [inRanges_iff] at h ⊢
    obtain ⟨hl, htm⟩ := h
    refine ⟨?_, htm.congr rfl rfl rfl rfl⟩
    intro l' e'
    obtain ⟨l, hpl, rfl⟩ := Option.map_eq_some_iff.1 e'
    obtain ⟨h1, h2, h3⟩ := hl l hpl
    rw [Permit.requested_eq hpl] at hlim
    exact ⟨h1, hlim.trans h2, h3⟩
  | ended l r hpl hlr hs =>
    rw [inRanges_iff] at h ⊢
    obtain ⟨hl, htm⟩ := h
    obtain ⟨h1, h2, h3⟩ := hl l hpl
    obtain ⟨h4, -⟩ := h3 r hlr
    obtain ⟨-, -, -, hlim⟩ := p.applyPending_spec l r
    refine ⟨?_, ?_⟩
    · intro l' e'
      rw [hlim] at e'
      cases e'
      exact ⟨h4, h2, nofun⟩
    · simp only [Permit.applyPending]
      split <;> exact htm.congr rfl rfl rfl rfl

/-- The numbers of a record stay in their ranges over every change that a move makes. -/
theorem Permit.Change.inRange (hq : p.Change s t q) (hn : t.now = s.now) (ha : t.unit.active = s.unit.active)
    (hp : HoldsInRange s.unit.active) (h : InRanges s p) : InRanges t q := by
  have hnow : ∀ q : Permit, InRanges s q → InRanges t q := fun q hq => by rwa [InRanges, hn]
  have ⟨hl, htm⟩ := inRanges_iff.1 h
  cases hq with
  | marked c n => exact hnow _ (inRanges_iff.2 ⟨hl, htm.congr rfl rfl rfl rfl⟩)
  | renewed => exact hnow _ (inRanges_iff.2 ⟨hl, Permit.renewed_times htm⟩)
  | served => exact hnow _ (inRanges_iff.2 ⟨hl, htm.congr rfl rfl rfl rfl⟩)
  | amended change op2 op3 op4 op5 hr => exact hnow _ (Permit.amended_inRange change op2 op3 op4 op5 hr h)
  | retargeted src q hq => exact State.retargeted_inRange t src (ha ▸ hp) (hnow _ (hq.inRange h))
  | revoked reason byOrder =>
    refine hnow _ (inRanges_iff.2 ⟨?_, htm.leasePeriod, nofun, ?_, htm.expiry⟩)
    · intro l' e'
      obtain ⟨l, hpl, rfl⟩ := Option.map_eq_some_iff.1 e'
      obtain ⟨-, h2, -⟩ := hl l hpl
      exact ⟨Nat.zero_le _, h2, nofun⟩
    · intro e he
      simp only [Permit.revoked, Option.some.injEq] at he
      subst he
      exact Nat.add_le_add_left (sec_mono hp.2) _

/-- A record that a GRANT writes is in its ranges (R6, R9). -/
theorem State.grantedPermit_inRange (s : State) (kind : Kind) (holder : Holder) (op0 op1 op2 op3 op4 op5 : Word)
    (hr : s.grantRefusal kind holder (GrantOps.decode op0 op1 op2 op3 op4 op5) = none) :
    InRanges s (s.grantedPermit kind holder (GrantOps.decode op0 op1 op2 op3 op4 op5)) := by
  obtain ⟨hf, -⟩ := State.grantRefusal_passed hr
  simp only [grantFieldRefused, Bool.or_eq_false_iff] at hf
  obtain ⟨⟨⟨⟨⟨⟨⟨-, -⟩, hlim⟩, -⟩, hlease⟩, -⟩, hexp⟩, -⟩ := hf
  have hreq : (GrantOps.decode op0 op1 op2 op3 op4 op5).limit.getD 0 ≤ 8000 := by
    cases ho : (GrantOps.decode op0 op1 op2 op3 op4 op5).limit with
    | none => exact Nat.zero_le _
    | some v => exact outside_bounds hlim ho
  rw [inRanges_iff]
  refine ⟨?_, ?_, ?_, nofun, ?_⟩
  · intro l e
    simp only [State.grantedPermit] at e
    split at e
    · cases e
      exact ⟨(Nat.min_le_left _ _).trans hreq, hreq, nofun⟩
    · cases e
  · exact fun x hx => outside_bounds hlease hx
  · intro x hx
    obtain ⟨y, hy, rfl⟩ := Option.map_eq_some_iff.1 hx
    exact Nat.add_le_add_left (sec_mono (outside_bounds hlease hy)) _
  · intro x hx
    change (GrantOps.decode op0 op1 op2 op3 op4 op5).expiry = some x at hx
    rw [hx] at hexp
    exact expiry_bounds hx hexp

end

/-- Profiles and records in their ranges. -/
def State.Ranged (s : State) : Prop := ProfilesInRange s ∧ RecordsInRange s

theorem State.Effect.ranged {s t : State} (a : s.Effect t) (h : s.Ranged) : t.Ranged := by
  obtain ⟨hn, ha, hw, hst⟩ := a.timeless
  obtain ⟨hp, hr⟩ := h
  refine ⟨by rw [ProfilesInRange, ha, hw, hst]; exact hp, fun i q hq => ?_⟩
  obtain ⟨p, hp', hpq⟩ := a.changes.back hq
  exact hpq.inRange hn ha hp.1 (hr i p hp')

theorem State.Touch.ranged {s t : State} (a : s.Touch t) (h : s.Ranged) : t.Ranged := by
  obtain ⟨-, -, -, hu, -, -, hn⟩ := a.frame
  obtain ⟨hp, hr⟩ := h
  refine ⟨by rw [ProfilesInRange, hu]; exact hp, fun i q hq => ?_⟩
  obtain ⟨p, hp', hpq⟩ := a.changes.back hq
  exact hpq.inRange hn (by rw [hu]) hp.1 (hr i p hp')

theorem State.Aside.ranged {s t : State} (a : s.Aside t) (h : s.Ranged) : t.Ranged := by
  obtain ⟨hp, hr⟩ := h
  refine ⟨a.profiles hp, fun i q hq => ?_⟩
  obtain ⟨hl, htm⟩ := inRanges_iff.1 (hr i q ((Holds.congr a.slots).1 hq))
  exact inRanges_iff.2 ⟨fun l e => (hl l e).mono a.now, htm.mono a.now⟩

theorem State.First.ranged {s t : State} (a : s.First t) (h : s.Ranged) : t.Ranged := by
  obtain ⟨hp, hr⟩ := h
  have hn : t.now = s.now := by
    cases a with
    | grant => simp only [State.grantSlot]; split <;> rfl
    | retire => simp
    | load => simp [State.loadUnit]
    | refit => simp [State.refitUnit, State.refitStrings]
  have held : ∀ i q, Holds s i q → InRanges t q := fun i q hq => by rw [InRanges, hn]; exact hr i q hq
  have records : t.slots = s.slots → RecordsInRange t := fun e i q hq => held i q ((Holds.congr e).1 hq)
  obtain ⟨h1, h2, h3⟩ := hp
  cases a with
  | grant i kind holder op0 op1 op2 op3 op4 op5 hg hi =>
    have hu : (s.grantSlot i kind holder (GrantOps.decode op0 op1 op2 op3 op4 op5)).unit = s.unit := by
      simp only [State.grantSlot]; split <;> rfl
    refine ⟨by rw [ProfilesInRange, hu]; exact ⟨h1, h2, h3⟩, fun j q hq => ?_⟩
    rw [Holds.congr (State.grantSlot_slots s i kind holder _), State.setPermit_holds] at hq
    split at hq
    · subst hq
      rw [InRanges, hn]
      exact s.grantedPermit_inRange kind holder op0 op1 op2 op3 op4 op5 hg
    · exact held j q hq
  | retire i p hp =>
    refine ⟨by rw [ProfilesInRange, State.retireSlot_unit]; exact ⟨h1, h2, h3⟩, fun j q hq => held j q ?_⟩
    rw [Holds, Fin.getElem_fin, State.retireSlot_slots_self s i p hp, getElem_put] at hq
    split at hq
    · cases hq
    · exact hq
  | load =>
    refine ⟨?_, records (State.loadUnit_slots s)⟩
    have hl := holdsInRange_loaded h3
    simp only [ProfilesInRange, State.loadUnit, State.raiseIf_unit, State.setUnit_unit, ProfileUnit.load]
    exact ⟨hl, hl, h3⟩
  | refit p hw =>
    refine ⟨?_, records (State.refitUnit_slots s p)⟩
    simp only [ProfilesInRange, State.refitUnit, State.refitStrings, State.setUnit_unit, State.raiseIf_unit]
    exact ⟨hw ▸ h2, h2, h3⟩

theorem ranged_kept : StepKeeps (fun s => LimitsFollowKind s ∧ s.Ranged) (fun s => LimitsFollowKind s ∧ s.Ranged) :=
  StepKeeps.withLimits (fun _ _ h => h) (fun _ _ a _ => a.ranged) (fun _ _ a _ => a.ranged) (fun _ _ a _ => a.ranged)
    (fun _ _ a _ => a.ranged)
    (fun s clock next x ⟨⟨_, h2, h3⟩, _⟩ => by
      refine ⟨⟨holdsInRange_default, h2, ?_⟩, fun i p hp => absurd hp (s.afterReset_free clock next x i p)⟩
      simp only [State.afterReset, ProfileUnit.atReset]
      split
      · rw [Stored.agrees_erased]; nofun
      · exact h3)

/-- Settles O54: site law 3 of a record, and its ranges, go over every change that a move makes. -/
theorem stepsKeepEffectiveWithinTarget : Obligations.StepsKeepEffectiveWithinTarget := by
  refine ⟨fun s t hl hs he hst => ?_, fun s t hl hp hr hst => ranged_kept.step s t ⟨hl, hp, hr⟩ hst⟩
  obtain ⟨hl', h'⟩ := lawful_kept.step s t ⟨hl, (limitsLawful_iff hl).1 ⟨hs, he⟩⟩ hst
  exact ⟨hl', (limitsLawful_iff hl').2 h'⟩

end Sys2Proof.Machine
end

section
/-! PROOF. Besides a reset, every step that changes an announced field sets its attention flag (O60). -/

namespace Sys2Proof.Machine

open Sys2Proof.Safety Sys2Proof.Claims

/-- A flag raised behind a change of other fields loses none. -/
theorem State.keepsFlags_raiseIf {s u : State} (h : u.attention = s.attention) (c : Bool) (f : Flag) :
    s.KeepsFlags (u.raiseIf c f) := (State.KeepsFlags.of_eq h).trans (u.raiseIf_keepsFlags c f)

/-! ### What a move announces -/

/-- The announced fields of bays, breaker, contactors, buses, link, runner and start-up: a change has set its flag. -/
structure State.Announced (s t : State) : Prop where
  fire : ∀ k : Fin 4, t.fire[k.val].state.code ≠ s.fire[k.val].state.code → t.flagged .fire = true
  cooling : ∀ k : Fin 4, t.cooling[k.val].flowFault ≠ s.cooling[k.val].flowFault → t.flagged .cooling = true
  breaker : t.breaker.state.code ≠ s.breaker.state.code → t.flagged .connection = true
  contactors : ∀ i : Fin 8, t.contactors[i.val].state.isFailed = true → s.contactors[i.val].state.isFailed = false →
    t.flagged .connection = true
  failed : ∀ b : Fin 8, (∃ p, t.buses[b.val].state = .failed p) → (∀ p, s.buses[b.val].state ≠ .failed p) →
    t.flagged .bus = true
  stuck : ∀ b : Fin 8, (∃ l e, t.buses[b.val].state = .stuck l e) → (∀ l e, s.buses[b.val].state ≠ .stuck l e) →
    t.flagged .bus = true
  link : (s.link.state = .down ↔ t.link.state ≠ .down) → t.flagged .link = true
  runner : s.runner.state.Runs → ¬t.runner.state.Runs → t.flagged .chain = true
  startUp : s.unit.startUp.phase.Runs → ¬t.unit.startUp.phase.Runs → t.flagged .start = true

/-- The bands of strings whose fitted mark stands: a change has set the flag and the mark, and no mark has gone. -/
def State.BandsAnnounced (s t : State) : Prop :=
  ∀ i : Fin 8, t.strings[i.val].fitted = s.strings[i.val].fitted →
    (s.strings[i.val].bandChanged = true → t.strings[i.val].bandChanged = true) ∧
      (t.strings[i.val].band ≠ s.strings[i.val].band →
        t.flagged .band = true ∧ t.strings[i.val].bandChanged = true)

/-- The changed marks of the records that the slots still hold: one newly set has set the flag. -/
def State.MarksAnnounced (s t : State) : Prop :=
  ∀ i q, Holds t i q → ∃ p, Holds s i p ∧ (q.changed = true → p.changed = true ∨ t.flagged .permit = true)

section

variable {s t u : State}

theorem State.Announced.trans (h : s.Announced t) (k : t.Announced u) (hf : t.KeepsFlags u) : s.Announced u where
  fire j hj := by
    by_cases e : t.fire[j.val].state.code = s.fire[j.val].state.code
    · exact k.fire j (e ▸ hj)
    · exact hf _ (h.fire j e)
  cooling j hj := by
    by_cases e : t.cooling[j.val].flowFault = s.cooling[j.val].flowFault
    · exact k.cooling j (e ▸ hj)
    · exact hf _ (h.cooling j e)
  breaker hj := by
    by_cases e : t.breaker.state.code = s.breaker.state.code
    · exact k.breaker (e ▸ hj)
    · exact hf _ (h.breaker e)
  contactors i hu hs := by
    cases e : t.contactors[i.val].state.isFailed with
    | false => exact k.contactors i hu e
    | true => exact hf _ (h.contactors i e hs)
  failed b hu hs := by
    by_cases e : ∃ p, t.buses[b.val].state = .failed p
    · exact hf _ (h.failed b e hs)
    · exact k.failed b hu fun p hp => e ⟨p, hp⟩
  stuck b hu hs := by
    by_cases e : ∃ l f, t.buses[b.val].state = .stuck l f
    · exact hf _ (h.stuck b e hs)
    · exact k.stuck b hu fun l f hp => e ⟨l, f, hp⟩
  link hj := by
    by_cases e : s.link.state = .down ↔ t.link.state ≠ .down
    · exact hf _ (h.link e)
    · exact k.link (by tauto)
  runner hs hu := by
    by_cases e : t.runner.state.Runs
    · exact k.runner e hu
    · exact hf _ (h.runner hs e)
  startUp hs hu := by
    by_cases e : t.unit.startUp.phase.Runs
    · exact k.startUp e hu
    · exact hf _ (h.startUp hs e)

theorem State.MarksAnnounced.trans (h : s.MarksAnnounced t) (k : t.MarksAnnounced u) (hf : t.KeepsFlags u) :
    s.MarksAnnounced u := fun i q hq => by
  obtain ⟨p, hp, hc⟩ := k i q hq
  obtain ⟨o, ho, hd⟩ := h i p hp
  exact ⟨o, ho, fun e => (hc e).elim (fun e' => (hd e').imp_right (hf _)) .inr⟩

theorem State.MarksAnnounced.of_eq (h : t.slots = s.slots) : s.MarksAnnounced t := fun _ q hq =>
  ⟨q, (Holds.congr h).1 hq, .inl⟩

theorem State.BandsAnnounced.of_eq (h : t.strings = s.strings) : s.BandsAnnounced t := fun _ _ => by
  rw [h]; exact ⟨id, fun e => absurd rfl e⟩

theorem State.BandsAnnounced.trans (h : s.BandsAnnounced t) (k : t.BandsAnnounced u) (hf : t.KeepsFlags u)
    (hfit : ∀ i : Fin 8, u.strings[i.val].fitted = t.strings[i.val].fitted) : s.BandsAnnounced u := fun i hi => by
  obtain ⟨hm, hb⟩ := h i ((hfit i).symm.trans hi)
  obtain ⟨km, kb⟩ := k i (hfit i)
  refine ⟨km ∘ hm, fun hne => ?_⟩
  by_cases e : u.strings[i.val].band = t.strings[i.val].band
  · obtain ⟨hx, hy⟩ := hb (e ▸ hne)
    exact ⟨hf _ hx, km hy⟩
  · exact kb e

/-- A move that leaves the fitted marks and frees or fills no slot, and announces what it changes. -/
structure State.Announces (s t : State) : Prop where
  flags : s.KeepsFlags t
  fields : s.Announced t
  fitted : ∀ i : Fin 8, t.strings[i.val].fitted = s.strings[i.val].fitted
  bands : s.BandsAnnounced t
  marks : s.MarksAnnounced t

theorem State.Announces.trans (h : s.Announces t) (k : t.Announces u) : s.Announces u where
  flags := h.flags.trans k.flags
  fields := h.fields.trans k.fields k.flags
  fitted i := (k.fitted i).trans (h.fitted i)
  bands := h.bands.trans k.bands k.flags k.fitted
  marks := h.marks.trans k.marks k.flags

/-- A move all of whose announced fields stand, but for those of bays, cooling, breaker, contactors and link, which are
announced. -/
theorem State.Announced.of_fields
    (hfire : ∀ k : Fin 4, t.fire[k.val].state.code ≠ s.fire[k.val].state.code → t.flagged .fire = true)
    (hcool : ∀ k : Fin 4, t.cooling[k.val].flowFault ≠ s.cooling[k.val].flowFault → t.flagged .cooling = true)
    (hbreaker : t.breaker.state.code ≠ s.breaker.state.code → t.flagged .connection = true)
    (hcont : ∀ i : Fin 8, t.contactors[i.val].state.isFailed = true → s.contactors[i.val].state.isFailed = false →
      t.flagged .connection = true)
    (hlink : (s.link.state = .down ↔ t.link.state ≠ .down) → t.flagged .link = true)
    (hbus : t.buses = s.buses) (hrun : t.runner = s.runner) (hstart : t.unit.startUp = s.unit.startUp) :
    s.Announced t where
  fire := hfire
  cooling := hcool
  breaker := hbreaker
  contactors := hcont
  failed b := by rw [hbus]; exact fun ⟨p, hp⟩ h => absurd hp (h p)
  stuck b := by rw [hbus]; exact fun ⟨l, e, hp⟩ h => absurd hp (h l e)
  link := hlink
  runner := by rw [hrun]; exact fun h k => absurd h k
  startUp := by rw [hstart]; exact fun h k => absurd h k

/-- A move that leaves the strings, and announces what it changes of the other fields. -/
theorem State.Announces.of_fields (hf : s.KeepsFlags t) (hs : t.strings = s.strings) (hm : s.MarksAnnounced t)
    (ha : s.Announced t) : s.Announces t where
  flags := hf
  fields := ha
  fitted i := by rw [hs]
  bands := .of_eq hs
  marks := hm

/-- A move that leaves the announced fields. -/
theorem State.Announced.of_eqs (hfire : t.fire = s.fire) (hcool : t.cooling = s.cooling)
    (hb : t.breaker.state = s.breaker.state) (hc : t.contactors = s.contactors) (hl : t.link.state = s.link.state)
    (hbus : t.buses = s.buses) (hr : t.runner = s.runner) (hst : t.unit.startUp = s.unit.startUp) : s.Announced t :=
  .of_fields (fun k h => absurd (by rw [hfire]) h) (fun k h => absurd (by rw [hcool]) h)
    (fun h => absurd (by rw [hb]) h) (fun i h k => by rw [hc, k] at h; cases h) (fun h => by rw [hl] at h; tauto)
    hbus hr hst

/-- A move that changes no announced field, but for changed marks. -/
theorem State.Announces.of_marks (hf : s.KeepsFlags t) (hs : t.strings = s.strings) (hm : s.MarksAnnounced t)
    (hfire : t.fire = s.fire) (hcool : t.cooling = s.cooling) (hb : t.breaker.state = s.breaker.state)
    (hc : t.contactors = s.contactors) (hl : t.link.state = s.link.state) (hbus : t.buses = s.buses)
    (hr : t.runner = s.runner) (hst : t.unit.startUp = s.unit.startUp) : s.Announces t :=
  .of_fields hf hs hm (.of_eqs hfire hcool hb hc hl hbus hr hst)

theorem State.Announces.refl (s : State) : s.Announces s :=
  .of_marks (.refl s) rfl (.of_eq rfl) rfl rfl rfl rfl rfl rfl rfl rfl

/-- What an event changes beside the announced fields. -/
theorem State.Announces.of_beside (h : t = { s with
      doorReleased := t.doorReleased, crewKey := t.crewKey, door := t.door, serving := t.serving, loaded := t.loaded }) :
    s.Announces t := by
  rw [h]
  exact .of_marks (.of_eq rfl) rfl (.of_eq rfl) rfl rfl rfl rfl rfl rfl rfl rfl

end

/-! ### Operations -/

/-- A record written, its changed mark newly set only with the PERMIT flag. -/
theorem State.setPermit_raise_announces (s : State) (i : Fin 48) (p q : Permit) (c : Bool)
    (hp : s.slots[i.val].permit = some p) (hq : q.changed = true → p.changed = true ∨ c = true) :
    s.Announces ((s.setPermit i q).raiseIf c .permit) := by
  refine .of_marks (State.raiseIf_keepsFlags (s.setPermit i q) c .permit) (by simp) (fun j q' hq' => ?_)
    (by simp) (by simp) (by simp) (by simp) (by simp) (by simp) (by simp) (by simp)
  rw [Holds.congr (State.raiseIf_slots _ _ _), State.setPermit_holds] at hq'
  split at hq'
  · next e =>
    subst e; subst hq'
    exact ⟨p, hp, fun h => (hq h).imp_right (State.raiseIf_flagged_self _ _ _)⟩
  · exact ⟨q', hq', .inl⟩

theorem State.setPermit_announces (s : State) (i : Fin 48) (p q : Permit) (hp : s.slots[i.val].permit = some p)
    (hq : q.changed = true → p.changed = true) : s.Announces (s.setPermit i q) :=
  s.setPermit_raise_announces i p q false hp fun h => .inl (hq h)

theorem State.setBreaker_announces (s : State) (b : Breaker) : s.Announces (s.setBreaker b) := by
  have hf : s.KeepsFlags (s.setBreaker b) :=
    State.keepsFlags_raiseIf (by rfl) _ _
  refine .of_fields hf (by simp) (.of_eq (by simp)) (.of_fields (fun k h => absurd (by simp) h)
    (fun k h => absurd (by simp) h) (fun h => ?_) (fun i h k => by simp [k] at h)
    (fun h => by simp only [State.setBreaker_link] at h; tauto) (by simp) (by simp) (by simp))
  rw [State.setBreaker_breaker] at h
  exact State.raiseIf_flagged_self _ _ _ (by simpa using h)

theorem State.arm_announces (s : State) (a : Bool) : s.Announces (s.arm a) :=
  .of_marks (.of_eq rfl) rfl (.of_eq rfl) rfl rfl rfl rfl rfl rfl rfl rfl

theorem State.setReconnect_announces (s : State) (e : Option Nat) (a : Bool) : s.Announces (s.setReconnect e a) :=
  .of_marks (.of_eq rfl) rfl (.of_eq rfl) rfl rfl rfl rfl rfl rfl rfl rfl

theorem State.connectGone_announces (s : State) (p : Permit) (fire : Bool) : s.Announces (s.connectGone p fire) := by
  simp only [State.connectGone]
  split
  · refine State.Announces.trans ?_ (State.arm_announces _ _)
    split
    · exact s.setBreaker_announces _
    · exact s.setBreaker_announces _
  · exact .refl s

theorem State.revokeSlot_announces (s : State) (reason : Reason) (byOrder : Bool) (i : Fin 48) :
    s.Announces (s.revokeSlot reason byOrder i) := by
  simp only [State.revokeSlot]
  split
  · exact .refl s
  · next p hp =>
    split
    · exact (s.setPermit_raise_announces i p _ (!byOrder) hp
        (fun h => by simpa [Permit.revoked] using h)).trans (State.connectGone_announces _ _ _)
    · exact .refl s

theorem State.revokeWhere_announces (s : State) (f : Permit → Bool) (reason : Reason) :
    s.Announces (s.revokeWhere f reason) := by
  refine foldl_rel State.Announces .refl (fun _ _ _ => .trans) _ (fun t i => ?_) _ s
  split
  · split
    · exact t.revokeSlot_announces _ _ _
    · exact .refl t
  · exact .refl t

/-- A recomputed target sets the changed mark only with a change that sets the PERMIT flag (R11, R35). -/
theorem Permit.retarget_changed (p : Permit) (src : Source) (target now hold : Nat) (restr : Fin 8 × Cause)
    (h : (p.retarget src target now hold restr).changed = true) :
    p.changed = true ∨ (src != .amend && ((p.retarget src target now hold restr).effective != p.effective ||
      (p.retarget src target now hold restr).state != p.state ||
      (p.retarget src target now hold restr).reason != p.reason)) = true := by
  rcases p.retarget_cases src target now hold restr with ⟨e, -⟩ | ⟨l, hl, -, ⟨ht, e⟩ | ⟨-, e⟩⟩
  · rw [e] at h; exact .inl h
  · rw [e] at h ⊢
    rw [Permit.applyFall_eq] at h ⊢
    simp only [Bool.or_eq_true] at h
    refine h.imp_right fun hs => ?_
    have hne : target ≠ l.effective := by omega
    simp [hs, Permit.effective, hl, hne]
  · rw [e] at h ⊢
    simp only [Permit.applyRise] at h ⊢
    split at h
    · next i c hs hr =>
      split at h
      · exact .inl h
      · next hne =>
        simp only [Bool.or_eq_true] at h
        refine h.imp_right fun hs' => ?_
        have hr' : ¬(restr.1 = i ∧ restr.2 = c) := fun ⟨h1, h2⟩ => hne (Prod.ext h1 h2)
        simp [hs', hs, hr, hr', hne]
    · exact .inl h

theorem State.retargetSlot_announces (s : State) (src : Source) (i : Fin 48) : s.Announces (s.retargetSlot src i) := by
  simp only [State.retargetSlot]
  split
  · exact .refl s
  · next p hp => exact s.setPermit_raise_announces i p _ _ hp (p.retarget_changed _ _ _ _ _)

theorem State.suspendConnect_announces (s : State) : s.Announces s.suspendConnect := by
  refine foldl_rel State.Announces .refl (fun _ _ _ => .trans) _ (fun t i => ?_) _ s
  split
  · next p hp =>
    split
    · exact t.setPermit_raise_announces i p _ true hp fun _ => .inr rfl
    · exact .refl t
  · exact .refl t

theorem State.resumeConnect_announces (s : State) : s.Announces s.resumeConnect := by
  refine foldl_rel State.Announces .refl (fun _ _ _ => .trans) _ (fun t i => ?_) _ s
  split
  · next p hp =>
    split
    · have h := (t.setPermit_raise_announces i p p.gridBack true hp fun _ => .inr rfl).trans
        (State.arm_announces _ p.autoReclose)
      dsimp only
      split
      · exact h.trans (State.setBreaker_announces _ _)
      · exact h
    · exact .refl t
  · exact .refl t

theorem State.isolateStage_announces (s : State) (g : Option (Fin 48)) : s.Announces (s.isolateStage g) := by
  refine foldl_rel State.Announces .refl (fun _ _ _ => .trans) _ (fun t i => ?_) _ s
  split
  · next p hp =>
    split
    · split
      · exact t.setPermit_announces i p _ hp id
      · exact t.setPermit_raise_announces i p _ true hp fun _ => .inr rfl
    · exact .refl t
  · exact .refl t

theorem State.handOff_announces (s : State) (old : Vector StringRec 8) : s.Announces (s.handOff old) := by
  refine foldl_rel State.Announces .refl (fun _ _ _ => .trans) _ (fun t i => ?_) _ s
  split
  · split
    · exact t.retargetSlot_announces _ _
    · exact .refl t
  · exact .refl t

theorem State.evaluateStage_announces (s : State) : s.Announces s.evaluateStage := by
  simp only [State.evaluateStage]
  split
  · refine State.Announces.trans ?_ (State.handOff_announces _ _)
    refine ⟨.of_eq rfl, ?_, fun i => by simp [StringRec.evaluate], fun i _ => by simp [StringRec.evaluate], .of_eq rfl⟩
    exact .of_fields (fun k h => absurd rfl h) (fun k h => absurd rfl h) (fun h => absurd rfl h)
      (fun i h k => by rw [evaluateAll_contactors, k] at h; cases h)
      (fun h => by rw [evaluateAll_link] at h; tauto) rfl rfl rfl
  · exact .refl s

/-- Contactors replaced, none of them newly FAILED but with the CONNECTION flag. -/
theorem State.Announces.of_contactors {s t : State}
    (h : t = { s with contactors := t.contactors, serving := t.serving, attention := t.attention }) (hf : s.KeepsFlags t)
    (hc : ∀ i : Fin 8, t.contactors[i.val].state.isFailed = true → s.contactors[i.val].state.isFailed = false →
      t.flagged .connection = true) : s.Announces t := by
  refine .of_fields hf (by rw [h]) (.of_eq (by rw [h])) (.of_fields (fun k e => absurd (by rw [h]) e)
    (fun k e => absurd (by rw [h]) e) (fun e => absurd (by rw [h]) e) hc (fun e => ?_) (by rw [h]) (by rw [h]) (by rw [h]))
  rw [h] at e
  tauto

/-- A Contactor Table with no record newly FAILED. -/
def State.FailsNone (s t : State) : Prop :=
  ∀ i : Fin 8, t.contactors[i.val].state.isFailed = true → s.contactors[i.val].state.isFailed = true

theorem State.Announces.of_failsNone {s t : State} (h : t = { s with contactors := t.contactors, serving := t.serving })
    (hc : s.FailsNone t) : s.Announces t := by
  refine .of_contactors (by rw [h]) (.of_eq (by rw [h])) fun i e k => ?_
  rw [hc i e] at k
  cases k

theorem State.FailsNone.trans {s t u : State} (h : s.FailsNone t) (k : t.FailsNone u) : s.FailsNone u :=
  fun i => h i ∘ k i

theorem State.setContactor_failsNone (s : State) (i : Fin 8) (c : Contactor)
    (h : c.state.isFailed = true → s.contactors[i.val].state.isFailed = true) : s.FailsNone (s.setContactor i c) :=
  fun j hj => by
    rw [State.setContactor_contactors, getElem_put] at hj
    split at hj
    · next e => subst e; exact h hj
    · exact hj

theorem Contactor.enter_failed {c : Contactor} {st : ContactorState} {now : Nat} (hs : st.isFailed = false)
    (h : (c.enter st now).state.isFailed = true) : c.state.isFailed = true := by
  obtain ⟨e, -⟩ := Contactor.enter_spec c st now
  rw [e, hs] at h
  cases h

theorem State.checkMatch_failsNone (s : State) : s.FailsNone s.checkMatch := by
  rcases s.checkMatch_cases with e | ⟨i, -, -, e⟩
  · rw [e]; exact fun _ => id
  · intro j hj
    rw [e, getElem_put] at hj
    split at hj
    · next e => subst e; exact Contactor.enter_failed (st := .closed) rfl hj
    · exact hj

theorem State.arbitrate_failsNone (n : Nat) (s : State) : s.FailsNone (State.arbitrate n s) := by
  induction n generalizing s with
  | zero => exact fun _ => id
  | succ n ih =>
    rcases s.arbitrate_succ n with e | ⟨i, -, -, e⟩
    · rw [e]; exact fun _ => id
    · rw [e]
      refine State.FailsNone.trans ?_ (ih _)
      exact State.FailsNone.trans (t := { s.setContactor i (s.contactors[i].enter
          (.precharging (s.now + Config.prechargeTime)) s.now) with serving := some i })
        (s.setContactor_failsNone i _ (Contactor.enter_failed rfl)) (State.checkMatch_failsNone _)

theorem Contactor.follow_failed {c : Contactor} {now drainTime : Nat}
    (h : (c.follow now drainTime).state.isFailed = true) : c.state.isFailed = true := by
  simp only [Contactor.follow] at h
  split at h
  · exact Contactor.enter_failed rfl h
  · exact Contactor.enter_failed rfl h
  · exact Contactor.enter_failed rfl h
  · exact Contactor.enter_failed rfl h
  · split at h
    · exact Contactor.enter_failed rfl h
    · exact h
  · exact h

theorem State.connectStage_announces (s : State) : s.Announces s.connectStage := by
  obtain ⟨x, y, e⟩ := State.connectStage_frame s
  refine .of_failsNone (by rw [e]) ?_
  refine State.FailsNone.trans (t := ({ s with contactors := tab8 s.connectString }).freePath) (fun i hi => ?_)
    (State.arbitrate_failsNone 8 _)
  rw [State.freePath_contactors, getElem_tab8, State.connectString] at hi
  have h := Contactor.follow_failed hi
  exact h

theorem Contactor.openNow_failed {c : Contactor} {now : Nat} (h : (c.openNow now).state.isFailed = true) :
    c.state.isFailed = true := by
  simp only [Contactor.openNow] at h
  split at h
  · exact Contactor.enter_failed rfl h
  · exact Contactor.enter_failed rfl h
  · exact Contactor.enter_failed rfl h
  · exact Contactor.enter_failed rfl h
  · exact h
  · exact h

theorem Contactor.refit_failed {c : Contactor} {fitted : Bool} {now : Nat} (h : (c.refit fitted now).state.isFailed = true) :
    c.state.isFailed = true := by
  simp only [Contactor.refit] at h
  split at h
  · exact h
  · split at h
    · simpa using h
    · cases h

theorem State.openBay_announces (s : State) (k : Fin 4) : s.Announces (s.openBay k).freePath := by
  refine .of_failsNone rfl fun i hi => ?_
  rw [State.freePath_contactors, State.openBay_getElem] at hi
  split at hi
  · exact Contactor.openNow_failed hi
  · exact hi

theorem State.alarmEntry_announces (s : State) (k : Fin 4) : s.Announces (s.alarmEntry k) :=
  ((s.revokeWhere_announces (·.metByAlarm k) .fire).trans (State.setBreaker_announces _ _)).trans
    (State.openBay_announces _ k)

/-- A Bay Fire Table put in place and containment recomputed. -/
theorem State.setFireTable_announces (s : State) (fire : Vector FireRec 4) : s.Announces (s.setFireTable fire) := by
  have hf : s.KeepsFlags (s.setFireTable fire) :=
    State.keepsFlags_raiseIf (by rfl) _ _
  refine .of_fields hf (by simp) (.of_eq (by simp)) (.of_fields (fun k h => ?_) (fun k h => absurd (by simp) h)
    (fun h => absurd (by simp) h) (fun i h k => by simp [k] at h)
    (fun h => by simp only [State.setFireTable_link] at h; tauto) (by simp) (by simp) (by simp))
  rw [State.setFireTable_fire, contain_getElem] at h
  refine State.raiseIf_flagged_self _ _ _ (List.any_eq_true.2 ⟨k, mem_allBays k, ?_⟩)
  simpa using Ne.symm h

theorem State.fireAndAlarm_announces (s : State) : s.Announces s.fireAndAlarm :=
  (s.setFireTable_announces (tab4 s.evaluateBay)).trans
    (foldl_rel State.Announces .refl (fun _ _ _ => .trans) _ (fun t k => t.alarmEntry_announces k) _ _)

/-- Cooling records replaced, their flow faults standing but with the COOLING flag. -/
theorem State.Announces.of_cooling {s t : State} (h : t = { s with cooling := t.cooling, attention := t.attention })
    (hf : s.KeepsFlags t)
    (hc : ∀ k : Fin 4, t.cooling[k.val].flowFault ≠ s.cooling[k.val].flowFault → t.flagged .cooling = true) :
    s.Announces t := by
  refine .of_fields hf (by rw [h]) (.of_eq (by rw [h])) (.of_fields (fun k e => absurd (by rw [h]) e) hc
    (fun e => absurd (by rw [h]) e) (fun i e k => ?_) (fun e => ?_) (by rw [h]) (by rw [h]) (by rw [h]))
  · rw [h] at e
    rw [k] at e
    cases e
  · rw [h] at e
    tauto

@[simp] theorem CoolRec.follow_flowFault (r : CoolRec) (demand now runOn : Nat) :
    (r.follow demand now runOn).flowFault = r.flowFault := by
  simp only [CoolRec.follow]
  split
  · rfl
  · split <;> rfl

theorem State.coolBay_flowFault (s : State) (k : Fin 4) : (s.coolBay k).flowFault = s.cooling[k.val].flowFault := by
  obtain ⟨-, -, -, -, -, -, h⟩ := CoolRec.drive_spec (CoolRec.follow { s.cooling[k] with
    even := s.coolInput (evenOf k), odd := s.coolInput (oddOf k)
    heaterDemand := (demandOf (s.coolInput (evenOf k)) (s.coolInput (oddOf k))).2
    containment := s.fire[k].containment } (demandOf (s.coolInput (evenOf k)) (s.coolInput (oddOf k))).1 s.now
      s.unit.active.runOn) s.now
  rw [CoolRec.follow_flowFault] at h
  exact h

theorem State.setCooling_announces (s : State) (k : Fin 4) (r : CoolRec)
    (h : r.flowFault = s.cooling[k.val].flowFault) : s.Announces (s.setCooling k r) := by
  refine .of_cooling rfl (.of_eq rfl) fun j hj => ?_
  rw [State.setCooling_cooling, getElem_put] at hj
  split at hj
  · next e => subst e; exact absurd h hj
  · exact absurd rfl hj

theorem State.refitCooling_announces (s : State) (p : Profile) : s.Announces (s.refitCooling p) := by
  have he : s.refitCooling p = { s with
      cooling := (s.refitCooling p).cooling, attention := (s.refitCooling p).attention } := by
    simp only [State.refitCooling, State.raiseIf]
    split <;> rfl
  refine .of_cooling he (by rw [State.refitCooling]; exact State.keepsFlags_raiseIf (by rfl) _ _) fun k hk => ?_
  simp only [State.refitCooling, State.raiseIf_cooling, getElem_tab4, Fin.getElem_fin] at hk
  rw [State.refitCooling]
  refine State.raiseIf_flagged_self _ _ _ (List.any_eq_true.2 ⟨k, mem_allBays k, ?_⟩)
  split at hk
  · next h => exact h
  · exact absurd rfl hk

theorem State.linkStage_announces (s : State) : s.Announces s.linkStage := by
  simp only [State.linkStage]
  split
  · split
    · exact .of_marks (.of_eq rfl) rfl (.of_eq rfl) rfl rfl rfl rfl rfl rfl rfl rfl
    · split
      · split
        · next p hp =>
          exact (s.setPermit_announces _ p { p with notice := false } hp id).trans
            (.of_marks (.of_eq rfl) rfl (.of_eq rfl) rfl rfl rfl rfl rfl rfl rfl rfl)
        · exact .refl s
      · exact .refl s
  · exact .refl s

/-- Bay records replaced whose states stand. -/
theorem State.setFire_announces (s : State) (k : Fin 4) (r : FireRec)
    (h : r.state.code = s.fire[k.val].state.code) : s.Announces (s.setFire k r) := by
  refine .of_fields (.of_eq rfl) rfl (.of_eq rfl) (.of_fields (fun j hj => ?_) (fun j hj => absurd rfl hj)
    (fun hj => absurd rfl hj) (fun i hi k => by rw [State.setFire_contactors, k] at hi; cases hi)
    (fun e => by rw [State.setFire_link] at e; tauto) rfl rfl rfl)
  rw [State.setFire_fire, getElem_put] at hj
  split at hj
  · next e => subst e; exact absurd h hj
  · exact absurd rfl hj

/-! ### Moves -/

theorem State.Touch.announces {s t : State} (h : s.Touch t) : s.Announces t := by
  cases h with
  | unmark i p hp => exact s.setPermit_announces i p _ hp (fun h => by cases h)
  | renew i p hp => exact s.setPermit_announces i p _ hp id
  | breaker b => exact s.setBreaker_announces b
  | pulseEnd k e hk => exact s.setFire_announces k _ (by rw [hk]; rfl)
  | flow k x =>
    refine s.setCooling_announces k _ ?_
    obtain ⟨-, -, -, -, -, -, h⟩ := CoolRec.drive_spec { s.cooling[k.val] with flow := x } s.now
    exact h
  | transmit => exact s.linkStage_announces

theorem State.Senses.announces {s t : State} (h : s.Senses t) : s.Announces t := by
  refine ⟨h.flags, ⟨fun k e => absurd (by rw [(h.fire k).state]) e, fun k e => absurd (by rw [h.frame]) e,
    fun e => absurd (by rw [h.frame]) e, fun i e k => ?_, h.failed, h.stuck, fun e => ?_, fun e k => ?_, fun e k => ?_⟩,
    fun i => (h.strings i).1, fun i _ => h.bands i, .of_eq (by rw [h.frame])⟩
  · rw [h.frame, k] at e; cases e
  · rw [h.frame] at e; tauto
  · rw [h.frame] at k; exact absurd e k
  · rw [h.frame] at k; exact absurd e k

theorem State.Effect.announces {s t : State} (h : s.Effect t) : s.Announces t := by
  cases h with
  | senses k => exact k.announces
  | revokeSlot r b i => exact s.revokeSlot_announces r b i
  | revokeWhere f r => exact s.revokeWhere_announces f r
  | amend i p change op2 op3 op4 op5 hp =>
    have h := s.setPermit_announces i p (p.amended (AmendOps.decode change op2 op3 op4 op5) s.now) hp id
    simp only [State.amendSlot]
    split
    · exact h.trans (State.retargetSlot_announces _ _ _)
    · exact h
  | reduce i p limit hp =>
    exact (s.setPermit_announces i p { p with limits := p.limits.map fun l => ⟨limit, l.effective, l.rise⟩ } hp
      id).trans (State.retargetSlot_announces _ _ _)
  | riseEnd i p l r hp =>
    exact (s.setPermit_raise_announces i p (p.applyPending l r) true hp fun _ => .inr rfl).trans
      (State.retargetSlot_announces _ _ _)
  | gridFalls =>
    exact ((s.setReconnect_announces none false).trans (State.setBreaker_announces _ _)).trans
      (State.suspendConnect_announces _)
  | gridReturns => exact (s.setReconnect_announces none true).trans (State.resumeConnect_announces _)
  | quietBay | releaseBay => exact s.setFireTable_announces _
  | fireInputs k => exact s.setFire_announces k _ rfl
  | cool k r hr => exact s.setCooling_announces k r hr
  | flowFault k r =>
    exact .of_cooling rfl (State.raise_keepsFlags (s.setCooling k r) .cooling) fun _ _ => State.raise_flagged_self _ _
  | contactor i c hc hf => exact .of_failsNone rfl (s.setContactor_failsNone i c hf)
  | replaceContactor i c =>
    have hk : s.KeepsFlags (s.replaceContactor i c) :=
      State.keepsFlags_raiseIf (by rfl) _ _
    obtain ⟨x, e⟩ := State.raiseIf_frame (s.setContactor i c)
      (c.state.isFailed && !s.contactors[i].state.isFailed) .connection
    refine .of_contactors (by rw [State.replaceContactor, e]; rfl) hk fun j hj ho => ?_
    rw [State.replaceContactor, State.freePath_contactors, State.raiseIf_contactors, State.setContactor_contactors,
      getElem_put] at hj
    split at hj
    · next e' =>
      subst e'
      exact State.raiseIf_flagged_self _ _ _ (by simp [hj, ho])
    · rw [ho] at hj; cases hj
  | checkMatch =>
    obtain ⟨x, y, e⟩ := State.checkMatch_frame s
    exact .of_failsNone (by rw [e]) s.checkMatch_failsNone
  | linkState h hf hl =>
    refine .of_fields hf (by rw [h]) (.of_eq (by rw [h])) (.of_fields (fun k e => absurd (by rw [h]) e)
      (fun k e => absurd (by rw [h]) e) (fun e => absurd (by rw [h]) e) (fun i e k => ?_) hl (by rw [h]) (by rw [h])
      (by rw [h]))
    rw [h, k] at e
    cases e
  | setMode m => exact .of_marks (.of_eq rfl) rfl (.of_eq rfl) rfl rfl rfl rfl rfl rfl rfl rfl
  | refitContactors p =>
    refine .of_failsNone rfl fun i hi => ?_
    simp only [State.refitContactors, State.freePath_contactors, getElem_tab8] at hi
    exact Contactor.refit_failed hi
  | refitCooling p => exact s.refitCooling_announces p
  | loadContactors p =>
    refine .of_failsNone rfl fun i hi => ?_
    simp only [getElem_tab8] at hi
    exact Contactor.refit_failed hi
  | opened l hl => exact .of_marks (.of_eq rfl) rfl (.of_eq rfl) rfl rfl rfl rfl hl rfl rfl rfl
  | doorStage => exact .of_beside rfl
  | fireAndAlarm => exact s.fireAndAlarm_announces
  | coolStage =>
    refine .of_cooling rfl (.of_eq rfl) fun k hk => ?_
    rw [State.coolStage_cooling, getElem_tab4, State.coolBay_flowFault] at hk
    exact absurd rfl hk
  | connectStage => exact s.connectStage_announces
  | isolateStage g => exact s.isolateStage_announces g
  | evaluateStage => exact s.evaluateStage_announces

/-- A commit announces the bands that it computes anew, of the strings whose fitted mark stands (R43, R44). -/
theorem State.refitUnit_bands (s : State) (p : Profile) : s.BandsAnnounced (s.refitUnit p) := by
  intro i hi
  have hstr : (s.refitUnit p).strings[i.val] = s.strings[i.val].refit p (p.isFitted i) := by
    simp [State.refitUnit, State.refitStrings]
  rw [hstr] at hi ⊢
  have hfit : s.strings[i.val].fitted = p.isFitted i := by
    by_contra hne
    rw [StringRec.refit, if_neg hne] at hi
    exact hne hi.symm
  have hband : ∀ r : StringRec, (r.refit p (p.isFitted i)).band ≠ r.band → r.fitted = p.isFitted i →
      (r.refit p (p.isFitted i)).bandChanged = true := by
    intro r hb hr
    rw [StringRec.refit, if_pos hr] at hb ⊢
    split
    · next hc =>
      rw [if_pos hc, StringRec.setBand_spec] at hb
      rw [StringRec.setBand_spec]
      simpa using .inr (Ne.symm hb)
    · next hc => rw [if_neg hc] at hb; exact absurd rfl hb
  refine ⟨fun hm => ?_, fun hb => ⟨?_, hband _ hb hfit⟩⟩
  · rw [StringRec.refit, if_pos hfit]
    split
    · rw [StringRec.setBand_spec]; simp [hm]
    · exact hm
  · refine State.raiseIf_flagged_self _ _ _ (List.any_eq_true.2 ⟨i, mem_allStrings i, ?_⟩)
    simp only [Bool.and_eq_true, beq_iff_eq, bne_iff_ne, ne_eq, Fin.getElem_fin, getElem_tab8]
    exact ⟨hfit, Ne.symm hb⟩

/-- A first effect announces what it changes. -/
theorem State.First.announces {s t : State} (h : s.First t) :
    s.KeepsFlags t ∧ s.Announced t ∧ s.BandsAnnounced t ∧
      ∀ i p q, Holds s i p → Holds t i q → p.changed = false → q.changed = true → t.flagged .permit = true := by
  have held : t.slots = s.slots → ∀ i p q, Holds s i p → Holds t i q → p.changed = false → q.changed = true →
      t.flagged .permit = true := by
    intro e i p q hp hq h0 h1
    rw [Holds.congr e, Holds, hp] at hq
    cases hq
    rw [h0] at h1
    cases h1
  cases h with
  | grant i kind holder op0 op1 op2 op3 op4 op5 _ hi =>
    have he : s.grantSlot i kind holder (GrantOps.decode op0 op1 op2 op3 op4 op5) =
        { s with slots := (s.grantSlot i kind holder (GrantOps.decode op0 op1 op2 op3 op4 op5)).slots
                 breaker := (s.grantSlot i kind holder (GrantOps.decode op0 op1 op2 op3 op4 op5)).breaker } := by
      simp only [State.grantSlot]; split <;> rfl
    have hb : (s.grantSlot i kind holder (GrantOps.decode op0 op1 op2 op3 op4 op5)).breaker.state = s.breaker.state := by
      simp only [State.grantSlot]; split <;> rfl
    refine ⟨.of_eq (by rw [he]), .of_eqs (by rw [he]) (by rw [he]) hb (by rw [he]) (by rw [he]) (by rw [he])
      (by rw [he]) (by rw [he]), .of_eq (by rw [he]), fun j p q hp hq h0 h1 => ?_⟩
    rw [Holds.congr (State.grantSlot_slots s i kind holder _), State.setPermit_holds] at hq
    split at hq
    · next e =>
      subst e
      rw [Holds, Fin.getElem_fin, State.freeSlot_free hi] at hp
      cases hp
    · rw [Holds, hp] at hq; cases hq; rw [h0] at h1; cases h1
  | retire i p hp =>
    have e : s.retireSlot i = (s.setSlot i ⟨s.slots[i].generation + 1, none⟩).connectGone p false := by
      simp [State.retireSlot, hp]
    have h := State.connectGone_announces (s.setSlot i ⟨s.slots[i].generation + 1, none⟩) p false
    rw [← e] at h
    have hs : s.Announced (s.setSlot i ⟨s.slots[i].generation + 1, none⟩) := .of_eqs rfl rfl rfl rfl rfl rfl rfl rfl
    refine ⟨h.flags, hs.trans h.fields h.flags, h.bands, fun j p' q hp' hq h0 h1 => ?_⟩
    rw [Holds, Fin.getElem_fin, State.retireSlot_slots_self s i p hp, getElem_put] at hq
    split at hq
    · cases hq
    · rw [Holds, Fin.getElem_fin, hq] at hp'; cases hp'; rw [h0] at h1; cases h1
  | load =>
    have hk : s.KeepsFlags s.loadUnit :=
      State.keepsFlags_raiseIf (by rfl) _ _
    refine ⟨hk, ?_, fun i _ => by simp [State.loadUnit], held (State.loadUnit_slots s)⟩
    refine .of_eqs ?_ ?_ ?_ ?_ ?_ ?_ ?_ ?_ <;> simp [State.loadUnit, ProfileUnit.load]
  | refit p =>
    have hk : s.KeepsFlags (s.refitUnit p) := by
      rw [State.refitUnit]
      refine State.KeepsFlags.trans (t := s.refitStrings p) ?_ (.of_eq rfl)
      rw [State.refitStrings]
      exact State.keepsFlags_raiseIf (by rfl) _ _
    refine ⟨hk, ?_, s.refitUnit_bands p, held (State.refitUnit_slots s p)⟩
    refine .of_eqs ?_ ?_ ?_ ?_ ?_ ?_ ?_ ?_ <;> simp [State.refitUnit, State.refitStrings]

/-! ### Courses -/

/-- What a course has announced. -/
structure State.CourseAnnounced (s t : State) : Prop where
  fields : s.Announced t
  bands : ∀ i : Fin 8, t.strings[i.val].fitted = s.strings[i.val].fitted →
    t.strings[i.val].band ≠ s.strings[i.val].band → t.flagged .band = true ∧ t.strings[i.val].bandChanged = true
  marks : ∀ i p q, Holds s i p → Holds t i q → p.changed = false → q.changed = true → t.flagged .permit = true

theorem State.CourseAnnounced.trans {s t u : State} (h : s.CourseAnnounced t) (k : t.Announces u) :
    s.CourseAnnounced u where
  fields := h.fields.trans k.fields k.flags
  bands i hi hb := by
    obtain ⟨km, kb⟩ := k.bands i (k.fitted i)
    by_cases e : u.strings[i.val].band = t.strings[i.val].band
    · obtain ⟨hx, hy⟩ := h.bands i ((k.fitted i).symm.trans hi) (e ▸ hb)
      exact ⟨k.flags _ hx, km hy⟩
    · exact kb e
  marks i p q hp hq h0 h1 := by
    obtain ⟨o, ho, hc⟩ := k.marks i q hq
    rcases hc h1 with e | e
    · exact k.flags _ (h.marks i p o hp ho h0 e)
    · exact e

theorem State.Aside.announced {s t : State} (a : s.Aside t) : s.Announced t where
  fire k h := absurd (by rw [(a.fire k).state]) h
  cooling k h := absurd (by rw [a.cooling]) h
  breaker h := absurd (by rw [a.breaker]) h
  contactors i h k := by rw [(a.contactors i).state, k] at h; cases h
  failed b h k := by obtain ⟨p, hp⟩ := (a.buses b).failed h; exact absurd hp (k p)
  stuck b h k := by obtain ⟨l, e, hp⟩ := (a.buses b).stuck h; exact absurd hp (k l e)
  link h := by rw [a.link] at h; tauto
  runner := a.runner
  startUp := a.startUp

theorem State.startUpStage_announces (s : State) : s.Announces s.startUpStage :=
  ⟨s.startUpStage_keepsFlags, s.startUpStage_aside.announced, fun i => by rw [State.startUpStage_strings],
    .of_eq (State.startUpStage_strings s), .of_eq (State.startUpStage_slots s)⟩

theorem State.settleWith_announces (s : State) (g : Option (Fin 48)) : s.Announces (s.settleWith g) := by
  have h1 := (State.Effect.doorStage (s := s)).announces
  have h2 := h1.trans s.doorStage.fireAndAlarm_announces
  have h3 := h2.trans (State.Effect.coolStage (s := s.doorStage.fireAndAlarm)).announces
  have h4 := h3.trans (State.connectStage_announces _)
  have h5 := h4.trans (State.isolateStage_announces _ g)
  have h6 := h5.trans (State.evaluateStage_announces _)
  have h7 := h6.trans (State.linkStage_announces _)
  exact h7.trans (State.startUpStage_announces _)

theorem State.Course.announced {s t : State} {b : Bool} (c : s.Course b t) : s.CourseAnnounced t := by
  induction c with
  | port a =>
    refine ⟨a.announced, fun i _ h => absurd (by rw [a.strings i]) h, fun i p q hp hq h0 h1 => ?_⟩
    rw [Holds.congr a.slots, Holds, hp] at hq
    cases hq
    rw [h0] at h1
    cases h1
  | aside _ a hf hs ih => exact ih.trans ⟨hf, a.announced, fun i => by rw [hs], .of_eq hs, .of_eq a.slots⟩
  | touch _ h ih => exact ih.trans h.announces
  | effect _ h ih => exact ih.trans h.announces
  | first _ hs hr h ih =>
    obtain ⟨hf, ha, hb, hm⟩ := h.announces
    refine ⟨ih.fields.trans ha hf, fun i hi hne => ?_, fun i p q hp hq => hm i p q ((Holds.congr hs).2 hp) hq⟩
    rw [← hr] at hi hne
    exact (hb i hi).2 hne
  | settle _ g ih => exact ih.trans (State.settleWith_announces _ g)

/-- Settles O60: every move of a step's course announces what it changes. -/
theorem flagsAnnounceChanges : Obligations.FlagsAnnounceChanges := by
  intro s t hp hr hst
  obtain ⟨rest, c⟩ := step_course s t hp hr hst
  obtain ⟨h, hb, hm⟩ := c.announced
  refine ⟨h.fire, h.cooling, h.breaker, h.contactors, h.failed, h.stuck, h.link, hb, hm, ?_, ?_⟩
  · rintro hs ht
    exact h.runner hs fun ⟨x, y, w, r, a, e⟩ => ht x y w r a e
  · rintro hs ⟨x, hx⟩
    refine h.startUp hs fun ⟨e, he⟩ => ?_
    rw [hx] at he
    cases he

end Sys2Proof.Machine
end

section
/-! PROOF. What the resets leave (O3), that the reset state is safe (O5), and the reported reason of a permit (O49). -/

namespace Sys2Proof.Machine

open Sys2Proof.Safety Sys2Proof.Claims

/-! ### The resets -/

/-- Both resets leave every record at its reset value; they differ in the clock. -/
theorem exec_reset (s : State) (c : Instr) (h : c = .powerOn ∨ c = .resetLine) :
    ∃ clock next, exec c s = .next { s.afterReset clock next with transaction := .released } ∧
      (c = .powerOn → clock = ⟨0, 0⟩ ∧ next = s.now + Config.sec 1) ∧
      (c = .resetLine → clock = s.unit.clock ∧ next = s.unit.nextSecond) := by
  rcases h with rfl | rfl
  · exact ⟨_, _, rfl, fun _ => ⟨rfl, rfl⟩, nofun⟩
  · exact ⟨_, _, rfl, nofun, fun _ => ⟨rfl, rfl⟩⟩

/-- Settles O3: each record is read off the state after a reset. -/
theorem resetLeavesResetValues : Obligations.ResetLeavesResetValues := by
  intro s c hc
  obtain ⟨clock, next, he, hpower, hline⟩ := exec_reset s c hc
  refine ⟨_, he, ?_, rfl, rfl, rfl, ?_, ?_, ?_, ?_, ?_, rfl, rfl, rfl, rfl, rfl, rfl, rfl, rfl, rfl, rfl, rfl, rfl, rfl,
    ?_, ?_, ?_, hpower, hline, rfl, rfl, rfl⟩
  · exact fun i => by simp [State.afterReset, State.reset]
  · exact fun i => by simp [State.afterReset, State.reset, StringRec.atReset]
  · exact fun i => by simp [State.afterReset, State.reset, Bus.atReset, RollCall.atReset, Round.atReset]
  · exact fun i => by simp [State.afterReset, FireRec.atReset, SmokeLine.atReset]
  · exact fun i => by simp [State.afterReset, CoolRec.atReset]
  · exact fun i => by simp [State.afterReset, Contactor.atReset, Unmet.isEmpty]
  · exact fun b => by simp [State.afterReset, ProfileUnit.atReset, StartUp.atReset]
  · exact fun hw => by simp [State.afterReset, ProfileUnit.atReset, hw]
  · exact fun hw => by simp [State.afterReset, ProfileUnit.atReset, hw]

/-! ### The reset state -/

theorem reset_free (i : Fin 48) (p : Permit) : ¬Holds State.reset i p := by
  intro h
  simp [Holds, State.reset] at h

theorem reset_fire (k : Fin 4) :
    State.reset.fire[k.val] = FireRec.atReset ⟨false, false⟩ ⟨false, false⟩ false 0 := by
  simp [State.reset]

theorem reset_contactor (i : Fin 8) : State.reset.contactors[i.val] = Contactor.atReset false := by
  simp [State.reset]

/-- Settles O5: no slot holds a record, every bay is QUIET, every contactor OPEN, and the rest is read off. -/
theorem resetStateIsSafe : Obligations.ResetStateIsSafe := by
  refine ⟨⟨rfl, nofun⟩, rfl, ?_, ?_, ?_, ?_, ?_, ?_, ?_, ?_, ?_, ?_, ?_, ?_, ?_, ?_, ?_, ?_, ?_, ?_, ?_, ?_, ?_, ?_, ?_, ?_, ?_⟩
  case refine_1 => refine ⟨rfl, ?_, ?_⟩ <;> simp [State.reset, Breaker.atReset]
  case refine_2 => exact fun i p hp => absurd hp (reset_free i p)
  case refine_3 => exact closedUnder_of_open rfl
  case refine_4 => exact fun i _ p _ _ hp => absurd hp (reset_free i p)
  case refine_5 => exact fun i _ p _ hp => absurd hp (reset_free i p)
  case refine_6 => exact fun i p hp => absurd hp (reset_free i p)
  case refine_7 => exact fun i p hp => absurd hp (reset_free i p)
  case refine_8 => exact fun i => by rw [Fin.getElem_fin, reset_contactor]; exact ⟨rfl, rfl⟩
  case refine_9 => exact fun i _ => by rw [Fin.getElem_fin, reset_contactor]; exact ⟨rfl, rfl⟩
  case refine_10 => exact fun i p _ hp => absurd hp (reset_free i p)
  case refine_11 =>
    intro i
    rw [Fin.getElem_fin, reset_contactor]
    exact ⟨nofun, nofun⟩
  case refine_12 => exact fun _ i p _ hp => absurd hp (reset_free i p)
  case refine_13 => exact fun i _ => by rw [Fin.getElem_fin, reset_contactor]; exact .inl rfl
  case refine_14 => unfold ContainmentHeld; decide
  case refine_15 => unfold CoolingFollows; decide
  case refine_16 =>
    intro k
    rw [Fin.getElem_fin, reset_fire]
    exact ⟨nofun, nofun⟩
  case refine_17 =>
    intro k e he
    rw [Fin.getElem_fin, reset_fire] at he
    cases he
  case refine_18 =>
    exact fun i _ => by simp [State.reset, StringRec.atReset]
  case refine_19 => exact Nat.zero_le _
  case refine_20 =>
    exact fun b => by simp [State.reset, Bus.atReset]
  case refine_21 =>
    exact (State.anyPermit_eq_false.2 fun i p hp => absurd hp (reset_free i p)).symm
  case refine_22 =>
    intro i
    have hn : State.reset.isolatingOf i = none := isolatingOf_free i reset_free
    have hm : State.reset.modulesHold i = true := by simp [State.modulesHold, State.reset, StringRec.atReset]
    simp only [State.unmetOf, hn, hm, Fin.getElem_fin, reset_contactor, reset_fire]
    simp [State.reset, Contactor.atReset, FireRec.atReset, FireState.inAlarm, StringRec.atReset, Link.atReset]
  case refine_23 => exact ⟨Nat.zero_le _, Nat.zero_le _⟩
  case refine_24 => exact ⟨holdsInRange_default, holdsInRange_default, by rw [State.reset, Stored.agrees_erased]; nofun⟩
  case refine_25 => exact fun i p hp => absurd hp (reset_free i p)

/-! ### The reported reason -/

/-- Settles O49, by the state and the stored reason. -/
theorem reportedReasonByStateAndReason : Obligations.ReportedReasonByStateAndReason := by
  intro p
  refine ⟨?_, ?_, ?_, ?_, ?_, ?_⟩
  · rintro (h | h) <;> simp only [Permit.reported, h]
  · intro n hs hr
    simp only [Permit.reported, hs, hr]
  · intro n hs hr
    simp only [Permit.reported, hs, hr]
  · intro n c hs hr hp hd
    cases c with
    | prealarm => exact absurd rfl hp
    | door => exact absurd rfl hd
    | none | fire | outOfService | modules | thermal | cooling | taper =>
      simp only [Permit.reported, hs, hr, Reason.report]
  · intro hs hr
    simp only [Permit.reported, hs, hr, Reason.report]
  · intro r hs hr
    simp only [Permit.reported, hs, hr]

end Sys2Proof.Machine
end

section
/-! SUPPORT. How an order reaches its owner and what its answer is; handles; the checks of orders written out; result
words. -/

namespace Sys2Proof.Machine

open Sys2Proof Sys2Proof.Safety Sys2Proof.Claims

/-! ### Orders and their answers -/

/-- An order taken by an owner that leaves the runner is answered as the owner says. -/
theorem answers_of_owner {c : Instr} {s t : State} {a : Answer} {owner : State → State × Answer}
    (he : exec c s = .next (s.takeOrder c owner)) (ho : owner s = (t, a)) (hr : t.runner = s.runner) :
    Answers c s t a := by
  refine ⟨fun slot x w stop ⟨hrun, hx⟩ => ?_, fun hh hg => ?_⟩
  · rw [he, State.takeOrder_handed s c owner slot x w stop hrun hx (by rw [ho]; exact hr), ho]
    rfl
  · rw [he, State.takeOrder, if_neg hh, hg]
    simp only [ho, State.deliver]
    split
    · next slot x w stop hrun =>
      rw [hr] at hrun
      split
      · next hx => exact absurd (by rw [State.handedOrder, hrun]; exact hx) hh
      · rfl
    · rfl

theorem resultWords_zero : noResults = List.replicate 7 0 := by decide

/-- An order refused by its owner. -/
theorem refused_of_owner {c : Instr} {s : State} {r : RefCode} {owner : State → State × Answer}
    (he : exec c s = .next (s.takeOrder c owner)) (ho : owner s = (s, refuse r)) : Refused c s r := by
  rw [refuse, resultWords_zero] at ho
  exact answers_of_owner he ho rfl

/-! ### Handles -/

/-- A handle word names a record exactly when it resolves to it. -/
theorem names_iff {s : State} {h : Word} {i : Fin 48} {p : Permit} :
    Names s h i p ↔ s.resolve (Handle.ofWord h) = some (i, p) := by
  rw [State.resolve_eq_some]
  exact Iff.rfl

/-- A handle word is stale exactly when it does not resolve. -/
theorem stale_iff {s : State} {h : Word} : Stale s h ↔ s.resolve (Handle.ofWord h) = none := by
  simp only [Stale, names_iff, Option.eq_none_iff_forall_ne_some, Prod.forall, ne_eq]

/-- The record that a handle word names stands in its slot. -/
theorem names_holds {s : State} {h : Word} {i : Fin 48} {p : Permit} (hn : Names s h i p) :
    Holds s i p := hn.2.1

/-! ### Checks -/

/-- A chain of checks, one at a time. -/
theorem orElse_refuseWhen (c : Bool) (r : RefCode) (rest : Option RefCode) :
    orElse (refuseWhen c r) rest = if c = true then some r else rest := by
  cases c <;> rfl

/-- A number outside a range. -/
theorem outside_iff {x : Option Nat} {low high : Nat} :
    outside x low high = true ↔ ∃ v, x = some v ∧ (v < low ∨ high < v) := by
  cases x <;> simp [outside]

/-- An expiry at or before the clock (R17). -/
theorem atOrBefore_iff {t u : SiteTime} :
    t.atOrBefore u = true ↔ t.day < u.day ∨ (t.day = u.day ∧ t.second ≤ u.second) := by
  simp [SiteTime.atOrBefore]

/-- An expiry that is refused (R6). -/
theorem expiryRefused_iff {x : Option SiteTime} {clock : SiteTime} :
    expiryRefused x clock = true ↔ ∃ e, x = some e ∧ (86399 < e.second ∨ e.day < clock.day ∨
      (e.day = clock.day ∧ e.second ≤ clock.second)) := by
  cases x <;> simp [expiryRefused, atOrBefore_iff]

/-- A scope that holds a string outside a mask. -/
theorem scope_beyond_iff {a b : BitVec 8} :
    (a &&& ~~~b) ≠ 0 ↔ ∃ n : Fin 8, a.getLsbD n.val = true ∧ b.getLsbD n.val = false := by
  rw [← not_iff_not]
  simp only [ne_eq, not_not, not_exists, not_and, Bool.not_eq_false]
  constructor
  · intro h n ha
    have e : (a &&& ~~~b).getLsbD n.val = false := by rw [h]; simp
    have hn := n.isLt
    simpa [ha, hn] using e
  · intro h
    refine BitVec.eq_of_getLsbD_eq fun i hi => ?_
    have hb := h ⟨i, hi⟩
    cases ha : a.getLsbD i with
    | false => simp [ha]
    | true => simp [ha, hb ha, hi]

/-! ### Result words -/

/-- A field of a word made of a number. -/
theorem ofNat_extract (n low width : Nat) :
    ((BitVec.ofNat 16 n).extractLsb' low width).toNat = n % 65536 / 2 ^ low % 2 ^ width := by
  simp [BitVec.extractLsb'_toNat, Nat.shiftRight_eq_div_pow]

/-- A bit of a word made of a number. -/
theorem ofNat_bit (n i : Nat) (h : i < 16) : (BitVec.ofNat 16 n).getLsbD i = decide (n / 2 ^ i % 2 = 1) := by
  rw [BitVec.getLsbD_ofNat, decide_eq_true h, Bool.true_and, Nat.testBit_eq_decide_div_mod_eq]

end Sys2Proof.Machine
end

section
/-! PROOF. The checks of a GRANT in their order (O16). -/

namespace Sys2Proof.Machine

open Sys2Proof Sys2Proof.Safety Sys2Proof.Claims

theorem modeRefused_iff (kind : Kind) (m : Mode) :
    (!kind.allowedIn m) = true ↔ (kind = .connect ∨ kind = .charge ∨ kind = .discharge) ∧ m ≠ .operating := by
  cases kind <;> simp [Kind.allowedIn]

theorem holderRefused_iff (kind : Kind) (holder : Holder) :
    (!kind.accepts holder) = true ↔ ¬((kind = .connect ∧ holder = .station) ∨
      ((kind = .charge ∨ kind = .discharge) ∧ (holder = .station ∨ holder = .converter)) ∨
      (kind = .isolate ∧ holder = .station) ∨ (kind = .entry ∧ holder = .crew)) := by
  cases kind <;> cases holder <;> simp [Kind.accepts]

theorem scopeRefused_iff (kind : Kind) (scope fitted : BitVec 8) :
    scopeRefused kind scope fitted = true ↔
      (∃ n : Fin 8, scope.getLsbD n.val = true ∧ fitted.getLsbD n.val = false) ∨
        (kind = .connect ∧ scope ≠ 0) ∨ (kind ≠ .connect ∧ scope = 0) := by
  rw [scopeRefused, Bool.or_eq_true, bne_iff_ne, scope_beyond_iff]
  refine or_congr_right ?_
  by_cases h : kind = .connect <;> simp [h]

theorem grantFieldRefused_iff (kind : Kind) (holder : Holder) (o : GrantOps) (clock : SiteTime) :
    grantFieldRefused kind holder o clock = true ↔
      ((kind = .charge ∨ kind = .discharge) ∧ o.limit = none) ∨
      (kind ≠ .charge ∧ kind ≠ .discharge ∧ o.limit ≠ none) ∨
      (∃ l, o.limit = some l ∧ (l < 1 ∨ 8000 < l)) ∨ (holder = .crew ∧ o.lease ≠ none) ∨
      (∃ l, o.lease = some l ∧ (l < 1 ∨ 60 < l)) ∨ ((kind = .isolate ∨ kind = .entry) ∧ o.expiry ≠ none) ∨
      (∃ e, o.expiry = some e ∧ (86399 < e.second ∨ e.day < clock.day ∨
        (e.day = clock.day ∧ e.second ≤ clock.second))) ∨
      (o.autoReclose = true ∧ kind ≠ .connect) := by
  have hlim : kind.hasLimit = true ↔ kind = .charge ∨ kind = .discharge := by cases kind <;> simp [Kind.hasLimit]
  have hnot : (!kind.hasLimit) = true ↔ kind ≠ .charge ∧ kind ≠ .discharge := by cases kind <;> simp [Kind.hasLimit]
  simp only [grantFieldRefused, Bool.or_eq_true, Bool.and_eq_true, outside_iff, expiryRefused_iff, hlim, hnot,
    Option.isNone_iff_eq_none, Option.isSome_iff_ne_none, beq_iff_eq, bne_iff_ne, or_assoc, and_assoc]

theorem fireMeets_iff (s : State) (kind : Kind) (scope : BitVec 8) :
    s.fireMeets kind scope = true ↔ ∃ k : Fin 4, s.fire[k].state.inAlarm = true ∧
      (kind = .connect ∨ (kind ≠ .isolate ∧
        (scope.getLsbD (2 * k.val) = true ∨ scope.getLsbD (2 * k.val + 1) = true))) := by
  simp only [State.fireMeets, List.any_eq_true, mem_allBays, true_and, Bool.and_eq_true]
  refine exists_congr fun k => and_congr_right fun _ => ?_
  cases kind <;> simp [meetsBay, inScope, evenOf, oddOf]

theorem clashes_iff (s : State) (kind : Kind) (scope : BitVec 8) :
    s.clashes kind scope = true ↔ ∃ i : Fin 48, s.slots[i].permit.any (fun p => p.state != .revoked && p.kind == kind &&
      kind != .entry && (kind == .connect || p.scope &&& scope != 0)) = true := by
  rw [State.clashes, State.anyPermit_eq_true]
  refine exists_congr fun i => ?_
  simp only [Option.any_eq_true, Holds]
  refine exists_congr fun p => and_congr_right fun _ => ?_
  by_cases hk : p.kind = kind
  · cases kind <;> simp [hk, Permit.standing]
  · simp [hk]

theorem noFreeSlot_iff (s : State) : s.freeSlot.isNone = true ↔ ∀ i : Fin 48, s.slots[i].permit ≠ none := by
  simp [State.freeSlot]

/-- Settles O16: the checks one after another, each written out. -/
theorem grantChecksInOrder : Obligations.GrantChecksInOrder := by
  intro s kind holder o
  have last : refuseWhen s.freeSlot.isNone .full = if s.freeSlot.isNone = true then some .full else none := rfl
  simp only [State.grantRefusal, orElse_refuseWhen, last]
  refine if_congr (modeRefused_iff kind s.unit.mode) rfl <| if_congr (holderRefused_iff kind holder) rfl <|
    if_congr (scopeRefused_iff kind o.scope s.unit.active.fitted) rfl <|
    if_congr (grantFieldRefused_iff kind holder o s.unit.clock) rfl <| if_congr ?_ rfl <| if_congr ?_ rfl <|
    if_congr (fireMeets_iff s kind o.scope) rfl <| if_congr (clashes_iff s kind o.scope) rfl <|
    if_congr (noFreeSlot_iff s) rfl rfl
  · simp
  · simp

end Sys2Proof.Machine
end

section
/-! PROOF. LOOKUP, FIND, NEXT-CHANGED and RENEW (O11, O12, O19). -/

namespace Sys2Proof.Machine

open Sys2Proof Sys2Proof.Safety Sys2Proof.Claims

/-! ### The lowest slot -/

theorem sorted_allSlots : allSlots.Pairwise (· < ·) := by decide

/-- A search of the slots finds the lowest one with a property. -/
theorem find_lowest {P : Fin 48 → Bool} {i : Fin 48} (hi : P i = true) (hlow : ∀ j, j < i → P j = false) :
    allSlots.find? P = some i := by
  cases h : allSlots.find? P with
  | none =>
    have := List.find?_eq_none.1 h i (mem_allSlots i)
    exact absurd hi this
  | some j =>
    obtain ⟨hj, as, bs, hl, has⟩ := List.find?_eq_some_iff_append.1 h
    have hs := sorted_allSlots
    have hm := mem_allSlots i
    rw [hl] at hs hm
    rw [List.pairwise_append] at hs
    obtain ⟨-, hb, -⟩ := hs
    rcases List.mem_append.1 hm with hm | hm
    · have := has i hm
      simp [hi] at this
    · rcases List.mem_cons.1 hm with rfl | hm
      · rfl
      · have hlt := (List.pairwise_cons.1 hb).1 i hm
        rw [hlow j hlt] at hj
        cases hj

/-- The lowest-numbered slot whose record has a property. -/
theorem State.findPermit_lowest {s : State} {f : Permit → Bool} {i : Fin 48} {p : Permit} (hp : Holds s i p)
    (hf : f p = true) (hlow : ∀ j q, j < i → Holds s j q → f q = false) : s.findPermit f = some i := by
  refine find_lowest ?_ fun j hj => ?_
  · rw [Holds] at hp; simp only [hp, hf]
  · cases hq : s.slots[j].permit with
    | none => rfl
    | some q => exact hlow j q hj hq

theorem State.findPermit_none {s : State} {f : Permit → Bool} (h : ∀ i p, Holds s i p → f p = false) :
    s.findPermit f = none := by
  refine List.find?_eq_none.2 fun i _ => ?_
  cases hp : s.slots[i].permit with
  | none => simp
  | some p => simp [h i p hp]

/-- The lowest-numbered FREE slot. -/
theorem State.freeSlot_lowest {s : State} {i : Fin 48} (hi : s.slots[i].permit = none)
    (hlow : ∀ j, j < i → s.slots[j].permit ≠ none) : s.freeSlot = some i :=
  find_lowest (by rw [hi]; rfl) fun j hj =>
    Option.isNone_eq_false_iff.2 (Option.isSome_iff_ne_none.2 (hlow j hj))

/-! ### Packed results -/

/-- The words of a number of 32 bits. -/
theorem resultWords_small {n : Nat} (h : n < 4294967296) :
    resultWords n = BitVec.ofNat 16 n :: BitVec.ofNat 16 (n / 65536) :: List.replicate 5 0 := by
  have e : ∀ k, 32 ≤ k → BitVec.ofNat 16 (n >>> k) = 0 := fun k hk => by
    have : n >>> k = 0 := by
      rw [Nat.shiftRight_eq_div_pow]
      refine Nat.div_eq_of_lt (h.trans_le ?_)
      calc 4294967296 = 2 ^ 32 := by norm_num
        _ ≤ 2 ^ k := Nat.pow_le_pow_right (by norm_num) hk
    rw [this]; rfl
  rw [resultWords, e 32 (by decide), e 48 (by decide), e 64 (by decide), e 80 (by decide), e 96 (by decide),
    Nat.shiftRight_eq_div_pow]
  rfl

/-- A word and its number. -/
theorem ofNat_congr {a b : Nat} (h : a % 65536 = b % 65536) : BitVec.ofNat 16 a = BitVec.ofNat 16 b :=
  BitVec.eq_of_toNat_eq (by simpa using h)

theorem PermitState.code_lt (st : PermitState) : st.code < 8 := by cases st <;> decide

theorem Report.code_lt (r : Report) : r.code < 16 := by cases r <;> decide

/-- Handle, state and effective limit packed (R9, R34). -/
theorem pack_handle_state (w : Word) (st : PermitState) (e : Nat) :
    pack (fld 16 w.toNat ++ fld 3 st.code ++ fld 13 e) =
      w :: BitVec.ofNat 16 (st.code + 8 * e) :: List.replicate 5 0 := by
  have hw := w.isLt
  have hc := st.code_lt
  have hn : packNat (fld 16 w.toNat ++ fld 3 st.code ++ fld 13 e) 0 =
      w.toNat + (st.code + 8 * (e % 8192)) * 65536 := by
    simp only [fld, List.cons_append, List.nil_append, packNat, fieldStart]
    norm_num
    omega
  rw [pack, hn, resultWords_small (by omega)]
  have h0 : BitVec.ofNat 16 (w.toNat + (st.code + 8 * (e % 8192)) * 65536) = w :=
    BitVec.eq_of_toNat_eq (by rw [BitVec.toNat_ofNat]; omega)
  rw [h0]
  congr 2
  exact ofNat_congr (by omega)

/-- State, effective limit and lease packed (R14). -/
theorem pack_state_lease (st : PermitState) (e l : Nat) :
    pack (fld 3 st.code ++ fld 13 e ++ fld 6 l) =
      BitVec.ofNat 16 (st.code + 8 * e) :: BitVec.ofNat 16 (l % 64) :: List.replicate 5 0 := by
  have hc := st.code_lt
  have hn : packNat (fld 3 st.code ++ fld 13 e ++ fld 6 l) 0 = st.code + 8 * (e % 8192) + l % 64 * 65536 := by
    simp only [fld, List.cons_append, List.nil_append, packNat, fieldStart]
    norm_num
    omega
  rw [pack, hn, resultWords_small (by omega)]
  congr 1
  · exact ofNat_congr (by omega)
  · congr 1
    exact ofNat_congr (by omega)

/-- State and stored reason packed (R14, R22). -/
theorem Permit.stateReason_eq (p : Permit) :
    p.stateReason = BitVec.ofNat 16 (p.state.code + 8 * ((p.reason.map Reason.report).getD .none).code) ::
      List.replicate 6 0 := by
  have hc := p.state.code_lt
  have hr := ((p.reason.map Reason.report).getD .none).code_lt
  have hn : packNat (fld 3 p.state.code ++ fld 4 ((p.reason.map Reason.report).getD .none).code) 0 =
      p.state.code + 8 * ((p.reason.map Reason.report).getD .none).code := by
    simp only [fld, List.cons_append, List.nil_append, packNat, fieldStart]
    norm_num
    omega
  rw [Permit.stateReason, pack, hn, resultWords_small (by omega), Nat.div_eq_of_lt (by omega)]
  rfl

/-! ### FIND and NEXT-CHANGED -/

theorem Kind.ofCode_eq_some {n : Nat} {k : Kind} : Kind.ofCode n = some k ↔ k.code = n := by
  constructor
  · intro h
    unfold Kind.ofCode at h
    split at h <;> cases h <;> rfl
  · rintro rfl
    cases k <;> rfl

theorem Kind.code_inj {a b : Kind} : a.code = b.code ↔ a = b := by
  cases a <;> cases b <;> simp [Kind.code]

theorem Kind.code_range (k : Kind) : 1 ≤ k.code ∧ k.code ≤ 5 := by cases k <;> decide

theorem Kind.code_one {k : Kind} : k.code = 1 ↔ k = .connect := by cases k <;> simp [Kind.code]

theorem Kind.ofCode_none {n : Nat} (h : n = 0 ∨ 5 < n) : Kind.ofCode n = none := by
  cases hk : Kind.ofCode n with
  | none => rfl
  | some k =>
    have := Kind.ofCode_eq_some.1 hk
    have := k.code_range
    omega

theorem Kind.ofCode_some {n : Nat} (h1 : 1 ≤ n) (h5 : n ≤ 5) : ∃ k, Kind.ofCode n = some k ∧ k.code = n := by
  have hn : n = 1 ∨ n = 2 ∨ n = 3 ∨ n = 4 ∨ n = 5 := by omega
  rcases hn with rfl | rfl | rfl | rfl | rfl
  · exact ⟨.connect, rfl, rfl⟩
  · exact ⟨.charge, rfl, rfl⟩
  · exact ⟨.discharge, rfl, rfl⟩
  · exact ⟨.isolate, rfl, rfl⟩
  · exact ⟨.entry, rfl, rfl⟩

/-- The permits that a FIND with kind and string operands is for (R33). -/
def foundBy (k : Kind) (string : Word) (p : Permit) : Bool :=
  p.kind == k && (k == .connect || p.scope.getLsbD string.toNat)

/-- FIND at its owner, its operands in range. -/
theorem ownerFind_eq {kind string : Word} {s : State} {k : Kind} (hk : Kind.ofCode kind.toNat = some k)
    (hs : k = .connect ∨ string.toNat < 8) :
    ownerFind kind string s = (s, done (wordResults [match s.findPermit (foundBy k string) with
      | some i => (s.handleOf i).word
      | none => noneWord])) := by
  cases k with
  | connect =>
    have e : foundBy .connect string = fun p => p.kind == .connect := by funext p; simp [foundBy]
    simp only [ownerFind, hk, e] <;> rfl
  | charge | discharge | isolate | entry =>
    have h8 := hs.resolve_left (by simp)
    have hj : stringOf string = some ⟨string.toNat, h8⟩ := by simp [stringOf, h8]
    simp only [ownerFind, hk, hj] <;> rfl

/-- FIND with a string that names nothing. -/
theorem ownerFind_field {kind string : Word} {s : State} {k : Kind} (hk : Kind.ofCode kind.toNat = some k)
    (hc : k ≠ .connect) (h8 : 7 < string.toNat) : ownerFind kind string s = (s, refuse .field) := by
  have hj : stringOf string = none := by simp [stringOf]; omega
  cases k with
  | connect => exact absurd rfl hc
  | charge | discharge | isolate | entry => simp only [ownerFind, hk, hj]

theorem find_refused (s : State) (kind string : Word) :
    (kind = 0 ∨ 5 < kind.toNat → Refused (.find kind string) s .field) ∧
      (2 ≤ kind.toNat ∧ kind.toNat ≤ 5 → 7 < string.toNat → Refused (.find kind string) s .field) := by
  refine ⟨fun h => refused_of_owner rfl ?_, fun ⟨h2, h5⟩ h7 => refused_of_owner rfl ?_⟩
  · have hz : kind.toNat = 0 ∨ 5 < kind.toNat := h.imp_left fun e => by rw [e]; rfl
    rw [ownerFind, Kind.ofCode_none hz]
  · obtain ⟨k, hk, hc⟩ := Kind.ofCode_some (by omega) h5
    refine ownerFind_field hk (fun e => ?_) h7
    rw [← Kind.code_one] at e
    omega

/-- Settles O12: both orders search the slots in order. -/
theorem findAndNextChangedByLowestSlot : Obligations.FindAndNextChangedByLowestSlot := by
  refine ⟨fun s kind string => ⟨(find_refused s kind string).1, (find_refused s kind string).2, ?_⟩, fun s => ⟨?_, ?_⟩⟩
  · rintro ⟨h1, h5⟩ hstr
    obtain ⟨k, hk, hc⟩ := Kind.ofCode_some h1 h5
    have hone : kind = 1 ↔ k = .connect := by
      rw [← Kind.code_one, hc]
      exact ⟨fun e => by rw [e]; rfl, fun e => BitVec.eq_of_toNat_eq e⟩
    have hs : k = .connect ∨ string.toNat < 8 := hstr.imp hone.1 fun h => by omega
    have hit : ∀ p : Permit, foundBy k string p = true ↔
        p.kind.code = kind.toNat ∧ (kind ≠ 1 → p.scope.getLsbD string.toNat = true) := by
      intro p
      rw [← hc, Kind.code_inj, Ne, hone]
      by_cases e : k = .connect <;> simp [foundBy, e]
    refine ⟨fun hno => ?_, fun i ⟨p, hp, hpk, hps⟩ hlow => ?_⟩
    · have hf : s.findPermit (foundBy k string) = none := State.findPermit_none fun i p hp => by
        rw [← Bool.not_eq_true, hit]
        exact fun ⟨a, b⟩ => hno i ⟨p, hp, a, b⟩
      exact answers_of_owner rfl (by rw [ownerFind_eq hk hs, hf]; rfl) rfl
    · have hf : s.findPermit (foundBy k string) = some i :=
        State.findPermit_lowest hp ((hit p).2 ⟨hpk, hps⟩) fun j q hj hq => by
          rw [← Bool.not_eq_true, hit]
          exact fun ⟨a, b⟩ => hlow j hj ⟨q, hq, a, b⟩
      exact answers_of_owner rfl (by rw [ownerFind_eq hk hs, hf]; rfl) rfl
  · intro h
    exact answers_of_owner rfl (by rw [ownerNextChanged, State.findPermit_none h]; rfl) rfl
  · intro i p hp hc hlow
    have hf : s.findPermit (fun p => p.changed) = some i := State.findPermit_lowest hp hc hlow
    refine answers_of_owner rfl (owner := ownerNextChanged) ?_ rfl
    rw [Holds] at hp
    rw [ownerNextChanged, hf]
    simp only [hp]
    rw [handleStateResults, pack_handle_state]
    rfl

/-! ### RENEW -/

/-- The whole seconds of a lease that starts now. -/
theorem secondsLeft_sec (now l : Nat) : secondsLeft now (now + Config.sec l) = l := by
  simp only [secondsLeft, Config.sec]
  omega

/-- Settles O19, by the table of R14. -/
theorem renewRestartsStationLease : Obligations.RenewRestartsStationLease := by
  intro s h
  refine ⟨fun hs => refused_of_owner rfl (by rw [ownerRenew, stale_iff.1 hs]), fun i p hn => ?_⟩
  have hr := names_iff.1 hn
  refine ⟨fun hh => ?_, fun hh hl => ?_, fun hh hl hst => ?_, fun l hh hl hst => ?_⟩
  · exact refused_of_owner rfl (owner := ownerRenew h) (by simp only [ownerRenew, hr, if_pos hh])
  · exact refused_of_owner rfl (owner := ownerRenew h) (by simp [ownerRenew, hr, hh, hl])
  · have ho : ownerRenew h s = (s, ⟨some .state, p.stateReason⟩) := by
      simp [ownerRenew, hr, hh, hl, hst, refuseWith]
    rw [Permit.stateReason_eq] at ho
    refine ⟨_, answers_of_owner rfl ho rfl, ?_, fun r hr => ?_⟩
    · rw [ofNat_extract, hst]
      have := ((p.reason.map Reason.report).getD .none).code_lt
      simp only [PermitState.code]
      omega
    · rw [ofNat_extract, hst, hr]
      have := r.report.code_lt
      simp only [PermitState.code, Option.map_some, Option.getD_some]
      omega
  · have hnew : p.renewed s.now = { p with leaseEnd := some (s.now + Config.sec l) } := by
      rw [Permit.renewed, hl, Option.map_some]
    have hleft : (p.renewed s.now).leaseLeft s.now = l := by
      rw [hnew, Permit.leaseLeft, Option.map_some, secondsLeft_sec, Option.getD_some]
    have ho : ownerRenew h s = (s.setPermit i (p.renewed s.now), done (pack (fld 3 (p.renewed s.now).state.code ++
        fld 13 (p.renewed s.now).effective ++ fld 6 ((p.renewed s.now).leaseLeft s.now)))) := by
      simp [ownerRenew, hr, hh, hl, hst]
    rw [hleft, pack_state_lease, hnew] at ho
    exact answers_of_owner rfl ho rfl

/-! ### LOOKUP -/

/-- The seconds left of the hold of a pending rise. -/
def Permit.riseLeft (p : Permit) (now : Nat) : Nat := (p.rise.map fun r => secondsLeft now r.holdEnd).getD 0

/-- The numbers of a record in the widths of 11.1.5. -/
structure Permit.LookupFits (p : Permit) (now : Nat) : Prop where
  lease : p.leasePeriod.getD 0 < 64
  reason : p.lookupReason < 8192
  requested : p.requested < 8192
  rise : p.lookupRise now < 8192
  left : p.leaseLeft now < 64
  hold : p.riseLeft now < 64
  expiry : ∀ e, p.expiry = some e → e.day < 65536 ∧ e.second < 131072

theorem secondsLeft_le {now e n : Nat} (h : e ≤ now + Config.sec n) : secondsLeft now e ≤ n := by
  simp only [secondsLeft, Config.sec] at h ⊢
  omega

theorem Cause.code_lt (c : Cause) : c.code < 16 := by cases c <;> decide

theorem Permit.rise_eq_some {p : Permit} {r : Rise} : p.rise = some r ↔ ∃ l, p.limits = some l ∧ l.rise = some r := by
  simp [Permit.rise, Option.bind_eq_some_iff]

/-- The times left of a record in its ranges. -/
theorem InRanges.left {s : State} {p : Permit} (h : InRanges s p) :
    (∀ e, p.leaseEnd = some e → secondsLeft s.now e ≤ 60) ∧
      (∀ r, p.rise = some r → r.value ≤ 8000 ∧ secondsLeft s.now r.holdEnd ≤ 60) ∧
      ∀ e, p.holdEnd = some e → secondsLeft s.now e ≤ 3600 := by
  obtain ⟨-, -, -, hle, hrise, hhold, -⟩ := h
  refine ⟨fun e he => secondsLeft_le (hle e he), fun r hr => ?_, fun e he => secondsLeft_le (hhold e he)⟩
  obtain ⟨l, hl, hr⟩ := Permit.rise_eq_some.1 hr
  obtain ⟨hv, he⟩ := hrise l r hl hr
  exact ⟨hv, secondsLeft_le he⟩

/-- The greatest of a field that may be absent. -/
theorem getD_map_le {α : Type} {x : Option α} {f : α → Nat} {n : Nat} (h : ∀ a, x = some a → f a ≤ n) :
    (x.map f).getD 0 ≤ n := by
  cases x with
  | none => exact Nat.zero_le n
  | some a => exact h a rfl

theorem Permit.lookupReason_lt {p : Permit} (h : p.effective ≤ 8000) : p.lookupReason < 8192 := by
  simp only [Permit.lookupReason]
  split
  · omega
  · omega
  all_goals
    split
    · next n c _ => have := n.isLt; have := c.code_lt; simp only [Report.code]; omega
    · next r _ _ => have := r.report.code_lt; omega
    · omega

theorem Permit.lookupFits {s : State} {p : Permit} (h : InRanges s p) : p.LookupFits s.now := by
  obtain ⟨hlease, hrise, hhold⟩ := InRanges.left h
  obtain ⟨heff, hreq, hlp, -, -, -, hexp⟩ := h
  have hval : (p.rise.map (·.value)).getD 0 ≤ 8000 := getD_map_le fun r hr => (hrise r hr).1
  refine ⟨?_, Permit.lookupReason_lt heff, by omega, ?_, ?_, ?_, fun e he => ?_⟩
  · cases hl : p.leasePeriod with
    | none => exact Nat.zero_lt_succ 63
    | some l => exact Nat.lt_of_le_of_lt (hlp l hl) (by norm_num)
  · have hend : (p.holdEnd.map (secondsLeft s.now)).getD 0 ≤ 3600 := getD_map_le hhold
    simp only [Permit.lookupRise]
    split <;> omega
  · have hleft : p.leaseLeft s.now ≤ 60 := getD_map_le hlease
    omega
  · have hleft : p.riseLeft s.now ≤ 60 := getD_map_le fun r hr => (hrise r hr).2
    omega
  · obtain ⟨hd, hs⟩ := hexp e he
    exact ⟨by omega, by omega⟩

theorem Holder.code_lt (h : Holder) : h.code < 4 := by cases h <;> decide

/-- A one-bit number of a word. -/
theorem ofNat_flag {n i : Nat} {b : Bool} (hi : i < 16) (h : n / 2 ^ i % 2 = b.toNat) :
    (BitVec.ofNat 16 n).getLsbD i = b := by
  rw [ofNat_bit n i hi, h]
  cases b <;> rfl

/-- A field of a word that is a number. -/
theorem ofNat_field {n low width v : Nat} (h : n % 65536 / 2 ^ low % 2 ^ width = v) :
    ((BitVec.ofNat 16 n).extractLsb' low width).toNat = v := by
  rw [ofNat_extract, h]

/-- A field of a word that reads 0. -/
theorem ofNat_field_zero {n low width : Nat} (h : n % 65536 / 2 ^ low % 2 ^ width = 0) :
    (BitVec.ofNat 16 n).extractLsb' low width = 0 :=
  BitVec.eq_of_toNat_eq (by rw [ofNat_field h]; rfl)

/-- The second of an expiry as LOOKUP shows it, all ones without one. -/
def Permit.shownSecond (p : Permit) : Nat := match p.expiry with | some e => e.second | none => 131071

/-- The day of an expiry as LOOKUP shows it, all ones without one. -/
def Permit.shownDay (p : Permit) : Nat := match p.expiry with | some e => e.day | none => 65535

theorem Permit.lookupWords_eq (p : Permit) (now : Nat) : p.lookupWords now =
    [ BitVec.ofNat 16 (p.scope.toNat + 256 * p.leasePeriod.getD 0 + 16384 * p.changed.toNat + 32768 * p.notice.toNat),
      BitVec.ofNat 16 (p.lookupReason + 8192 * p.kind.code),
      BitVec.ofNat 16 (p.requested + 8192 * p.state.code),
      BitVec.ofNat 16 (p.lookupRise now + 8192 * p.holder.code + 32768 * (p.shownSecond / 65536)),
      BitVec.ofNat 16 (p.leaseLeft now + 64 * p.riseLeft now + 4096 * p.autoReclose.toNat),
      BitVec.ofNat 16 p.shownDay,
      BitVec.ofNat 16 p.shownSecond ] := rfl

/-- The first word of LOOKUP: scope, lease period and marks. -/
theorem lookupWord_scope {scope : BitVec 8} {l : Nat} (changed notice : Bool) (hl : l < 64) :
    let r := BitVec.ofNat 16 (scope.toNat + 256 * l + 16384 * changed.toNat + 32768 * notice.toNat)
    r.extractLsb' 0 8 = scope ∧ (r.extractLsb' 8 6).toNat = l ∧ r.getLsbD 14 = changed ∧ r.getLsbD 15 = notice := by
  have hs := scope.isLt
  have hc := changed.toNat_le
  have hn := notice.toNat_le
  refine ⟨BitVec.eq_of_toNat_eq (ofNat_field (by omega)), ofNat_field (by omega), ofNat_flag (by decide) (by omega),
    ofNat_flag (by decide) (by omega)⟩

/-- A word of a number in bits 0 to 12 and a code in bits 13 to 15. -/
theorem lookupWord_pair {v c : Nat} (hv : v < 8192) (hc : c < 8) :
    ((BitVec.ofNat 16 (v + 8192 * c)).extractLsb' 0 13).toNat = v ∧
      ((BitVec.ofNat 16 (v + 8192 * c)).extractLsb' 13 3).toNat = c :=
  ⟨ofNat_field (by omega), ofNat_field (by omega)⟩

/-- The reason, restricting string and cause that LOOKUP shows (11.1.5). -/
theorem lookupWord_reason {p : Permit} {c : Nat} {r : Reason} (hst : p.state = .suspended ∨ p.state = .revoked)
    (hr : p.reason = some r) :
    let w := BitVec.ofNat 16 (p.lookupReason + 8192 * c)
    (w.extractLsb' 0 4).toNat = r.report.code ∧
      (∀ n c, r = .envelope n c → (w.extractLsb' 4 3).toNat = n.val ∧ (w.extractLsb' 7 4).toNat = c.code) ∧
      ((∀ n c, r ≠ .envelope n c) → w.extractLsb' 4 7 = 0) := by
  have hlt := r.report.code_lt
  by_cases he : ∃ n d, r = .envelope n d
  · obtain ⟨n, d, rfl⟩ := he
    have hn := n.isLt
    have hd := d.code_lt
    have hw : p.lookupReason = Report.envelope.code + 16 * n.val + 128 * d.code := by
      rcases hst with h | h <;> simp only [Permit.lookupReason, h, hr]
    rw [hw]
    simp only [Report.code]
    refine ⟨ofNat_field (by simp only [Reason.report]; omega), fun n' d' e => ?_,
      fun h => absurd rfl (h n d)⟩
    cases e
    exact ⟨ofNat_field (by omega), ofNat_field (by omega)⟩
  · have hne : ∀ n d, r ≠ .envelope n d := fun n d e => he ⟨n, d, e⟩
    have hw : p.lookupReason = r.report.code := by
      cases r with
      | envelope n d => exact absurd rfl (hne n d)
      | _ => rcases hst with h | h <;> simp only [Permit.lookupReason, h, hr]
    rw [hw]
    exact ⟨ofNat_field (by omega), fun n d e => absurd e (hne n d), fun _ => ofNat_field_zero (by omega)⟩

/-- A record that is not REVOKED shows its pending rise, when it may have one. -/
theorem Permit.lookupRise_standing {p : Permit} (now : Nat) (h : p.state ≠ .revoked) :
    p.lookupRise now = if p.state = .pending then 0 else (p.rise.map (·.value)).getD 0 := by
  rw [Permit.lookupRise]
  cases hs : p.state with
  | revoked => exact absurd hs h
  | pending => rw [if_pos rfl]
  | live | suspended => rw [if_neg (by simp)]

theorem Permit.lookupRise_revoked {p : Permit} (now : Nat) (h : p.state = .revoked) :
    p.lookupRise now = (p.holdEnd.map (secondsLeft now)).getD 0 := by
  rw [Permit.lookupRise, h]

/-- The pending rise or revoked hold that LOOKUP shows. -/
theorem lookupRise_eq (p : Permit) (now : Nat) :
    (∀ r, p.state = .live ∨ p.state = .suspended → p.rise = some r → p.lookupRise now = r.value) ∧
      (p.rise = none → p.state ≠ .revoked → p.lookupRise now = 0) ∧
      ∀ e, p.state = .revoked → p.holdEnd = some e → p.lookupRise now = secondsLeft now e := by
  refine ⟨fun r hst hr => ?_, fun hr hst => ?_, fun e hst he => ?_⟩
  · have hnp : p.state ≠ .pending ∧ p.state ≠ .revoked := by rcases hst with h | h <;> simp [h]
    rw [Permit.lookupRise_standing now hnp.2, if_neg hnp.1, hr, Option.map_some, Option.getD_some]
  · rw [Permit.lookupRise_standing now hst, hr, Option.map_none, Option.getD_none, ite_self]
  · rw [Permit.lookupRise_revoked now hst, he, Option.map_some, Option.getD_some]

/-- The fourth word of LOOKUP: rise or hold, holder and the top bit of the expiry's second. -/
theorem lookupWord_rise {v c t : Nat} (hv : v < 8192) (hc : c < 4) (ht : t < 131072) :
    let r := BitVec.ofNat 16 (v + 8192 * c + 32768 * (t / 65536))
    (r.extractLsb' 0 13).toNat = v ∧ (r.extractLsb' 13 2).toNat = c ∧
      (BitVec.ofNat 16 t).toNat + 65536 * (r.getLsbD 15).toNat = t := by
  refine ⟨ofNat_field (by omega), ofNat_field (by omega), ?_⟩
  have hbit : (BitVec.ofNat 16 (v + 8192 * c + 32768 * (t / 65536))).getLsbD 15 = decide (65536 ≤ t) := by
    rw [ofNat_bit _ 15 (by decide), decide_eq_decide]
    omega
  rw [hbit, BitVec.toNat_ofNat]
  by_cases h : 65536 ≤ t <;> simp only [h, decide_true, decide_false, Bool.toNat_true, Bool.toNat_false] <;> omega

/-- The fifth word of LOOKUP: the times left and auto-reclose. -/
theorem lookupWord_left {l r : Nat} (a : Bool) (hl : l < 64) (hr : r < 64) :
    let w := BitVec.ofNat 16 (l + 64 * r + 4096 * a.toNat)
    (w.extractLsb' 0 6).toNat = l ∧ (w.extractLsb' 6 6).toNat = r ∧ w.getLsbD 12 = a := by
  have ha := a.toNat_le
  exact ⟨ofNat_field (by omega), ofNat_field (by omega), ofNat_flag (by decide) (by omega)⟩

theorem secondsLeft_eq (now e : Nat) : secondsLeft now e = (e - now + 71999999) / 72000000 := rfl

theorem eq_zero_of_toNat {n : Nat} {w : BitVec n} {v : Nat} (h : w.toNat = v) (hv : v = 0) : w = 0 :=
  BitVec.eq_of_toNat_eq (by rw [h, hv]; simp)

theorem Permit.rise_none {p : Permit} (h : ∀ l, p.limits = some l → l.rise = none) : p.rise = none := by
  rw [Option.eq_none_iff_forall_ne_some]
  intro r hr
  obtain ⟨l, hl, hr⟩ := Permit.rise_eq_some.1 hr
  rw [h l hl] at hr
  cases hr

/-- Settles O11, word by word. -/
theorem lookupReturnsRecordAndClearsMark : Obligations.LookupReturnsRecordAndClearsMark := by
  intro s h
  refine ⟨fun hs => refused_of_owner rfl (by rw [ownerLookup, stale_iff.1 hs]), fun i p hn => ?_⟩
  have ho : ownerLookup h s = (s.setPermit i { p with changed := false }, done (p.lookupWords s.now)) := by
    simp only [ownerLookup, names_iff.1 hn]
  rw [p.lookupWords_eq] at ho
  refine ⟨_, _, _, _, _, _, _, answers_of_owner rfl ho rfl, fun hr => ?_⟩
  have hfit := Permit.lookupFits hr
  obtain ⟨hscope, hperiod, hchanged, hnotice⟩ := lookupWord_scope (scope := p.scope) p.changed p.notice hfit.lease
  obtain ⟨hreason, hkind⟩ := lookupWord_pair hfit.reason (Nat.lt_of_le_of_lt p.kind.code_range.2 (by decide))
  obtain ⟨hreq, hstate⟩ := lookupWord_pair hfit.requested p.state.code_lt
  have hsec : p.shownSecond < 131072 := by
    unfold Permit.shownSecond
    split
    · next e he => exact (hfit.expiry e he).2
    · decide
  obtain ⟨hrise, hholder, hsecond⟩ := lookupWord_rise hfit.rise p.holder.code_lt hsec
  obtain ⟨hleft, hhold, hauto⟩ := lookupWord_left p.autoReclose hfit.left hfit.hold
  obtain ⟨hval, hnorise, hrev⟩ := lookupRise_eq p s.now
  refine ⟨hscope, hperiod, hchanged, hnotice, hkind, fun hst => ?_, fun r hst hr => lookupWord_reason hst hr, hreq,
    hstate, fun l r hst hl hlr => ?_, fun hno => ?_, fun e hst he => ?_, hholder, fun e he => ?_, fun he => ?_, hauto,
    fun e he => ?_, fun he => ?_⟩
  · rw [hreason]
    rcases hst with h | h <;> simp only [Permit.lookupReason, h]
  · have hpr := Permit.rise_eq_some.2 ⟨l, hl, hlr⟩
    refine ⟨hrise.trans (hval r hst hpr), hhold.trans ?_⟩
    rw [Permit.riseLeft, hpr, Option.map_some, Option.getD_some, secondsLeft_eq]
  · have hpr := Permit.rise_none hno
    refine ⟨eq_zero_of_toNat hhold (by rw [Permit.riseLeft, hpr]; rfl), fun hst => eq_zero_of_toNat hrise (hnorise hpr hst)⟩
  · rw [hrise, hrev e hst he, secondsLeft_eq]
  · rw [hleft, Permit.leaseLeft, he, Option.map_some, Option.getD_some, secondsLeft_eq]
  · exact eq_zero_of_toNat hleft (by rw [Permit.leaseLeft, he]; rfl)
  · have hs : p.shownSecond = e.second := by rw [Permit.shownSecond, he]
    have hd : p.shownDay = e.day := by rw [Permit.shownDay, he]
    have := (hfit.expiry e he).1
    refine ⟨?_, hsecond.trans hs⟩
    rw [hd, BitVec.toNat_ofNat]
    omega
  · have hs : p.shownSecond = 131071 := by rw [Permit.shownSecond, he]
    have hd : p.shownDay = 65535 := by rw [Permit.shownDay, he]
    rw [hs, hd]
    refine ⟨rfl, rfl, ?_⟩
    rw [ofNat_bit _ 15 (by decide), decide_eq_true_iff]
    have := hfit.rise
    have := p.holder.code_lt
    omega

end Sys2Proof.Machine
end

section
/-! SUPPORT. What the settling of an event leaves: the fields that no event changes but by its own effect, the slots, and
the records that are REVOKED. -/

namespace Sys2Proof.Machine

open Sys2Proof Sys2Proof.Safety Sys2Proof.Claims

/-! ### Fields -/

theorem settledFrom_refl (s : State) : SettledFrom s s := ⟨rfl, rfl, rfl, rfl, rfl, rfl, rfl, rfl, rfl, rfl, rfl, rfl⟩

/-- The settling of an event leaves the fields that no event changes but by its own effect. -/
theorem settledFrom_settleWith {s u : State} (h : SettledFrom s u) (g : Option (Fin 48)) :
    SettledFrom s (u.settleWith g) := by
  obtain ⟨hkey, hdoor, hbus, hmem, htr, hrun, hnow, hload, hans, hdraws, hpend, hunit⟩ := h
  obtain ⟨_, _, _, _, _, _, _, _, _, _, _, e⟩ := u.settleWith_frame g
  rw [e]
  refine ⟨hkey, hdoor, hbus, hmem, htr, hrun, hnow, hload, hans, hdraws, hpend, ?_⟩
  dsimp only
  rw [hunit]

theorem settledFrom_settle {s u : State} (h : SettledFrom s u) : SettledFrom s u.settle := settledFrom_settleWith h none

/-- The settling of a state that a command answers. -/
theorem settles_of_exec {c : Instr} {s u : State} (h : exec c s = .next u.settle) : Settles c s u :=
  ⟨h, settledFrom_settle (settledFrom_refl u)⟩

/-- A change of permits, breaker, contactors, link and attention alone. -/
theorem settledFrom_of_blocks {s u : State} (h : u = { s with
      slots := u.slots, breaker := u.breaker, contactors := u.contactors, serving := u.serving, link := u.link
      attention := u.attention }) : SettledFrom s u := by
  rw [h]
  exact ⟨rfl, rfl, rfl, rfl, rfl, rfl, rfl, rfl, rfl, rfl, rfl, rfl⟩

theorem State.settleWith_doorReleased (s : State) (g : Option (Fin 48)) : (s.settleWith g).doorReleased = s.entryLive := by
  simp [State.settleWith, State.doorStage]

/-! ### Slots -/

/-- A slot after the settling of an event. -/
theorem State.settleWith_slot (s : State) (g : Option (Fin 48)) (i : Fin 48) :
    (s.settleWith g).slots[i.val].generation = s.slots[i.val].generation ∧
      (s.slots[i.val].permit = none → (s.settleWith g).slots[i.val].permit = none) ∧
      ∀ p, s.slots[i.val].permit = some p → ∃ r, (s.settleWith g).slots[i.val].permit = some r ∧ Stands p r := by
  obtain ⟨hg, h⟩ := (s.settleWith_follows g).remain i
  refine ⟨hg, fun hn => ?_, fun p hp => ?_⟩
  · rcases h with ⟨-, e⟩ | ⟨p, q, hp, -⟩
    · exact e
    · rw [hn] at hp; cases hp
  · rcases h with ⟨hn, -⟩ | ⟨p', q, hp', hq, hf⟩
    · rw [hn] at hp; cases hp
    · rw [hp] at hp'; cases hp'
      exact ⟨q, hq, hf.stands⟩

/-- A freed slot after the settling of an event. -/
theorem State.settle_freed {s : State} {i : Fin 48} {g : Byte} (h : s.slots[i.val] = ⟨g, none⟩) :
    s.settle.slots[i.val] = ⟨g, none⟩ := by
  obtain ⟨hg, hf, -⟩ := s.settleWith_slot none i
  rw [h] at hg hf
  have := hf rfl
  rw [State.settle]
  cases e : (s.settleWith none).slots[i.val]
  rw [e] at hg this
  simp only at hg this
  rw [hg, this]

/-- A record of which the notice mark alone may have been taken, if it is REVOKED. -/
def Permit.Rests (p q : Permit) : Prop := p.state = .revoked → q = { p with notice := q.notice }

theorem Permit.Rests.refl (p : Permit) : p.Rests p := fun _ => rfl

theorem Permit.Rests.trans (p q r : Permit) (h : p.Rests q) (k : q.Rests r) : p.Rests r := fun hp => by
  have e := h hp
  have hq : q.state = .revoked := by rw [e]; exact hp
  rw [k hq, e]

theorem Permit.retarget_revoked {p : Permit} (h : p.state = .revoked) (src : Source) (target now hold : Nat)
    (restr : Fin 8 × Cause) : p.retarget src target now hold restr = p := by
  rcases p.retarget_cases src target now hold restr with ⟨e, -⟩ | ⟨-, -, hs, -⟩
  · exact e
  · rw [Permit.liveOrSuspended_iff, h] at hs
    simp at hs

theorem State.linkStage_rel {R : Permit → Permit → Prop} (hR : ∀ p, R p p) (hn : ∀ p : Permit, R p { p with notice := false })
    (s : State) : s.SlotsRel R s.linkStage := by
  have same : ∀ t : State, t.slots = s.slots → s.SlotsRel R t := fun t => State.SlotsRel.of_eq hR
  simp only [State.linkStage]
  split
  · split
    · exact same _ rfl
    · split
      · split
        · next p hp => exact s.setPermit_rel hR _ p _ hp (hn p)
        · exact same _ rfl
      · exact same _ rfl
  · exact same _ rfl

/-- A REVOKED record rests in the settling of an event. -/
theorem State.settleWith_rests (s : State) (g : Option (Fin 48)) : s.SlotsRel Permit.Rests (s.settleWith g) := by
  have same : ∀ t u : State, u.slots = t.slots → t.SlotsRel Permit.Rests u :=
    fun t u => State.SlotsRel.of_eq Permit.Rests.refl
  have fixed : ∀ {t u : State} {f : Fin 48 → Permit → Permit}, t.SlotsUpdate f u →
      (∀ (i : Fin 48) (p : Permit), p.state = .revoked → f i p = p) → t.SlotsRel Permit.Rests u := fun h hf =>
    State.SlotsUpdate.rel h fun i p hp => by rw [hf i p hp]
  have h1 : s.SlotsRel Permit.Rests s.doorStage.fireAndAlarm :=
    (same s s.doorStage rfl).trans Permit.Rests.trans <| fixed s.doorStage.fireAndAlarm_updates fun _ p hp => by
      simp [Permit.revokedWhere, Permit.standing, hp]
  have h2 := h1.trans Permit.Rests.trans (same _ s.doorStage.fireAndAlarm.coolStage.connectStage (by simp))
  have h3 := h2.trans Permit.Rests.trans <| fixed (State.isolateStage_updates _ g) fun _ p hp => by
    simp [Permit.completed, hp]
  have h4 : (s.beforeEvaluation g).SlotsRel Permit.Rests (s.beforeEvaluation g).evaluateStage := by
    cases hl : (s.beforeEvaluation g).loaded with
    | false => rw [State.evaluateStage_unloaded _ hl]; exact same _ _ rfl
    | true =>
      refine fixed (State.evaluateStage_updates _ hl) fun _ p hp => ?_
      rw [State.handedTo]
      split
      · exact Permit.retarget_revoked hp _ _ _ _ _
      · rfl
  have h5 := (h3.trans Permit.Rests.trans h4).trans Permit.Rests.trans
    (State.linkStage_rel Permit.Rests.refl (fun _ _ => rfl) _)
  exact h5.trans Permit.Rests.trans (same _ _ (State.startUpStage_slots _))

/-- A REVOKED record after the settling of an event. -/
theorem State.settle_revoked {s : State} {i : Fin 48} {p : Permit} (hp : Holds s i p) (hs : p.state = .revoked) :
    ∃ r, Holds s.settle i r ∧ r = { p with notice := r.notice } := by
  obtain ⟨r, hr, h⟩ := (s.settleWith_rests none).forth hp
  exact ⟨r, hr, h hs⟩

/-- Flags once set stand in the settling of an event. -/
theorem State.settle_flagged {s : State} {f : Flag} (h : s.flagged f = true) : s.settle.flagged f = true :=
  (s.settleWith_announces none).flags f h

/-! ### Revocation and retirement -/

theorem Permit.revoked_effective (p : Permit) (reason : Reason) (byOrder : Bool) (now hold : Nat) :
    (p.revoked reason byOrder now hold).effective = 0 := by
  cases h : p.limits <;> simp [Permit.revoked, Permit.effective, h]

/-- A CONNECT that is LIVE or SUSPENDED and goes, not by a fire, has the breaker opened normally and auto-reclose
disarmed. -/
theorem State.connectGone_normally (s : State) (p : Permit) : s.connectGone p false =
    if p.kind = .connect ∧ (p.state = .live ∨ p.state = .suspended) then
      (s.setBreaker (s.breaker.openNormally s.now)).arm false
    else s := by
  simp only [State.connectGone, Bool.and_eq_true, beq_iff_eq, Permit.liveOrSuspended_iff]
  rfl

/-- The revocation of a standing permit. -/
theorem State.revokeSlot_eq {s : State} {i : Fin 48} {p : Permit} (hp : Holds s i p) (hs : p.state ≠ .revoked)
    (reason : Reason) (byOrder : Bool) : s.revokeSlot reason byOrder i =
      ((s.setPermit i (p.revoked reason byOrder s.now (Config.sec s.unit.active.revokedHold))).raiseIf (!byOrder)
        .permit).connectGone p (reason == .fire) := by
  rw [Holds] at hp
  simp only [State.revokeSlot, hp, (Permit.standing_iff p).2 hs, if_true]

/-- The retirement of a record. -/
theorem State.retireSlot_eq {s : State} {i : Fin 48} {p : Permit} (hp : Holds s i p) : s.retireSlot i =
    (s.setSlot i ⟨s.slots[i].generation + 1, none⟩).connectGone p false := by
  rw [Holds] at hp
  simp only [State.retireSlot, hp]

/-- The record of a revoked permit after the event settles. -/
theorem State.revokeSlot_settle {s : State} {i : Fin 48} {p : Permit} (hp : Holds s i p) (hs : p.state ≠ .revoked)
    (reason : Reason) (byOrder : Bool) : ∃ r, Holds (s.revokeSlot reason byOrder i).settle i r ∧
      r = { p.revoked reason byOrder s.now (Config.sec s.unit.active.revokedHold) with notice := r.notice } := by
  refine State.settle_revoked ?_ rfl
  rw [Holds] at hp ⊢
  simp only [Fin.getElem_fin] at hp ⊢
  rw [State.revokeSlot_turn, getElem_put_self]
  simp [Slot.update, hp, (Permit.standing_iff p).2 hs]

/-- The records that a revocation of many revokes, after the event settles. -/
theorem State.revokeWhere_settle {s : State} {i : Fin 48} {p : Permit} {f : Permit → Bool} (hp : Holds s i p)
    (hs : p.state ≠ .revoked) (hf : f p = true) (reason : Reason) : ∃ r, Holds (s.revokeWhere f reason).settle i r ∧
      r = { p.revoked reason false s.now (Config.sec s.unit.active.revokedHold) with notice := r.notice } := by
  have h := (s.revokeWhere_updates f reason).holds hp
  rw [Permit.revokedWhere, if_pos (by simp [hf, (Permit.standing_iff p).2 hs])] at h
  exact State.settle_revoked h rfl

/-- Revocations change permits, breaker and attention alone. -/
theorem State.revokeSlot_settledFrom (s : State) (reason : Reason) (byOrder : Bool) (i : Fin 48) :
    SettledFrom s (s.revokeSlot reason byOrder i) := by
  obtain ⟨_, _, _, e⟩ := s.revokeSlot_frame reason byOrder i
  rw [e]
  exact settledFrom_of_blocks rfl

theorem State.revokeWhere_settledFrom (s : State) (f : Permit → Bool) (reason : Reason) :
    SettledFrom s (s.revokeWhere f reason) := by
  obtain ⟨_, _, _, e⟩ := s.revokeWhere_frame f reason
  rw [e]
  exact settledFrom_of_blocks rfl

theorem State.retireSlot_settledFrom (s : State) (i : Fin 48) : SettledFrom s (s.retireSlot i) := by
  obtain ⟨_, _, _, e⟩ := s.retireSlot_frame i
  rw [e]
  exact settledFrom_of_blocks rfl

end Sys2Proof.Machine
end

section
/-! PROOF. REVOKE, RETIRE, the clock, the permit timers, the crew key and the door contact (O20, O24, O28, O30). -/

namespace Sys2Proof.Machine

open Sys2Proof Sys2Proof.Safety Sys2Proof.Claims

/-! ### REVOKE and RETIRE -/

/-- A word of one byte packed. -/
theorem pack_byte (b : Byte) : pack (fld 8 b.toNat) = b.setWidth 16 :: List.replicate 6 0 := by
  have hb := b.isLt
  have hn : packNat (fld 8 b.toNat) 0 = b.toNat := by
    simp only [fld, packNat, fieldStart]
    norm_num
    omega
  rw [pack, hn, resultWords_small (by omega), Nat.div_eq_of_lt (by omega)]
  congr 1
  exact BitVec.eq_of_toNat_eq (by simp)

theorem ownerRevoke_eq {h : Word} {s : State} {i : Fin 48} {p : Permit} (hn : Names s h i p)
    (hs : p.state ≠ .revoked) : ownerRevoke h s =
      ((s.revokeSlot .station true i).settle, done (BitVec.ofNat 16 (4 + 8 * 10) :: List.replicate 6 0)) := by
  obtain ⟨r, hr, e⟩ := State.revokeSlot_settle (names_holds hn) hs .station true
  rw [Holds] at hr
  have hw : r.stateReason = BitVec.ofNat 16 (4 + 8 * 10) :: List.replicate 6 0 := by
    rw [Permit.stateReason_eq, e]
    rfl
  simp only [ownerRevoke, names_iff.1 hn, if_neg hs, hr, hw]

theorem ownerRetire_eq {h : Word} {s : State} {i : Fin 48} {p : Permit} (hn : Names s h i p) :
    ownerRetire h s = ((s.retireSlot i).settle,
      done ((s.slots[i.val].generation + 1).setWidth 16 :: List.replicate 6 0)) := by
  have hslot : (s.retireSlot i).slots[i.val] = ⟨s.slots[i.val].generation + 1, none⟩ := by
    rw [State.retireSlot_slots_self s i p (names_holds hn), getElem_put_self]
  simp only [ownerRetire, names_iff.1 hn, Fin.getElem_fin, State.settle_freed hslot, pack_byte]

/-- What a REVOKE leaves before the event settles. -/
theorem State.revokeSlot_station {s : State} {i : Fin 48} {p : Permit} (hp : Holds s i p) (hs : p.state ≠ .revoked) :
    s.revokeSlot .station true i =
      (s.setPermit i { p with
        state := .revoked
        reason := some .station
        limits := p.limits.map fun l => ⟨l.requested, 0, none⟩
        leaseEnd := none
        holdEnd := some (s.now + Config.sec s.unit.active.revokedHold)
        notice := p.notice || p.holder == .converter }).connectGone p false := by
  have hr : (Reason.station == Reason.fire) = false := by decide
  rw [State.revokeSlot_eq hp hs, hr]
  simp [State.raiseIf, Permit.revoked]

theorem revoke_refused {s : State} {h : Word} {i : Fin 48} {p : Permit} (hn : Names s h i p)
    (hst : p.state = .revoked) : ∃ w : Word, RefusedWith (.revoke h) s .state (w :: List.replicate 6 0) ∧
      ∀ r, p.reason = some r → (w.extractLsb' 3 4).toNat = r.report.code := by
  have ho : ownerRevoke h s = (s, ⟨some .state, p.stateReason⟩) := by
    simp only [ownerRevoke, names_iff.1 hn, if_pos hst, refuseWith]
  rw [Permit.stateReason_eq] at ho
  refine ⟨_, answers_of_owner rfl ho rfl, fun r hr => ?_⟩
  have := r.report.code_lt
  rw [hst, hr]
  exact ofNat_field (by simp only [PermitState.code, Option.map_some, Option.getD_some]; omega)

/-- Settles O20: what REVOKE and RETIRE answer is the settling of a revocation and of a retirement. -/
theorem revokeAndRetireEndPermits : Obligations.RevokeAndRetireEndPermits := by
  refine ⟨fun s h => ⟨fun hs => refused_of_owner rfl (by rw [ownerRevoke, stale_iff.1 hs]), fun i p hn =>
    ⟨revoke_refused hn, fun hst => ?_⟩⟩, fun s h => ⟨fun hs => refused_of_owner rfl (by
    rw [ownerRetire, stale_iff.1 hs]), fun i p hn => ?_⟩⟩
  · intro q u v
    have hv : s.revokeSlot .station true i = v := by
      rw [State.revokeSlot_station (names_holds hn) hst, State.connectGone_normally]
      rfl
    have hset := settledFrom_settle (s.revokeSlot_settledFrom .station true i)
    have hrun : (s.revokeSlot .station true i).settle.runner = s.runner := by simp
    obtain ⟨r, hr, e⟩ := State.revokeSlot_settle (names_holds hn) hst .station true
    have heff := p.revoked_effective .station true s.now (Config.sec s.unit.active.revokedHold)
    rw [← hv]
    refine ⟨answers_of_owner rfl (ownerRevoke_eq hn hst) hrun, hset, r, hr, ?_⟩
    rw [e]
    exact ⟨rfl, rfl, by simp [Permit.revoked], rfl, heff⟩
  · intro u v
    have hv : s.retireSlot i = v := by
      rw [State.retireSlot_eq (names_holds hn), State.connectGone_normally]
      rfl
    have hset := settledFrom_settle (s.retireSlot_settledFrom i)
    have hrun : (s.retireSlot i).settle.runner = s.runner := by simp
    have hslot := State.retireSlot_slots_self s i p (names_holds hn)
    rw [← hv]
    refine ⟨answers_of_owner rfl (ownerRetire_eq hn) hrun, hset,
      State.settle_freed (by rw [hslot, getElem_put_self, Fin.getElem_fin]), fun j hj => ?_⟩
    have := (s.retireSlot i).settleWith_slot none j
    rw [hslot, getElem_put_ne _ _ _ _ hj] at this
    exact this

/-! ### The clock -/

/-- What the expiry check of a new clock value revokes, after the event settles (R17). -/
theorem State.takeClock_revokes (s : State) (c : SiteTime) :
    ((s.takeClock c).expiryCheck).settle.unit.clock = c ∧
      ((s.takeClock c).expiryCheck).settle.unit.nextSecond = s.now + Config.sec 1 ∧
      ((s.takeClock c).expiryCheck).settle.orderMemory = s.orderMemory ∧
      ((s.takeClock c).expiryCheck).settle.runner = s.runner ∧
      ((s.takeClock c).expiryCheck).settle.buses = s.buses ∧
      ∀ i p e, Holds s i p → p.state ≠ .revoked → p.expiry = some e →
        (e.day < c.day ∨ (e.day = c.day ∧ e.second ≤ c.second)) →
        ∃ q, Holds ((s.takeClock c).expiryCheck).settle i q ∧ q.state = .revoked ∧ q.reason = some .expired ∧
          q.effective = 0 ∧ q.changed = true := by
  refine ⟨by simp [State.expiryCheck, State.takeClock, State.setUnit], by
      simp [State.expiryCheck, State.takeClock, State.setUnit], by
      simp [State.expiryCheck, State.takeClock, State.setUnit], by
      simp [State.expiryCheck, State.takeClock, State.setUnit], by
      simp [State.expiryCheck, State.takeClock, State.setUnit], fun i p e hp hs he hle => ?_⟩
  have hp' : Holds (s.takeClock c) i p := hp
  obtain ⟨q, hq, hq'⟩ := State.revokeWhere_settle (f := fun p => match p.expiry with
    | some e => e.atOrBefore (s.takeClock c).unit.clock
    | none => false) hp' hs (by simp only [he]; exact atOrBefore_iff.2 hle) .expired
  refine ⟨q, hq, ?_⟩
  have heff := p.revoked_effective .expired false (s.takeClock c).now
    (Config.sec (s.takeClock c).unit.active.revokedHold)
  rw [hq']
  exact ⟨rfl, rfl, heff, by simp [Permit.revoked]⟩

theorem ownerSetClock_eq (s : State) (day second high : Word) : ownerSetClock day second high s =
    let given := second.toNat + 65536 * (high.toNat % 2)
    if 86399 < given then (s, refuseWith .field s.unit.clock.words)
    else (((s.takeClock ⟨day.toNat, given⟩).expiryCheck).settle,
      done ((s.takeClock ⟨day.toNat, given⟩).expiryCheck).settle.unit.clock.words) := by
  have e : secondOf second (bitsOf high 0 1) = second.toNat + 65536 * (high.toNat % 2) := rfl
  simp only [ownerSetClock, e]

/-- Settles O24. -/
theorem clockValuesRevokeExpiredPermits : Obligations.ClockValuesRevokeExpiredPermits := by
  intro s day second high
  refine ⟨fun hg => ?_, fun hg => ?_, ?_⟩
  · have ho := ownerSetClock_eq s day second high
    rw [if_pos hg] at ho
    exact ⟨_, answers_of_owner rfl ho rfl⟩
  · obtain ⟨hc, hn, hm, hr, hb, hp⟩ := s.takeClock_revokes ⟨day.toNat, second.toNat + 65536 * (high.toNat % 2)⟩
    have ho := ownerSetClock_eq s day second high
    rw [if_neg (Nat.not_lt.2 hg)] at ho
    exact ⟨_, ⟨_, answers_of_owner rfl ho hr⟩, hc, hn, hm, hr, hb, hp⟩
  · obtain ⟨hc, hn, hm, hr, hb, hp⟩ := s.takeClock_revokes s.unit.clock.advance
    refine ⟨_, rfl, hc.trans ?_, hn, hm, hr, hb, ?_⟩
    · rw [SiteTime.advance]
      split
      · rfl
      · split <;> rfl
    · rw [hc]
      exact hp

/-! ### Permit timers -/

theorem execLeaseLapse_eq {s : State} {i : Fin 48} {p : Permit} (hp : Holds s i p) : exec (.leaseLapse i) s =
    .next (if p.standing && p.leaseEnd.isSome then (s.revokeSlot .lease false i).settle else s) := by
  rw [Holds] at hp
  show execLeaseLapse i s = _
  simp only [execLeaseLapse, hp]

theorem execRevokedHoldEnd_eq {s : State} {i : Fin 48} {p : Permit} (hp : Holds s i p) : exec (.revokedHoldEnd i) s =
    .next (if p.state == .revoked && p.holdEnd.isSome then ((s.retireSlot i).raise .permit).settle else s) := by
  rw [Holds] at hp
  show execRevokedHoldEnd i s = _
  simp only [execRevokedHoldEnd, hp]

theorem execRiseHoldEnd_eq {s : State} {i : Fin 48} {p : Permit} {l : Limits} (hp : Holds s i p)
    (hl : p.limits = some l) : exec (.riseHoldEnd i) s = .next (match l.rise with
      | none => s
      | some r => if p.liveOrSuspended then (s.endRise i p l r).settle else s) := by
  rw [Holds] at hp
  show execRiseHoldEnd i s = _
  simp only [execRiseHoldEnd, hp, hl] <;> rfl

/-- What the end of a lease leaves before the event settles. -/
theorem State.revokeSlot_lease {s : State} {i : Fin 48} {p : Permit} (hp : Holds s i p) (hs : p.state ≠ .revoked) :
    s.revokeSlot .lease false i =
      ((s.setPermit i { p with
        state := .revoked
        reason := some .lease
        limits := p.limits.map fun l => ⟨l.requested, 0, none⟩
        leaseEnd := none
        holdEnd := some (s.now + Config.sec s.unit.active.revokedHold)
        changed := true
        notice := p.notice || p.holder == .converter }).raise .permit).connectGone p false := by
  have hr : (Reason.lease == Reason.fire) = false := by decide
  rw [State.revokeSlot_eq hp hs, hr]
  simp [State.raiseIf, Permit.revoked]

/-- A record put back where it stands. -/
theorem State.setPermit_self {s : State} {i : Fin 48} {p : Permit} (hp : Holds s i p) : s.setPermit i p = s := by
  have hslots : (s.setPermit i p).slots = s.slots := by
    have := s.setPermit_turn i (fun q => q) hp
    rwa [Slot.update_of_fixed (fun _ _ => rfl), put_self] at this
  calc s.setPermit i p = { s with slots := (s.setPermit i p).slots } := rfl
    _ = s := by rw [hslots]

/-- A recomputed target that changes nothing. -/
theorem State.retargetSlot_fixed {s : State} {i : Fin 48} {p : Permit} (hp : Holds s i p) (src : Source)
    (h : s.retargeted src p = p) : s.retargetSlot src i = s := by
  have hp' := hp
  rw [Holds] at hp'
  rw [State.retargeted] at h
  simp only [State.retargetSlot, hp', h, bne_self_eq_false, Bool.or_self, Bool.and_false]
  exact State.setPermit_self hp

/-- A LIVE permit without a pending rise stands under the target that it has. -/
theorem Permit.retarget_at_target {p : Permit} {l : Limits} (hl : p.limits = some l) (hs : p.state = .live)
    (hr : l.rise = none) (src : Source) (now hold : Nat) (restr : Fin 8 × Cause) :
    p.retarget src l.effective now hold restr = p := by
  have hn : nextRise l l.effective now hold = none := by rw [nextRise, if_pos rfl]
  have hlo : p.liveOrSuspended = true := by rw [Permit.liveOrSuspended_iff]; exact .inl hs
  obtain ⟨k, ho, st, sc, lim, lp, le, ex, ar, re, ch, he, no⟩ := p
  obtain ⟨req, eff, rise⟩ := l
  simp only at hl hs hr
  subst hl hs hr
  simp [Permit.retarget, hlo, Permit.applyRise, hn]

theorem Permit.applyPending_eq (p : Permit) (l : Limits) (r : Rise) :
    ((∃ n c, p.state = .suspended ∧ p.reason = some (.envelope n c)) → p.applyPending l r =
      { p with limits := some ⟨l.requested, r.value, none⟩, changed := true, state := .live, reason := none }) ∧
    ((¬∃ n c, p.state = .suspended ∧ p.reason = some (.envelope n c)) → p.applyPending l r =
      { p with limits := some ⟨l.requested, r.value, none⟩, changed := true }) := by
  constructor
  · rintro ⟨n, c, hs, hr⟩
    simp only [Permit.applyPending, hs, hr]
  · intro h
    simp only [Permit.applyPending]
    split
    · next n c hs hr => exact absurd ⟨n, c, hs, hr⟩ h
    · rfl

/-- Settles O28: each timer is one operation of the Permit Manager and the settling of its event. -/
theorem permitTimersActOnRecords : Obligations.PermitTimersActOnRecords := by
  refine ⟨fun s i p hp => ⟨fun hs hl => ?_, fun h => ?_, fun hs hh => ?_, fun h => ?_⟩,
    fun s i p l hp hl => ⟨fun r hr hs => ?_, fun h => ?_⟩⟩
  · have he := execLeaseLapse_eq hp
    rw [(Permit.standing_iff p).2 hs, hl, Bool.and_self, if_pos rfl] at he
    obtain ⟨r, hr, e⟩ := State.revokeSlot_settle hp hs .lease false
    rw [State.revokeSlot_lease hp hs, State.connectGone_normally] at he hr
    have heff := p.revoked_effective .lease false s.now (Config.sec s.unit.active.revokedHold)
    refine ⟨settles_of_exec he, r, hr, ?_⟩
    rw [e]
    exact ⟨rfl, rfl, heff, by simp [Permit.revoked], rfl, rfl⟩
  · rw [execLeaseLapse_eq hp, if_neg]
    rw [Bool.and_eq_true, Permit.standing_iff]
    rintro ⟨hs, hl⟩
    rcases h with h | h
    · exact hs h
    · rw [h] at hl; cases hl
  · have he := execRevokedHoldEnd_eq hp
    rw [hs, hh, beq_self_eq_true, Bool.and_self, if_pos rfl, State.retireSlot_eq hp, State.connectGone_normally,
      if_neg (by simp [hs])] at he
    refine ⟨settles_of_exec he, State.settle_freed ?_, State.settle_flagged (State.raise_flagged_self _ _)⟩
    rw [State.raise_slots]
    simp [State.setSlot]
  · rw [execRevokedHoldEnd_eq hp, if_neg]
    rw [Bool.and_eq_true, beq_iff_eq]
    rintro ⟨hs, hl⟩
    rcases h with h | h
    · exact h hs
    · rw [h] at hl; cases hl
  · have he := execRiseHoldEnd_eq hp hl
    simp only [hr, (Permit.liveOrSuspended_iff p).2 hs, if_true] at he
    refine ⟨p.applyPending l r, (p.applyPending_eq l r).1, (p.applyPending_eq l r).2, settles_of_exec he,
      fun ht hlive => ?_⟩
    obtain ⟨-, -, -, hlim⟩ := p.applyPending_spec l r
    refine State.retargetSlot_fixed (p := p.applyPending l r) ?_ .other ?_
    · rw [Holds.congr (State.raise_slots _ _), State.setPermit_holds, if_pos rfl]
    · have ht' : ((s.setPermit i (p.applyPending l r)).raise .permit).targetOf (p.applyPending l r) = r.value := ht
      rw [State.retargeted, ht']
      exact Permit.retarget_at_target hlim hlive rfl _ _ _ _
  · rw [execRiseHoldEnd_eq hp hl]
    split
    · rfl
    · next r hr =>
      rw [if_neg]
      rw [Permit.liveOrSuspended_iff]
      rcases h with h | h | h
      · rw [hr] at h; cases h
      · simp [h]
      · simp [h]

/-! ### Crew key and door contact -/

/-- Settles O30. -/
theorem keyAndDoorLines : Obligations.KeyAndDoorLines := by
  intro s
  refine ⟨fun hk => ?_, fun hk => ?_, fun x hx => ?_, fun x hx => ?_, fun x hx => ?_, fun x hx => ?_, fun hx => ?_⟩
  · show execCrewKeyChange true s = _
    rw [execCrewKeyChange, hk]
    rfl
  · refine ⟨((s.setKey false).revokeWhere (fun p => p.kind == .entry && p.state == .live) .key).settle, ?_, ?_⟩
    · show execCrewKeyChange false s = _
      rw [execCrewKeyChange, if_neg (by simp [hk]), if_neg (by simp)]
    · have hs := State.revokeWhere_settledFrom (s.setKey false) (fun p => p.kind == .entry && p.state == .live) .key
      obtain ⟨hkey, hdoor, hbus, hmem, -, hrun, -⟩ := settledFrom_settle hs
      refine ⟨hkey, ?_, hmem, hrun, hbus, hdoor, fun i p hp hkind hlive => ?_⟩
      · rw [State.settle, State.settleWith_doorReleased, ← Bool.not_eq_true, State.entryLive_iff]
        rintro ⟨i, q, hq, hqk, hqs⟩
        obtain ⟨p, hp, rfl⟩ := (State.revokeWhere_updates _ _ _).back hq
        rw [Permit.revokedWhere] at hqk hqs
        split at hqk
        · next h => rw [if_pos h] at hqs; cases hqs
        · next h =>
          rw [if_neg h] at hqs
          simp [hqk, hqs, Permit.standing] at h
      · have hp' : Holds (s.setKey false) i p := hp
        obtain ⟨q, hq, e⟩ := State.revokeWhere_settle (f := fun p => p.kind == .entry && p.state == .live) hp'
          (by rw [hlive]; simp) (by simp [hkind, hlive]) .key
        refine ⟨q, hq, ?_⟩
        rw [e]
        exact ⟨rfl, rfl, by simp [Permit.revoked], rfl⟩
  · show execCrewKeyChange x s = _
    rw [execCrewKeyChange, if_pos hx]
  · show execDoorContactChange x s = _
    rw [execDoorContactChange, if_neg hx]
    rfl
  · show execDoorContactChange x s = _
    rw [execDoorContactChange, if_pos hx]
  · refine settles_of_exec ?_
    show execDoorTaken s = _
    rw [execDoorTaken, hx]
    simp only [Option.isSome_some, if_true, Conditioned.take, Conditioned.level, hx]
  · show execDoorTaken s = _
    rw [execDoorTaken, hx]
    rfl

end Sys2Proof.Machine
end

section
/-! PROOF. What a recomputed target does to a record, and which string restricts it (O29). -/

namespace Sys2Proof.Machine

open Sys2Proof Sys2Proof.Safety Sys2Proof.Claims

/-! ### The restricting string -/

theorem sorted_allStrings : allStrings.Pairwise (· < ·) := by decide

/-- What a search of a sorted list finds is the lowest. -/
theorem find_least {n : Nat} {l : List (Fin n)} (hl : l.Pairwise (· < ·)) {P : Fin n → Bool} {i : Fin n}
    (h : l.find? P = some i) : P i = true ∧ ∀ j ∈ l, j < i → P j = false := by
  obtain ⟨hi, as, bs, rfl, has⟩ := List.find?_eq_some_iff_append.1 h
  refine ⟨hi, fun j hj hlt => ?_⟩
  rcases List.mem_append.1 hj with hj | hj
  · simpa using has j hj
  · rcases List.mem_cons.1 hj with rfl | hj
    · exact absurd hlt (lt_irrefl _)
    · have hij := (List.pairwise_cons.1 (List.pairwise_append.1 hl).2.1).1 j hj
      exact absurd (hlt.trans hij) (lt_irrefl _)

/-- The least of some numbers and a bound. -/
theorem foldl_min_spec (l : List Nat) (a : Nat) :
    l.foldl min a ≤ a ∧ (∀ x ∈ l, l.foldl min a ≤ x) ∧ (l.foldl min a = a ∨ l.foldl min a ∈ l) := by
  induction l generalizing a with
  | nil => exact ⟨le_refl a, nofun, .inl rfl⟩
  | cons y l ih =>
    obtain ⟨hle, hall, hin⟩ := ih (min a y)
    simp only [List.foldl_cons, List.mem_cons, forall_eq_or_imp]
    refine ⟨by omega, ⟨by omega, hall⟩, ?_⟩
    rcases hin with h | h
    · rw [h]; omega
    · exact .inr (.inr h)

theorem Cause.rank_le (c : Cause) : c.rank ≤ 8 := by cases c <;> decide

/-- A scope other than 0 holds a string. -/
theorem exists_inScope {scope : BitVec 8} (h : scope ≠ 0) : ∃ m : Fin 8, inScope scope m = true := by
  by_contra hno
  refine h (BitVec.eq_of_getLsbD_eq fun i hi => ?_)
  have := not_exists.1 hno ⟨i, hi⟩
  simpa [inScope] using this

/-- The highest precedence among the causes of a scope's strings, as a rank. -/
def State.bestRank (s : State) (scope : BitVec 8) : Nat :=
  ((allStrings.filter (inScope scope)).map fun i => s.strings[i].cause.rank).foldl min 8

/-- The highest precedence is that of a string of the scope, and none is higher. -/
theorem State.bestRank_spec (s : State) {scope : BitVec 8} (h : scope ≠ 0) :
    (∀ m : Fin 8, inScope scope m = true → s.bestRank scope ≤ s.strings[m].cause.rank) ∧
      ∃ m : Fin 8, inScope scope m = true ∧ s.strings[m].cause.rank = s.bestRank scope := by
  obtain ⟨-, hall, hin⟩ :=
    foldl_min_spec ((allStrings.filter (inScope scope)).map fun i => s.strings[i].cause.rank) 8
  have hbest : ∀ m : Fin 8, inScope scope m = true → s.bestRank scope ≤ s.strings[m].cause.rank := fun m hm =>
    hall _ (List.mem_map.2 ⟨m, List.mem_filter.2 ⟨mem_allStrings m, hm⟩, rfl⟩)
  refine ⟨hbest, ?_⟩
  rcases hin with hin | hin
  · obtain ⟨m, hm⟩ := exists_inScope h
    have h1 := hbest m hm
    have h2 := s.strings[m].cause.rank_le
    rw [State.bestRank, hin] at h1
    exact ⟨m, hm, by rw [State.bestRank, hin]; omega⟩
  · obtain ⟨m, hm, e⟩ := List.mem_map.1 hin
    exact ⟨m, (List.mem_filter.1 hm).2, e⟩

/-- The restricting string of a scope that holds one: the lowest-numbered of the scope whose cause has the highest
precedence (R11). -/
theorem State.restricting_spec (s : State) {scope : BitVec 8} (h : scope ≠ 0) : ∃ n : Fin 8,
    s.restricting scope = (n, s.strings[n].cause) ∧ inScope scope n = true ∧
      ∀ m : Fin 8, inScope scope m = true → s.strings[n].cause.rank ≤ s.strings[m].cause.rank ∧
        (m < n → s.strings[n].cause.rank < s.strings[m].cause.rank) := by
  obtain ⟨hbest, m, hm, hatt⟩ := s.bestRank_spec h
  cases hf : (allStrings.filter (inScope scope)).find? (fun i => s.strings[i].cause.rank == s.bestRank scope) with
  | none =>
    have := List.find?_eq_none.1 hf m (List.mem_filter.2 ⟨mem_allStrings m, hm⟩)
    exact absurd hatt (by simpa using this)
  | some n =>
    obtain ⟨hn, hlow⟩ := find_least (sorted_allStrings.filter _) hf
    rw [beq_iff_eq] at hn
    refine ⟨n, ?_, (List.mem_filter.1 (List.mem_of_find?_eq_some hf)).2, fun m hm => ⟨?_, fun hlt => ?_⟩⟩
    · rw [State.bestRank] at hf
      simp only [State.restricting, hf]
    · rw [hn]; exact hbest m hm
    · have hb := hbest m hm
      have hne := hlow m (List.mem_filter.2 ⟨mem_allStrings m, hm⟩) hlt
      rw [beq_eq_false_iff_ne] at hne
      omega

/-! ### Records -/

/-- A target below the effective limit (R11). -/
theorem Permit.applyFall_spec {p : Permit} (l : Limits) (src : Source) (target : Nat) (restr : Fin 8 × Cause) :
    let q := p.applyFall l src target restr
    q.limits = some ⟨l.requested, target, none⟩ ∧ (q.changed = true ↔ p.changed = true ∨ src ≠ .amend) ∧
      (p.holder = .converter → src ≠ .reduce → q.notice = true) ∧ (p.holder ≠ .converter → q.notice = p.notice) ∧
      (target = 0 → p.state = .live → q.state = .suspended ∧ q.reason = some (.envelope restr.1 restr.2)) ∧
      (0 < target ∨ p.state = .suspended → q.state = p.state ∧ q.reason = p.reason) := by
  have hch : (p.changed || src != .amend) = true ↔ p.changed = true ∨ src ≠ .amend := by simp
  by_cases h : target = 0 ∧ p.state = .live
  · simp only [Permit.applyFall, if_pos h]
    refine ⟨trivial, hch, fun hc _ => by simp [hc], fun hc => ?_, fun _ _ => ⟨trivial, trivial⟩, fun hc => ?_⟩
    · simp [beq_eq_false_iff_ne.2 hc]
    rcases hc with hc | hc
    · omega
    · rw [h.2] at hc; cases hc
  · simp only [Permit.applyFall, if_neg h]
    exact ⟨trivial, hch, fun hc hs => by simp [hc, hs], fun hc => by simp [hc], fun h0 hl => absurd ⟨h0, hl⟩ h,
      fun _ => ⟨trivial, trivial⟩⟩

/-- The pending rise after a target not below the effective limit (R12). -/
theorem nextRise_spec (l : Limits) (target now hold : Nat) :
    (target = l.effective → nextRise l target now hold = none) ∧
      (l.effective < target →
        (l.rise = none → nextRise l target now hold = some ⟨target, now + hold⟩) ∧
          ∀ r, l.rise = some r →
            (r.value < target → nextRise l target now hold = some ⟨target, now + hold⟩) ∧
              (target = r.value → nextRise l target now hold = some r) ∧
              (target < r.value → nextRise l target now hold = some ⟨target, r.holdEnd⟩)) := by
  refine ⟨fun h => by rw [nextRise, if_pos h], fun h => ?_⟩
  have hne : target ≠ l.effective := by omega
  refine ⟨fun hr => by simp only [nextRise, if_neg hne, hr], fun r hr => ⟨fun hv => ?_, fun hv => ?_, fun hv => ?_⟩⟩
  · simp only [nextRise, if_neg hne, hr, if_pos hv]
  · have hv' : ¬r.value < target := by omega
    simp only [nextRise, if_neg hne, hr, if_neg hv', if_pos hv]
  · have hv' : ¬r.value < target := by omega
    have hv'' : target ≠ r.value := by omega
    simp only [nextRise, if_neg hne, hr, if_neg hv', if_neg hv'']

/-- A target not below the effective limit leaves all but the rise of a record that no envelope suspends. -/
theorem Permit.applyRise_other {p : Permit} (h : ¬∃ m d, p.state = .suspended ∧ p.reason = some (.envelope m d))
    (l : Limits) (src : Source) (target now hold : Nat) (restr : Fin 8 × Cause) :
    p.applyRise l src target now hold restr =
      { p with limits := some ⟨l.requested, l.effective, nextRise l target now hold⟩ } := by
  simp only [Permit.applyRise]
  split
  · next i c hs hr => exact absurd ⟨i, c, hs, hr⟩ h
  · rfl

/-- A target not below the effective limit of a record that an envelope suspends chooses the restricting string anew
(R11). -/
theorem Permit.applyRise_suspended {p : Permit} (h : ∃ m d, p.state = .suspended ∧ p.reason = some (.envelope m d))
    (l : Limits) (src : Source) (target now hold : Nat) (restr : Fin 8 × Cause) :
    let q := p.applyRise l src target now hold restr
    q.reason = some (.envelope restr.1 restr.2) ∧
      (q.changed = true ↔ p.changed = true ∨ (q.reason ≠ p.reason ∧ src ≠ .amend)) ∧
      (q.notice = true ↔ p.notice = true ∨ (p.holder = .converter ∧ q.reported ≠ p.reported)) := by
  obtain ⟨m, d, hs, hr⟩ := h
  simp only [Permit.applyRise, hs, hr]
  by_cases e : restr = (m, d)
  · subst e
    simp [Permit.reported, hr, hs]
  · have hne : ¬(restr.1 = m ∧ restr.2 = d) := fun ⟨h1, h2⟩ => e (Prod.ext h1 h2)
    simp only [if_neg e]
    refine ⟨trivial, ?_, ?_⟩
    · simp [hne]
    · simp [Permit.reported, hs, hr]

/-! ### Slots -/

/-- The recomputed target of a slot's permit: the record written, and the attention flag. -/
theorem State.retargetSlot_eq {s : State} {i : Fin 48} {p : Permit} (hp : Holds s i p) (src : Source) :
    s.retargetSlot src i =
      { s.setPermit i (s.retargeted src p) with attention := (s.retargetSlot src i).attention } := by
  rw [Holds] at hp
  simp only [State.retargetSlot, hp, State.raiseIf, State.retargeted]
  split <;> rfl

theorem State.retargetSlot_holds {s : State} {i : Fin 48} {p : Permit} (hp : Holds s i p) (src : Source) :
    Holds (s.retargetSlot src i) i (s.retargeted src p) := by
  rw [State.retargetSlot_eq hp src]
  exact State.setPermit_holds.2 (by rw [if_pos rfl])

/-- Settles O29, by the cases of the recomputation. -/
theorem targetFallsAtOnceAndRisesByHold : Obligations.TargetFallsAtOnceAndRisesByHold := by
  refine ⟨fun s src i p l hp hl => ⟨fun hs => ?_, fun hs => ?_⟩, fun s scope h => ?_⟩
  · have hlo : p.liveOrSuspended = false := by
      rcases hs with h | h <;> simp [Permit.liveOrSuspended, h]
    have hfix : s.retargeted src p = p := by
      rcases p.retarget_cases src (s.targetOf p) s.now (Config.sec s.unit.active.riseHold) (s.restricting p.scope) with
        ⟨e, -⟩ | ⟨-, -, h, -⟩
      · exact e
      · rw [hlo] at h; cases h
    rw [State.retargetSlot_fixed hp src hfix, State.setPermit_self hp]
  · intro target hold n cause
    have ht : s.targetOf p = target := by rw [State.targetOf, Permit.requested_eq hl]
    have hlo := (Permit.liveOrSuspended_iff p).2 hs
    refine ⟨s.retargeted src p, s.retargetSlot src i, rfl, State.retargetSlot_eq hp src, fun h0 h1 => ?_, fun hlt => ?_,
      fun hge => ?_⟩
    · obtain ⟨p', hp', h⟩ := (s.retargetSlot_announces src i).marks i _ (State.retargetSlot_holds hp src)
      rw [Holds, hp] at hp'
      cases hp'
      rcases h h1 with h | h
      · rw [h0] at h; cases h
      · exact h
    · have e : s.retargeted src p = p.applyFall l src target (s.restricting p.scope) := by
        simp only [State.retargeted, ht, Permit.retarget, hl, hlo, Bool.not_true, Bool.false_eq_true, if_false, if_pos hlt]
      rw [e]
      exact Permit.applyFall_spec l src target _
    · have e : s.retargeted src p = p.applyRise l src target s.now (Config.sec s.unit.active.riseHold)
          (s.restricting p.scope) := by
        simp only [State.retargeted, ht, Permit.retarget, hl, hlo, Bool.not_true, Bool.false_eq_true, if_false,
          if_neg (Nat.not_lt.2 hge)]
      obtain ⟨heq, hgt⟩ := nextRise_spec l target s.now (Config.sec s.unit.active.riseHold)
      rw [e]
      refine ⟨nextRise l target s.now (Config.sec s.unit.active.riseHold), by rw [Permit.applyRise_eq],
        by rw [Permit.applyRise_eq], heq, hgt, fun hsus => ?_, fun hno => ?_⟩
      · exact Permit.applyRise_suspended hsus _ _ _ _ _ _
      · rw [Permit.applyRise_other hno]
        exact ⟨rfl, rfl, rfl⟩
  · obtain ⟨n, e, hn, hm⟩ := s.restricting_spec h
    obtain rfl : (s.restricting scope).1 = n := by rw [e]
    exact ⟨congrArg Prod.snd e, hn, hm⟩

end Sys2Proof.Machine
end

section
/-! PROOF. What a GRANT and an AMEND that pass their checks do (O17, O18). -/

namespace Sys2Proof.Machine

open Sys2Proof Sys2Proof.Safety Sys2Proof.Claims

/-! ### GRANT -/

/-- The limits, state and reason of a granted record, by its kind (R9). -/
theorem State.grantedPermit_entry (s : State) (kind : Kind) (holder : Holder) (o : GrantOps) :
    let q := s.grantedPermit kind holder o
    (kind = .connect → q.limits = none ∧ q.state = (if s.breaker.gridAvailable then .live else .suspended) ∧
      q.reason = (if s.breaker.gridAvailable then none else some .grid)) ∧
    (kind = .isolate → q.limits = none ∧ q.state = .pending ∧ q.reason = none) ∧
    (kind = .entry → q.limits = none ∧ q.state = .live ∧ q.reason = none) ∧
    (kind.hasLimit = true → ∀ l, o.limit = some l →
      q.limits = some ⟨l, min l (s.envelopeSum kind o.scope), none⟩ ∧
      (0 < min l (s.envelopeSum kind o.scope) → q.state = .live ∧ q.reason = none) ∧
      (min l (s.envelopeSum kind o.scope) = 0 → q.state = .suspended ∧
        q.reason = some (.envelope (s.restricting o.scope).1 (s.restricting o.scope).2))) := by
  have limited : ∀ l, o.limit = some l → kind.hasLimit = true →
      s.grantEntry kind o.scope (min l (s.envelopeSum kind o.scope)) =
        (if 0 < min l (s.envelopeSum kind o.scope) then (.live, none)
        else (.suspended, some (.envelope (s.restricting o.scope).1 (s.restricting o.scope).2))) := fun l _ hk => by
    cases kind with
    | charge | discharge => rfl
    | connect | isolate | entry => cases hk
  refine ⟨?_, ?_, ?_, fun hk l hl => ?_⟩
  · rintro rfl
    refine ⟨rfl, ?_, ?_⟩ <;> simp only [State.grantedPermit, State.grantEntry] <;> split <;> rfl
  · rintro rfl
    exact ⟨rfl, rfl, rfl⟩
  · rintro rfl
    exact ⟨rfl, rfl, rfl⟩
  · simp only [State.grantedPermit, hk, hl, Option.getD_some, limited l hl hk, if_true]
    refine ⟨trivial, fun h => ?_, fun h => ?_⟩
    · rw [if_pos h]; exact ⟨rfl, rfl⟩
    · rw [if_neg (by omega)]; exact ⟨rfl, rfl⟩

/-- The state of a grant before its event settles. -/
def State.granting (s : State) (i : Fin 48) (kind : Kind) (holder : Holder) (o : GrantOps) : State :=
  if kind = .connect then (s.setPermit i (s.grantedPermit kind holder o)).arm o.autoReclose
  else s.setPermit i (s.grantedPermit kind holder o)

theorem State.completeGrant_eq (s : State) (i : Fin 48) (kind : Kind) (holder : Holder) (o : GrantOps) :
    s.completeGrant i kind holder o = (s.granting i kind holder o).settleWith (some i) := by
  simp only [State.completeGrant, State.granting, beq_iff_eq]

theorem State.granting_slots (s : State) (i : Fin 48) (kind : Kind) (holder : Holder) (o : GrantOps) :
    (s.granting i kind holder o).slots =
      put s.slots i ⟨s.slots[i.val].generation, some (s.grantedPermit kind holder o)⟩ := by
  rw [State.granting]
  split <;> simp

theorem State.granting_settledFrom (s : State) (i : Fin 48) (kind : Kind) (holder : Holder) (o : GrantOps) :
    SettledFrom s (s.granting i kind holder o) := by
  rw [State.granting]
  split <;> exact settledFrom_of_blocks rfl

/-- The result words of a GRANT (R9). -/
theorem grant_results {s : State} {i : Fin 48} {r : Permit} (hr : Holds s i r) :
    pack (fld 16 (s.handleOf i).word.toNat ++ s.slotFields i) =
      (s.handleOf i).word :: BitVec.ofNat 16 (r.state.code + 8 * r.effective) :: List.replicate 5 0 := by
  rw [Holds] at hr
  simp only [State.slotFields, hr]
  exact pack_handle_state _ _ _

theorem stateWord_code (st : PermitState) (e : Nat) :
    ((BitVec.ofNat 16 (st.code + 8 * e)).extractLsb' 0 3).toNat = st.code :=
  ofNat_field (by have := st.code_lt; omega)

/-- A GRANT at its owner that passes its checks. -/
theorem ownerGrant_passed {s t : State} {op0 op1 op2 op3 op4 op5 : Word} {o : GrantOps} {kind : Kind}
    {holder : Holder} {i : Fin 48} (ho : GrantOps.decode op0 op1 op2 op3 op4 op5 = o)
    (hk : Kind.ofCode o.kindCode = some kind) (hh : Holder.ofCode o.holderCode = some holder)
    (hr : s.grantRefusal kind holder o = none) (hi : s.freeSlot = some i)
    (ht : t = (s.granting i kind holder o).settleWith (some i)) :
    ownerGrant op0 op1 op2 op3 op4 op5 s = (t, done (pack (fld 16 (t.handleOf i).word.toNat ++ t.slotFields i))) := by
  subst ho
  simp only [ownerGrant, hk, hh, hr, hi, State.completeGrant_eq, ht]

/-- Settles O17. -/
theorem grantFillsLowestFreeSlot : Obligations.GrantFillsLowestFreeSlot := by
  intro s op0 op1 op2 op3 op4 op5 o c
  refine ⟨fun h => refused_of_owner (owner := ownerGrant op0 op1 op2 op3 op4 op5) rfl ?_,
    fun kind holder hk hh => ⟨fun r hr => refused_of_owner (owner := ownerGrant op0 op1 op2 op3 op4 op5) rfl ?_,
    fun i hr hfree hlow => ?_⟩⟩
  · simp only [ownerGrant]
    split
    · next k hd hk hh =>
      rcases h with h | h
      · rw [hk] at h; cases h
      · rw [hh] at h; cases h
    · rfl
  · simp only [ownerGrant]
    rw [hk, hh]
    simp only
    rw [hr]
  · have ho := ownerGrant_passed (o := o) rfl hk hh hr (State.freeSlot_lowest hfree hlow) rfl
    have hslots := s.granting_slots i kind holder o
    have hset := settledFrom_settleWith (s.granting_settledFrom i kind holder o) (some i)
    have hrun : ((s.granting i kind holder o).settleWith (some i)).runner = s.runner := by
      obtain ⟨-, -, -, -, -, h, -⟩ := hset
      exact h
    obtain ⟨hgen, -, hrec⟩ := (s.granting i kind holder o).settleWith_slot (some i) i
    rw [hslots, getElem_put_self] at hgen hrec
    obtain ⟨r, hr, hst⟩ := hrec _ rfl
    obtain ⟨hcon, hiso, hent, hlim⟩ := s.grantedPermit_entry kind holder o
    rw [grant_results hr] at ho
    refine ⟨_, s.grantedPermit kind holder o, _, answers_of_owner rfl ho hrun, rfl, rfl, rfl, rfl, rfl, rfl, rfl, rfl, rfl,
      ?_, hcon, hiso, fun e => ?_, hlim, rfl, hset, hgen, ⟨r, hr, hst, ?_, stateWord_code _ _⟩, fun j hj => ?_⟩
    · exact beq_iff_eq
    · obtain ⟨h1, h2, h3⟩ := hent e
      refine ⟨h1, h2, h3, ?_⟩
      rw [State.settleWith_doorReleased, State.entryLive_iff]
      exact ⟨i, s.grantedPermit kind holder o, by rw [Holds, Fin.getElem_fin, hslots, getElem_put_self], e, h2⟩
    · show (((s.granting i kind holder o).settleWith (some i)).handleOf i).word = _
      rw [State.handleOf, Handle.word, Fin.getElem_fin, hgen]
      rfl
    · have := (s.granting i kind holder o).settleWith_slot (some i) j
      rw [hslots, getElem_put_ne _ _ _ _ hj] at this
      exact this

/-! ### AMEND -/

/-- The checks of an AMEND on a standing permit, written out (R26, R198). -/
theorem Permit.amendRefusal_eq (p : Permit) (o : AmendOps) (clock : SiteTime) : p.amendRefusal o clock =
    if p.state = .revoked then some .state
    else if o.fixedNamed = true ∨ (o.leaseSet ≠ none ∧ o.leaseRemove = true) ∨
        (o.expirySet ≠ none ∧ o.expiryRemove = true) ∨
        (o.limit = none ∧ o.leaseSet = none ∧ o.leaseRemove = false ∧ o.expirySet = none ∧ o.expiryRemove = false ∧
          o.autoReclose = none) ∨
        (o.limit ≠ none ∧ p.kind.hasLimit = false) ∨ (∃ l, o.limit = some l ∧ (l < 1 ∨ 8000 < l)) ∨
        (o.leaseSet ≠ none ∧ p.holder = .crew) ∨ (∃ l, o.leaseSet = some l ∧ (l < 1 ∨ 60 < l)) then some .field
    else if o.leaseRemove = true ∧ p.holder = .converter then some .lease
    else if (o.expirySet ≠ none ∧ (p.kind = .isolate ∨ p.kind = .entry)) ∨
        (∃ e, o.expirySet = some e ∧ (86399 < e.second ∨ e.day < clock.day ∨
          (e.day = clock.day ∧ e.second ≤ clock.second))) ∨
        (o.autoReclose ≠ none ∧ p.kind ≠ .connect) then some .field
    else none := by
  have merge : ∀ (a b : Prop) [Decidable a] [Decidable b] (x y : Option RefCode),
      (if a then x else if b then x else y) = if a ∨ b then x else y := by
    intro a b _ _ x y
    by_cases ha : a <;> simp [ha]
  have last : ∀ (a : Bool), refuseWhen a .field = if a = true then some .field else none := fun _ => rfl
  rw [Permit.amendRefusal]
  simp only [orElse_refuseWhen]
  simp only [last, merge, AmendOps.contradicts, AmendOps.anyChange,
    Bool.or_eq_true, Bool.and_eq_true, Bool.not_eq_true', Bool.or_eq_false_iff, beq_iff_eq, bne_iff_ne, outside_iff,
    expiryRefused_iff, Option.isSome_iff_ne_none, Option.isSome_eq_false_iff, Option.isNone_iff_eq_none, or_assoc,
    and_assoc, ne_eq]

/-- The changes of an AMEND, written out (R26). -/
theorem Permit.amended_eq (p : Permit) (o : AmendOps) (now : Nat) : p.amended o now =
    { p with
      limits := p.limits.map fun l => ⟨o.limit.getD l.requested, l.effective, l.rise⟩
      leasePeriod := if o.leaseRemove then none else if o.leaseSet.isSome then o.leaseSet else p.leasePeriod
      leaseEnd := if o.leaseRemove then none else if o.leaseSet.isSome then
        o.leaseSet.map (fun l => now + Config.sec l) else p.leaseEnd
      expiry := if o.expiryRemove then none else if o.expirySet.isSome then o.expirySet else p.expiry
      autoReclose := o.autoReclose.getD p.autoReclose } := by
  have hor : ∀ {α : Type} (x y : Option α), x.or y = if x.isSome then x else y := fun x y => by cases x <;> rfl
  simp only [Permit.amended, hor, Option.isSome_map]

theorem ownerAmend_refused {s : State} {h change op2 op3 op4 op5 : Word} {i : Fin 48} {p : Permit} {r : RefCode}
    (hn : Names s h i p) (hr : p.amendRefusal (AmendOps.decode change op2 op3 op4 op5) s.unit.clock = some r) :
    Refused (.amend h change op2 op3 op4 op5) s r :=
  refused_of_owner (owner := ownerAmend h change op2 op3 op4 op5) rfl (by simp only [ownerAmend, names_iff.1 hn, hr])

/-- What an AMEND leaves before its event settles. -/
theorem State.amendSlot_settledFrom (s : State) (i : Fin 48) (p : Permit) (o : AmendOps) :
    SettledFrom s (s.amendSlot i p o) := by
  simp only [State.amendSlot]
  split
  · obtain ⟨_, _, e⟩ := State.retargetSlot_frame (s.setPermit i (p.amended o s.now)) .amend i
    rw [e]
    exact settledFrom_of_blocks rfl
  · exact settledFrom_of_blocks rfl

/-- Settles O18. -/
theorem amendAppliesItsChanges : Obligations.AmendAppliesItsChanges := by
  intro s h change op2 op3 op4 op5 o c
  refine ⟨fun hs => refused_of_owner (owner := ownerAmend h change op2 op3 op4 op5) rfl
    (by rw [ownerAmend, stale_iff.1 hs]), fun i p hn => ?_⟩
  have hchk := p.amendRefusal_eq o s.unit.clock
  split
  · next h1 => rw [if_pos h1] at hchk; exact ownerAmend_refused hn hchk
  next h1 =>
  rw [if_neg h1] at hchk
  split
  · next h2 => rw [if_pos h2] at hchk; exact ownerAmend_refused hn hchk
  next h2 =>
  rw [if_neg h2] at hchk
  split
  · next h3 => rw [if_pos h3] at hchk; exact ownerAmend_refused hn hchk
  next h3 =>
  rw [if_neg h3] at hchk
  split
  · next h4 => rw [if_pos h4] at hchk; exact ownerAmend_refused hn hchk
  next h4 =>
  rw [if_neg h4] at hchk
  have hset := settledFrom_settle (s.amendSlot_settledFrom i p o)
  have ho : ownerAmend h change op2 op3 op4 op5 s =
      ((s.amendSlot i p o).settle, done (pack ((s.amendSlot i p o).settle.slotFields i))) := by
    simp only [ownerAmend, names_iff.1 hn, State.amendSlot]
    rw [hchk]
  have hrun : (s.amendSlot i p o).settle.runner = s.runner := by
    obtain ⟨-, -, -, -, -, e, -⟩ := hset
    exact e
  refine ⟨_, _, answers_of_owner rfl ho hrun, hset, ?_⟩
  rw [← Permit.amended_eq]
  rfl

end Sys2Proof.Machine
end

section
/-! PROOF. A PENDING ISOLATE in the settling of an event (O44). -/

namespace Sys2Proof.Machine

open Sys2Proof Sys2Proof.Safety Sys2Proof.Claims

/-! ### Records without limits -/

/-- A recomputed target leaves a record without limits. -/
theorem Permit.retarget_unlimited {p : Permit} (h : p.limits = none) (src : Source) (target now hold : Nat)
    (restr : Fin 8 × Cause) : p.retarget src target now hold restr = p := by
  simp only [Permit.retarget, h]

/-- The evaluation of the String Table leaves a record without limits. -/
theorem State.evaluateStage_unlimited {s : State} {i : Fin 48} {p : Permit} (hp : Holds s i p) (h : p.limits = none) :
    Holds s.evaluateStage i p := by
  cases hl : s.loaded with
  | false => rw [State.evaluateStage_unloaded s hl]; exact hp
  | true =>
    have e : s.evaluateAll.handedTo s.strings p = p := by
      rw [State.handedTo, State.retargeted, Permit.retarget_unlimited h, ite_self]
    have := (State.evaluateStage_updates s hl).holds hp
    rwa [e] at this

/-- The transmitter takes at most the notice mark of a record. -/
theorem State.linkStage_holds {s : State} {i : Fin 48} {p : Permit} (hp : Holds s i p) :
    ∃ q : Permit, Holds s.linkStage i q ∧ (q = p ∨ q = { p with notice := false }) :=
  (State.linkStage_rel (R := fun p q => q = p ∨ q = { p with notice := false }) (fun _ => .inl rfl) (fun _ => .inr rfl)
    s).forth hp

/-- The fire evaluation leaves an ISOLATE. -/
theorem State.fireAndAlarm_isolate {s : State} {i : Fin 48} {p : Permit} (hp : Holds s i p) (hk : p.kind = .isolate) :
    Holds s.fireAndAlarm i p := by
  have h := s.fireAndAlarm_updates.holds hp
  rwa [Permit.revokedWhere, if_neg (by simp [Permit.metByAlarm, hk])] at h

/-! ### Contactors -/

/-- A string that is FAILED, or OPEN with an unmet condition, keeps its contactor but for what its conditions are. -/
theorem State.connectStage_rests (s : State) (i : Fin 8)
    (h : (∃ r, s.contactors[i.val].state = .failed r) ∨
      (s.contactors[i.val].state = .opened ∧ (s.unmetOf i).isEmpty = false)) :
    s.connectStage.contactors[i.val] = { s.contactors[i.val] with
      unmet := s.unmetOf i, isolating := if s.contactors[i.val].fitted then s.isolatingOf i else none } := by
  have hc : s.connectString i = { s.contactors[i.val] with
      unmet := s.unmetOf i, isolating := if s.contactors[i.val].fitted then s.isolatingOf i else none } := by
    rcases h with ⟨r, h⟩ | ⟨h, hu⟩
    · simp only [State.connectString, Contactor.follow, Fin.getElem_fin, h]
    · simp only [State.connectString, Contactor.follow, Fin.getElem_fin, h, hu]
  have hat : AtRest (s.connectString i) := by
    rw [hc]
    rcases h with ⟨r, h⟩ | ⟨h, -⟩
    · exact .inr ⟨r, h⟩
    · exact .inl h
  rw [State.connectStage, State.arbitrate_atRest]
  · simpa only [State.freePath_contactors, getElem_tab8] using hc
  · simpa only [State.freePath_contactors, getElem_tab8] using hat

/-- A FAILED string is FAILED through the fire evaluation. -/
theorem State.fireAndAlarm_failed {s : State} {n : Fin 8} {r : ContactorFail} (h : s.contactors[n.val].state = .failed r) :
    s.fireAndAlarm.contactors[n.val] = s.contactors[n.val] := by
  rw [State.fireAndAlarm_contactor]
  split
  · rw [Contactor.openNow, h]
  · rfl

/-- The Permit Manager's state when a settling completes ISOLATE permits. -/
def State.beforeIsolation (s : State) : State := s.doorStage.fireAndAlarm.coolStage.connectStage

theorem State.beforeEvaluation_eq (s : State) (g : Option (Fin 48)) :
    s.beforeEvaluation g = s.beforeIsolation.isolateStage g := rfl

theorem State.settleWith_contactors (s : State) (g : Option (Fin 48)) :
    (s.settleWith g).contactors = s.beforeIsolation.contactors := by
  simp [State.settleWith_eq, State.beforeEvaluation, State.beforeIsolation]

/-- A FAILED string is FAILED after the settling of an event. -/
theorem State.beforeIsolation_failed {s : State} {n : Fin 8} {r : ContactorFail}
    (h : s.contactors[n.val].state = .failed r) : s.beforeIsolation.contactors[n.val].state = .failed r ∧
      s.beforeIsolation.contactors[n.val].fitted = s.contactors[n.val].fitted := by
  have hf : s.doorStage.fireAndAlarm.coolStage.contactors[n.val] = s.contactors[n.val] := by
    rw [State.coolStage_contactors]
    exact State.fireAndAlarm_failed (s := s.doorStage) h
  rw [State.beforeIsolation, State.connectStage_rests _ n (.inl ⟨r, by rw [hf]; exact h⟩), hf]
  exact ⟨h, rfl⟩

theorem State.scopeOpen_iff {s : State} {scope : BitVec 8} : s.scopeOpen scope = true ↔
    ∀ n : Fin 8, scope.getLsbD n.val = true → s.contactors[n.val].fitted = false ∨ s.contactors[n.val].state = .opened := by
  simp only [State.scopeOpen, List.all_eq_true, mem_allStrings, true_implies, inScope, Bool.or_eq_true, Bool.not_eq_true',
    beq_iff_eq, Fin.getElem_fin, or_assoc]
  refine forall_congr' fun n => ?_
  cases scope.getLsbD n.val <;> simp

/-! ### The completion -/

/-- A completion that is not part of the permit's own grant sets the PERMIT flag (R24, R35). -/
theorem State.isolateStage_flagged {s : State} {i : Fin 48} {p : Permit} {g : Option (Fin 48)} (hp : Holds s i p)
    (hc : p.kind = .isolate ∧ p.state = .pending ∧ s.scopeOpen p.scope) (hg : g ≠ some i) :
    (s.isolateStage g).flagged .permit = true := by
  have hfold : Holds (s.isolateStage g) i p ∨ (s.isolateStage g).flagged .permit = true := by
    refine foldl_keeps (fun t => Holds t i p ∨ t.flagged .permit = true) _ (fun t j ht => ?_) allSlots s (.inl hp)
    split
    · next q hq =>
      split
      · next hcq =>
        split
        · next hj =>
          have hij : i ≠ j := fun e => hg (e ▸ hj)
          refine ht.imp (fun h => ?_) id
          exact State.setPermit_holds.2 (by rw [if_neg hij]; exact h)
        · exact .inr (State.raise_flagged_self _ _)
      · exact ht
    · exact ht
  rcases hfold with h | h
  · have h' := (s.isolateStage_updates g).holds hp
    rw [Permit.completed, if_pos hc] at h'
    rw [Holds] at h h'
    rw [h] at h'
    have hs : p.state = .live := by rw [Option.some.inj h']
    rw [hc.2.1] at hs
    cases hs
  · exact h

/-- An ISOLATE without limits after the settling of an event: completed or not, and its notice mark perhaps taken. -/
theorem State.settleWith_isolate {s : State} {i : Fin 48} {p : Permit} (g : Option (Fin 48)) (hp : Holds s i p)
    (hk : p.kind = .isolate) (hl : p.limits = none) :
    let c := p.completed s.beforeIsolation.scopeOpen (g == some i)
    ∃ q : Permit, Holds (s.settleWith g) i q ∧ (q = c ∨ q = { c with notice := false }) := by
  have h1 : Holds s.beforeIsolation i p := by
    have := State.fireAndAlarm_isolate (s := s.doorStage) hp hk
    rwa [State.beforeIsolation, Holds.congr (State.connectStage_slots _), Holds.congr (State.coolStage_slots _)]
  have h2 : Holds (s.beforeEvaluation g) i (p.completed s.beforeIsolation.scopeOpen (g == some i)) := by
    rw [State.beforeEvaluation_eq]
    exact (State.isolateStage_updates s.beforeIsolation g).holds h1
  have hl2 : (p.completed s.beforeIsolation.scopeOpen (g == some i)).limits = none := by
    rw [Permit.completed]
    split <;> exact hl
  obtain ⟨q, hq, e⟩ := State.linkStage_holds (State.evaluateStage_unlimited h2 hl2)
  refine ⟨q, ?_, e⟩
  rwa [State.settleWith_eq, Holds.congr (State.startUpStage_slots _)]

/-- Settles O44. -/
theorem isolateCompletesWhenScopeIsOpen : Obligations.IsolateCompletesWhenScopeIsOpen := by
  intro s i p g t ht
  rw [ht]
  intro hp hk hs hl completed
  have hdone : completed ↔ s.beforeIsolation.scopeOpen p.scope = true := by
    rw [State.scopeOpen_iff]
    simp only [completed, State.settleWith_contactors, Fin.getElem_fin]
  obtain ⟨q, hq, e⟩ := State.settleWith_isolate g hp hk hl
  have hc : s.beforeIsolation.scopeOpen p.scope = true → p.completed s.beforeIsolation.scopeOpen (g == some i) =
      { p with state := .live, changed := p.changed || !(g == some i) } := fun h => by
    rw [Permit.completed, if_pos ⟨hk, hs, h⟩]
  have hn : ¬s.beforeIsolation.scopeOpen p.scope = true → p.completed s.beforeIsolation.scopeOpen (g == some i) = p :=
    fun h => by rw [Permit.completed, if_neg fun hall => h hall.2.2]
  have hnotice : (p.completed s.beforeIsolation.scopeOpen (g == some i)).notice = p.notice := by
    rw [Permit.completed]
    split <;> rfl
  have hq' : q = { p.completed s.beforeIsolation.scopeOpen (g == some i) with notice := q.notice } := by
    rcases e with e | e <;> rw [e]
  refine ⟨q, hq, fun h => ?_, fun hd hg => ⟨?_, ?_⟩, fun hd hg => ?_, fun hd => ?_, ?_⟩
  · rcases e with e | e
    · rw [e, hnotice, h]
    · rw [e]
  · rw [hc (hdone.1 hd), beq_eq_false_iff_ne.2 hg] at hq'
    simpa using hq'
  · have h1 : Holds s.beforeIsolation i p := by
      have := State.fireAndAlarm_isolate (s := s.doorStage) hp hk
      rwa [State.beforeIsolation, Holds.congr (State.connectStage_slots _), Holds.congr (State.coolStage_slots _)]
    have hflag := State.isolateStage_flagged h1 ⟨hk, hs, hdone.1 hd⟩ hg
    rw [State.settleWith_eq, State.beforeEvaluation_eq]
    exact State.startUpStage_keepsFlags _ _ ((State.linkStage_announces _).flags _
      ((State.evaluateStage_announces _).flags _ hflag))
  · rw [hc (hdone.1 hd), beq_iff_eq.2 hg] at hq'
    simpa using hq'
  · rwa [hn (hd ∘ hdone.2)] at hq'
  · rintro ⟨n, r, hsc, hfit, hfail⟩
    obtain ⟨hst, hf⟩ := State.beforeIsolation_failed (s := s) (n := n) hfail
    have hno : ¬s.beforeIsolation.scopeOpen p.scope = true := fun h => by
      rcases State.scopeOpen_iff.1 h n hsc with h | h
      · rw [hf] at h
        simp only [Fin.getElem_fin] at hfit
        rw [hfit] at h
        cases h
      · rw [hst] at h; cases h
    rw [hn hno] at hq'
    rw [hq', hs]

end Sys2Proof.Machine
end

section
/-! PROOF. What a frame of the converter does to the permit that its handle names (O46), and the transmitter (O48). -/

namespace Sys2Proof.Machine

open Sys2Proof Sys2Proof.Safety Sys2Proof.Claims

/-! ### A frame heard -/

/-- The state in which the Permit Manager takes a frame: the link is alive, and the DC-link value of a RENEW is stored. -/
def State.heard (s : State) (f : InFrame) : State := s.linkAlive.storeDc f

theorem State.linkAlive_frame (s : State) : ∃ x, s.linkAlive = { s with
    link := { s.link with state := .up (s.now + Config.ms (100 * s.unit.active.linkTimeout)), buffer := [] }
    attention := x } := by
  obtain ⟨x, e⟩ := State.raiseIf_frame (s.setLink { s.link with
    state := .up (s.now + Config.ms (100 * s.unit.active.linkTimeout)), buffer := [] }) (s.link.state == .down) .link
  exact ⟨x, e⟩

theorem State.storeDc_frame (s : State) (f : InFrame) : ∃ x y z, s.storeDc f =
    { s with link := { s.link with dc := x }, contactors := y, serving := z } := by
  simp only [State.storeDc]
  split
  · obtain ⟨y, z, e⟩ := State.checkMatch_frame (s.setLink { s.link with dc := some ⟨f.valueA.toNat, s.now, f.valueB.toInt⟩ })
    exact ⟨_, y, z, e⟩
  all_goals exact ⟨_, _, _, rfl⟩

/-- What hearing a frame leaves: permits, breaker, profile, envelopes and time. -/
theorem State.heard_frame (s : State) (f : InFrame) : ∃ w x y z, s.heard f = { s with
    link := { s.link with
      state := .up (s.now + Config.ms (100 * s.unit.active.linkTimeout)), buffer := [], dc := w }
    attention := x, contactors := y, serving := z } := by
  obtain ⟨x, e⟩ := s.linkAlive_frame
  obtain ⟨w, y, z, e'⟩ := s.linkAlive.storeDc_frame f
  rw [State.heard, e', e]
  exact ⟨w, x, y, z, rfl⟩

theorem State.heard_slots (s : State) (f : InFrame) : (s.heard f).slots = s.slots := by
  obtain ⟨_, _, _, _, e⟩ := s.heard_frame f
  rw [e]

theorem State.heard_breaker (s : State) (f : InFrame) : (s.heard f).breaker = s.breaker := by
  obtain ⟨_, _, _, _, e⟩ := s.heard_frame f
  rw [e]

theorem State.heard_now (s : State) (f : InFrame) : (s.heard f).now = s.now := by
  obtain ⟨_, _, _, _, e⟩ := s.heard_frame f
  rw [e]

theorem State.heard_envelopeSum (s : State) (f : InFrame) : (s.heard f).envelopeSum = s.envelopeSum := by
  obtain ⟨_, _, _, _, e⟩ := s.heard_frame f
  rw [e]
  rfl

theorem State.heard_resolve (s : State) (f : InFrame) (h : Handle) : (s.heard f).resolve h = s.resolve h := by
  simp only [State.resolve, State.heard_slots]

/-- A RENEW stores its DC-link report (R170). -/
theorem State.heard_dc (s : State) (f : InFrame) (h : f.kind = .renew) :
    (s.heard f).link.dc = some ⟨f.valueA.toNat, s.now, f.valueB.toInt⟩ := by
  obtain ⟨x, e⟩ := s.linkAlive_frame
  rw [State.heard, State.storeDc, h]
  obtain ⟨_, _, e'⟩ := State.checkMatch_frame (s.linkAlive.setLink { s.linkAlive.link with
    dc := some ⟨f.valueA.toNat, s.linkAlive.now, f.valueB.toInt⟩ })
  rw [e', e]
  rfl

/-- A link that was DOWN announces that it is UP (R171). -/
theorem State.heard_flagged (s : State) (f : InFrame) (h : s.link.state = .down) :
    (s.heard f).flagged .link = true := by
  have halive : s.linkAlive.flagged .link = true := State.raiseIf_flagged_self _ _ _ (by rw [h]; rfl)
  obtain ⟨_, _, _, e⟩ := s.linkAlive.storeDc_frame f
  rw [State.heard, e]
  exact halive

/-! ### A frame answered -/

/-- A change of permits, breaker and attention alone, that keeps the flags. -/
structure State.Permitted (s t : State) : Prop where
  frame : t = { s with slots := t.slots, breaker := t.breaker, attention := t.attention }
  flags : s.KeepsFlags t

theorem State.Permitted.refl (s : State) : s.Permitted s := ⟨rfl, .refl s⟩

/-- A frame that finds room for its reply, and what the Permit Manager answers. -/
theorem replied_of_permitFrame {s x : State} {c : Instr} {f : InFrame} {a : FrameAnswer}
    (he : exec c s = .next (s.takeFrame f)) (hr : s.link.rate.isSome = true) (hq : s.link.queue.length < 4)
    (hp : (s.heard f).permitFrame f.kind f.handle f.valueA = (x, a)) (hx : (s.heard f).Permitted x) :
    Replied c s (x.enqueue (a.reply f)) (a.reply f) := by
  have hrate : s.link.rate.isNone = false := by rw [← Option.not_isSome, hr]; rfl
  have hserve : s.linkAlive.serveFrame f = x.enqueue (a.reply f) := by
    have := hp
    rw [State.heard] at this
    simp only [State.serveFrame, this]
  have hex : exec c s = .next (x.enqueue (a.reply f)).settle := by
    rw [he, State.takeFrame, hrate, if_neg (by simp), if_neg (by omega), hserve]
  obtain ⟨w, y, z, v, e⟩ := s.heard_frame f
  have hf := hx.frame
  refine ⟨settles_of_exec hex, ?_, ?_, fun h => ?_⟩
  · rw [State.enqueue, State.setLink, hf, e]
  · rw [State.enqueue, State.setLink_link, hf, e]
  · exact hx.flags _ (s.heard_flagged f h)

section

variable {s : State} {kind : InKind} {h : Handle} {v : Word} {i : Fin 48} {p : Permit}

/-- A stale handle is answered STALE (site law 12). -/
theorem State.permitFrame_stale (hr : s.resolve h = none) : s.permitFrame kind h v = (s, ⟨0, 0, .stale⟩) := by
  simp only [State.permitFrame, hr]

/-- Another holder's permit is answered HOLDER. -/
theorem State.permitFrame_holder (hr : s.resolve h = some (i, p)) (hh : p.holder ≠ .converter) :
    s.permitFrame kind h v = (s, p.answerWith .holder) := by
  simp only [State.permitFrame, hr, ne_eq, hh, not_false_eq_true, if_true]

theorem State.permitFrame_query (hr : s.resolve h = some (i, p)) (hh : p.holder = .converter) :
    s.permitFrame .query h v = (s, p.answerWith p.reported) := by
  simp only [State.permitFrame, hr, ne_eq, hh, not_true_eq_false, if_false]

theorem State.permitFrame_handback (hr : s.resolve h = some (i, p)) (hh : p.holder = .converter) :
    s.permitFrame .handback h v = ((s.retireSlot i).raise .permit, ⟨0, 0, .handback⟩) := by
  simp only [State.permitFrame, hr, ne_eq, hh, not_true_eq_false, if_false]

theorem State.permitFrame_renew (hr : s.resolve h = some (i, p)) (hh : p.holder = .converter) :
    s.permitFrame .renew h v = (if p.state = .revoked then s else s.setPermit i (p.renewed s.now),
      p.answerWith p.reported) := by
  simp only [State.permitFrame, hr, ne_eq, hh, not_true_eq_false, if_false]
  split <;> rfl

theorem State.permitFrame_reduce (hr : s.resolve h = some (i, p)) (hh : p.holder = .converter) :
    s.permitFrame .reduce h v =
      if p.state = .revoked then (s, p.answerWith p.reported) else s.takeReduce i p v.toNat := by
  simp only [State.permitFrame, hr, ne_eq, hh, not_true_eq_false, if_false]

end

theorem State.setPermit_permitted (s : State) (i : Fin 48) (p : Permit) : s.Permitted (s.setPermit i p) := ⟨rfl, .of_eq rfl⟩

theorem State.retire_permitted {s : State} {i : Fin 48} {p : Permit} (hp : Holds s i p) :
    s.Permitted ((s.retireSlot i).raise .permit) := by
  refine ⟨?_, ?_⟩
  · obtain ⟨_, _, _, e⟩ := s.retireSlot_frame i
    rw [e]
    rfl
  · rw [State.retireSlot_eq hp]
    exact ((State.KeepsFlags.of_eq (t := s.setSlot i ⟨s.slots[i].generation + 1, none⟩) rfl).trans
      (State.connectGone_announces _ p false).flags).trans (State.raise_keepsFlags _ .permit)

theorem State.reduceSlot_permitted (s : State) (i : Fin 48) (p : Permit) (limit : Nat) :
    s.Permitted (s.reduceSlot i p limit) := by
  refine ⟨?_, ?_⟩
  · obtain ⟨_, _, e⟩ := State.retargetSlot_frame
      (s.setPermit i { p with limits := p.limits.map fun l => ⟨limit, l.effective, l.rise⟩ }) .reduce i
    rw [State.reduceSlot, e]
    rfl
  · exact (s.setPermit_permitted i _).flags.trans (State.retargetSlot_announces _ .reduce i).flags

/-- The record of a REDUCE that is not refused, before its target is recomputed (R28). -/
def Permit.reduced (p : Permit) (limit : Nat) : Permit :=
  { p with limits := p.limits.map fun l => ⟨limit, l.effective, l.rise⟩ }

/-- The slots after a REDUCE that is not refused. -/
theorem State.reduceSlot_slots (s : State) (i : Fin 48) (p : Permit) (limit : Nat) :
    (s.reduceSlot i p limit).slots = put s.slots i ⟨s.slots[i.val].generation, some (s.retargeted .reduce (p.reduced limit))⟩ := by
  have hh : Holds (s.setPermit i (p.reduced limit)) i (p.reduced limit) := State.setPermit_holds.2 (by rw [if_pos rfl])
  have ht : (s.setPermit i (p.reduced limit)).retargeted .reduce = s.retargeted .reduce :=
    State.retargeted_congr rfl rfl rfl .reduce
  have e : s.reduceSlot i p limit = (s.setPermit i (p.reduced limit)).retargetSlot .reduce i := rfl
  rw [e, State.retargetSlot_eq hh, ht]
  simp [State.setPermit, State.setSlot, put]

/-- What a REDUCE that is not refused does to its record (R11, R28). -/
theorem State.reduced_spec (s : State) {p : Permit} {limit : Nat} (h0 : 0 < limit) (hl : limit ≤ p.requested)
    (hs : p.state ≠ .revoked) :
    let q := s.retargeted .reduce (p.reduced limit)
    q.requested = limit ∧ Stands p q ∧ (p.state = .live ∨ p.state = .suspended → ∀ l, p.limits = some l →
      let target := min limit (s.envelopeSum p.kind p.scope)
      (target < l.effective → q.limits = some ⟨limit, target, none⟩ ∧ q.changed = true ∧
        q.state = if target = 0 then .suspended else p.state) ∧
      (l.effective ≤ target → q.effective = l.effective ∧ q.state = p.state)) := by
  intro q
  have hf : (p.reduced limit).Follows q := Permit.retarget_follows _ _ _ _ _ _
  refine ⟨?_, stands_trans (Permit.remains_of_standing hs rfl rfl rfl (by simp)).stands hf.remains.stands,
    fun hst l hlim => ?_⟩
  · rw [hf.requested]
    cases hlim : p.limits with
    | none => simp only [Permit.requested, hlim] at hl; omega
    | some l => simp only [Permit.requested, Permit.reduced, hlim, Option.map_some]
  · intro target
    have hlim' : (p.reduced limit).limits = some ⟨limit, l.effective, l.rise⟩ := by
      simp only [Permit.reduced, hlim, Option.map_some]
    have ht : s.targetOf (p.reduced limit) = target := by rw [State.targetOf, Permit.requested_eq hlim']; rfl
    have hlo : (p.reduced limit).liveOrSuspended = true := (Permit.liveOrSuspended_iff p).2 hst
    refine ⟨fun hlt => ?_, fun hge => ?_⟩
    · have e : q = (p.reduced limit).applyFall ⟨limit, l.effective, l.rise⟩ .reduce target (s.restricting p.scope) := by
        simp only [q, State.retargeted, ht, Permit.retarget, hlim', hlo, Bool.not_true, Bool.false_eq_true, if_false,
          if_pos hlt]
        rfl
      obtain ⟨h1, h2, -, -, h5, h6⟩ := Permit.applyFall_spec (p := p.reduced limit) ⟨limit, l.effective, l.rise⟩ .reduce
        target (s.restricting p.scope)
      rw [e]
      refine ⟨h1, h2.2 (.inr (by simp)), ?_⟩
      split
      · next hz =>
        rcases hst with hst | hst
        · exact (h5 hz hst).1
        · exact (h6 (.inr hst)).1.trans hst
      · next hz => exact (h6 (.inl (Nat.pos_of_ne_zero hz))).1
    · have e : q = (p.reduced limit).applyRise ⟨limit, l.effective, l.rise⟩ .reduce target s.now
          (Config.sec s.unit.active.riseHold) (s.restricting p.scope) := by
        simp only [q, State.retargeted, ht, Permit.retarget, hlim', hlo, Bool.not_true, Bool.false_eq_true, if_false,
          if_neg (Nat.not_lt.2 hge)]
        rfl
      rw [e, Permit.applyRise_eq]
      exact ⟨rfl, rfl⟩

/-! ### The frames -/

/-- The frame that each of the four rows of the table is. -/
theorem frame_of_row {s : State} {slot gen tag : Byte} {a b : Word} {c : Instr}
    (h : c = .renewFrame slot gen a b tag ∨ c = .reduceFrame slot gen a tag ∨ c = .handbackFrame slot gen tag ∨
      c = .queryFrame slot gen tag) :
    ∃ kind v w, exec c s = .next (s.takeFrame ⟨kind, ⟨slot, gen⟩, v, w, tag⟩) := by
  rcases h with rfl | rfl | rfl | rfl
  · exact ⟨.renew, a, b, rfl⟩
  · exact ⟨.reduce, a, 0, rfl⟩
  · exact ⟨.handback, 0, 0, rfl⟩
  · exact ⟨.query, 0, 0, rfl⟩

/-- The handle of a word made of its two bytes. -/
theorem ofWord_append (slot gen : Byte) : Handle.ofWord (gen ++ slot) = ⟨slot, gen⟩ :=
  congrArg₂ Handle.mk BitVec.extractLsb'_append_eq_right BitVec.extractLsb'_append_eq_left

/-- A frame with a stale handle (site law 12). -/
theorem stale_replied {s : State} {slot gen tag : Byte} {a b : Word} {c : Instr} (hr : s.link.rate.isSome = true)
    (hq : s.link.queue.length < 4) (h : c = .renewFrame slot gen a b tag ∨ c = .reduceFrame slot gen a tag ∨
      c = .handbackFrame slot gen tag ∨ c = .queryFrame slot gen tag) (hs : s.resolve ⟨slot, gen⟩ = none) :
    ∃ u, Replied c s u ⟨.state, ⟨slot, gen⟩, 0, 0, 12, tag⟩ ∧ u.slots = s.slots ∧ u.breaker = s.breaker := by
  obtain ⟨kind, v, w, he⟩ := frame_of_row (s := s) h
  have hp := State.permitFrame_stale (kind := kind) (v := v)
    ((s.heard_resolve ⟨kind, ⟨slot, gen⟩, v, w, tag⟩ ⟨slot, gen⟩).trans hs)
  exact ⟨_, replied_of_permitFrame he hr hq hp (.refl _), State.heard_slots _ _, State.heard_breaker _ _⟩

/-- A frame for the permit of another holder. -/
theorem holder_replied {s : State} {slot gen tag : Byte} {a b : Word} {c : Instr} {i : Fin 48} {p : Permit}
    (hr : s.link.rate.isSome = true) (hq : s.link.queue.length < 4) (h : c = .renewFrame slot gen a b tag ∨
      c = .reduceFrame slot gen a tag ∨ c = .handbackFrame slot gen tag ∨ c = .queryFrame slot gen tag)
    (hs : s.resolve ⟨slot, gen⟩ = some (i, p)) (hh : p.holder ≠ .converter) :
    ∃ u, Replied c s u ⟨.state, ⟨slot, gen⟩, p.effective, BitVec.ofNat 8 p.state.code, BitVec.ofNat 8 13, tag⟩ ∧
      u.slots = s.slots := by
  obtain ⟨kind, v, w, he⟩ := frame_of_row (s := s) h
  have hp := State.permitFrame_holder (kind := kind) (v := v)
    ((s.heard_resolve ⟨kind, ⟨slot, gen⟩, v, w, tag⟩ ⟨slot, gen⟩).trans hs) hh
  exact ⟨_, replied_of_permitFrame he hr hq hp (.refl _), State.heard_slots _ _⟩

section

variable {s : State} {slot gen tag : Byte} {i : Fin 48} {p : Permit}

/-- A HANDBACK retires the permit (R30). -/
theorem handback_replied (hr : s.link.rate.isSome = true) (hq : s.link.queue.length < 4)
    (hs : s.resolve ⟨slot, gen⟩ = some (i, p)) (hh : p.holder = .converter) :
    ∃ u, Replied (.handbackFrame slot gen tag) s u ⟨.state, ⟨slot, gen⟩, 0, 0, 11, tag⟩ ∧
      u.slots[i.val] = ⟨s.slots[i.val].generation + 1, none⟩ ∧ (∀ j : Fin 48, j ≠ i → u.slots[j.val] = s.slots[j.val]) ∧
      u.flagged .permit = true := by
  have hn := ((s.heard_resolve ⟨.handback, ⟨slot, gen⟩, 0, 0, tag⟩ ⟨slot, gen⟩).trans hs)
  obtain ⟨-, hp, -⟩ := (State.resolve_eq_some _ _ _ _).1 hn
  have hslots := State.retireSlot_slots_self _ i p hp
  refine ⟨_, replied_of_permitFrame (f := ⟨.handback, ⟨slot, gen⟩, 0, 0, tag⟩) rfl hr hq (State.permitFrame_handback hn hh)
    (State.retire_permitted hp), ?_, fun j hj => ?_, State.raise_flagged_self _ _⟩
  · rw [State.enqueue, State.setLink_slots, State.raise_slots, hslots, getElem_put_self, State.heard_slots]
  · rw [State.enqueue, State.setLink_slots, State.raise_slots, hslots, getElem_put_ne _ _ _ _ hj, State.heard_slots]

/-- A RENEW restarts the lease of a standing permit (R15). -/
theorem renew_replied {a b : Word} (hr : s.link.rate.isSome = true) (hq : s.link.queue.length < 4)
    (hs : s.resolve ⟨slot, gen⟩ = some (i, p)) (hh : p.holder = .converter) :
    ∃ u, Replied (.renewFrame slot gen a b tag) s u
        ⟨.state, ⟨slot, gen⟩, p.effective, BitVec.ofNat 8 p.state.code, BitVec.ofNat 8 p.reported.code, tag⟩ ∧
      u.link.dc = some ⟨a.toNat, s.now, b.toInt⟩ ∧
      u.slots[i.val] = ⟨s.slots[i.val].generation, some
        (if p.state = .revoked then p
          else { p with leaseEnd := p.leasePeriod.map fun l => s.now + Config.sec l })⟩ ∧
      ∀ j : Fin 48, j ≠ i → u.slots[j.val] = s.slots[j.val] := by
  have hn := ((s.heard_resolve ⟨.renew, ⟨slot, gen⟩, a, b, tag⟩ ⟨slot, gen⟩).trans hs)
  obtain ⟨-, hp, -⟩ := (State.resolve_eq_some _ _ _ _).1 hs
  have hdc := s.heard_dc ⟨.renew, ⟨slot, gen⟩, a, b, tag⟩ rfl
  have hren := State.permitFrame_renew (v := a) hn hh
  by_cases hst : p.state = .revoked
  · rw [if_pos hst] at hren
    refine ⟨_, replied_of_permitFrame (f := ⟨.renew, ⟨slot, gen⟩, a, b, tag⟩) rfl hr hq hren (.refl _), hdc, ?_,
      fun j hj => ?_⟩
    · rw [State.enqueue, State.setLink_slots, State.heard_slots, if_pos hst, ← hp]
    · rw [State.enqueue, State.setLink_slots, State.heard_slots]
  · rw [if_neg hst] at hren
    refine ⟨_, replied_of_permitFrame (f := ⟨.renew, ⟨slot, gen⟩, a, b, tag⟩) rfl hr hq hren (State.setPermit_permitted _ _ _),
      hdc, ?_, fun j hj => ?_⟩
    · rw [State.enqueue, State.setLink_slots, State.setPermit_slots, getElem_put_self, if_neg hst, State.heard_now,
        State.heard_slots]
      rfl
    · rw [State.enqueue, State.setLink_slots, State.setPermit_slots, getElem_put_ne _ _ _ _ hj, State.heard_slots]

/-- A REDUCE that changes nothing: of a REVOKED permit, to 0, or above the request (R28). -/
theorem reduce_refused {a : Word} {r : Report} (hr : s.link.rate.isSome = true) (hq : s.link.queue.length < 4)
    (hs : s.resolve ⟨slot, gen⟩ = some (i, p)) (hh : p.holder = .converter)
    (h : ∀ t : State, (if p.state = .revoked then (t, p.answerWith p.reported) else t.takeReduce i p a.toNat) =
      (t, p.answerWith r)) :
    ∃ u, Replied (.reduceFrame slot gen a tag) s u
        ⟨.state, ⟨slot, gen⟩, p.effective, BitVec.ofNat 8 p.state.code, BitVec.ofNat 8 r.code, tag⟩ ∧
      u.slots = s.slots := by
  have hn := ((s.heard_resolve ⟨.reduce, ⟨slot, gen⟩, a, 0, tag⟩ ⟨slot, gen⟩).trans hs)
  exact ⟨_, replied_of_permitFrame (f := ⟨.reduce, ⟨slot, gen⟩, a, 0, tag⟩) rfl hr hq
    ((State.permitFrame_reduce hn hh).trans (h _)) (.refl _), State.heard_slots _ _⟩

/-- A REDUCE that lowers the request (R28). -/
theorem reduce_replied {a : Word} (hr : s.link.rate.isSome = true) (hq : s.link.queue.length < 4)
    (hs : s.resolve ⟨slot, gen⟩ = some (i, p)) (hh : p.holder = .converter) (hst : p.state ≠ .revoked)
    (h0 : 0 < a.toNat) (hle : a.toNat ≤ p.requested) :
    let f : InFrame := ⟨.reduce, ⟨slot, gen⟩, a, 0, tag⟩
    let q := (s.heard f).retargeted .reduce (p.reduced a.toNat)
    ∃ u, Replied (.reduceFrame slot gen a tag) s u
        ⟨.state, ⟨slot, gen⟩, q.effective, BitVec.ofNat 8 q.state.code, BitVec.ofNat 8 q.reported.code, tag⟩ ∧
      u.slots[i.val] = ⟨s.slots[i.val].generation, some q⟩ ∧ ∀ j : Fin 48, j ≠ i → u.slots[j.val] = s.slots[j.val] := by
  intro f q
  have hn := ((s.heard_resolve f ⟨slot, gen⟩).trans hs)
  have hslots := (s.heard f).reduceSlot_slots i p a.toNat
  have hans : ((s.heard f).reduceSlot i p a.toNat).answerOf i = q.answerWith q.reported := by
    simp only [State.answerOf, Fin.getElem_fin, hslots, getElem_put_self]
    rfl
  have hred : (s.heard f).permitFrame .reduce ⟨slot, gen⟩ a =
      ((s.heard f).reduceSlot i p a.toNat, q.answerWith q.reported) := by
    rw [State.permitFrame_reduce hn hh, if_neg hst, State.takeReduce, if_neg (by omega), if_neg (by omega), hans]
  refine ⟨_, replied_of_permitFrame (f := f) rfl hr hq hred (State.reduceSlot_permitted _ _ _ _), ?_, fun j hj => ?_⟩
  · rw [State.enqueue, State.setLink_slots, hslots, getElem_put_self, State.heard_slots]
  · rw [State.enqueue, State.setLink_slots, hslots, getElem_put_ne _ _ _ _ hj, State.heard_slots]

end

/-- Settles O46. -/
theorem framesActOnPermitsByHandle : Obligations.FramesActOnPermitsByHandle := by
  refine ⟨fun s slot gen tag a b c hr hq hc hs => ?_, fun s slot gen tag a b i p hr hq hn => ?_⟩
  · rw [stale_iff, ofWord_append] at hs
    exact stale_replied hr hq hc hs
  · rw [names_iff, ofWord_append] at hn
    refine ⟨fun c hc hh => holder_replied hr hq hc hn hh, fun hh => ⟨?_, handback_replied hr hq hn hh,
      renew_replied hr hq hn hh, fun hst => ?_, fun hst h0 => ?_, fun hst hlt => ?_, fun hst h0 hle => ?_⟩⟩
    · have hp := (s.heard_resolve ⟨.query, ⟨slot, gen⟩, 0, 0, tag⟩ ⟨slot, gen⟩).trans hn
      exact ⟨_, replied_of_permitFrame (f := ⟨.query, ⟨slot, gen⟩, 0, 0, tag⟩) rfl hr hq
        (State.permitFrame_query hp hh) (.refl _), State.heard_slots _ _⟩
    · exact reduce_refused hr hq hn hh fun t => by rw [if_pos hst]
    · exact reduce_refused (r := .field) hr hq hn hh fun t => by
        rw [if_neg hst, State.takeReduce, h0]
        rfl
    · exact reduce_refused (r := .raise) hr hq hn hh fun t => by
        rw [if_neg hst, State.takeReduce, if_neg (by omega), if_pos hlt]
    · obtain ⟨u, hu, hself, hother⟩ := reduce_replied (tag := tag) hr hq hn hh hst h0 hle
      obtain ⟨hreq, hstands, hspec⟩ := (s.heard ⟨.reduce, ⟨slot, gen⟩, a, 0, tag⟩).reduced_spec h0 hle hst
      rw [State.heard_envelopeSum] at hspec
      exact ⟨u, _, hu, hself, hother, hreq, hstands, hspec⟩

/-! ### The transmitter -/

/-- An idle transmitter with a waiting reply (R167). -/
theorem State.linkStage_reply {s : State} {f : OutFrame} {rest : List OutFrame} {r : Rate}
    (ht : s.link.transmitter = .idle) (hr : s.link.rate = some r) (hq : s.link.queue = f :: rest) :
    s.linkStage = { s with link := { s.link with queue := rest, transmitter := .sending f r s.now } } := by
  simp only [State.linkStage, ht, hr, hq]

/-- An idle transmitter with nothing to send. -/
theorem State.linkStage_quiet {s : State} (hq : s.link.queue = [])
    (h : s.link.state = .down ∨ ∀ i p, Holds s i p → p.notice = false) : s.linkStage = s := by
  have hn : (∀ i p, Holds s i p → p.notice = false) → s.nextNotice = none := State.findPermit_none
  simp only [State.linkStage, hq]
  split
  · rcases h with h | h
    · rw [h]
    · rw [hn h]
      cases s.link.state <;> rfl
  · rfl

/-- An idle transmitter with a LIMIT notice due (R167, R169). -/
theorem State.linkStage_notice {s : State} {i : Fin 48} {p : Permit} {r : Rate} {u : Nat}
    (ht : s.link.transmitter = .idle) (hr : s.link.rate = some r) (hq : s.link.queue = []) (hs : s.link.state = .up u)
    (hp : Holds s i p) (hn : p.notice = true) (hlow : ∀ j q, j < i → Holds s j q → q.notice = false) :
    s.linkStage = s.sendNotice i p r := by
  have hnext : s.nextNotice = some i := State.findPermit_lowest hp hn hlow
  rw [Holds] at hp
  simp only [State.linkStage, ht, hr, hq, hs, hnext, hp]

theorem execTransmitGapEnd_eq {s : State} {e : Nat} (h : s.link.transmitter = .gap e) :
    exec .transmitGapEnd s = .next (s.setLink { s.link with transmitter := .idle }).linkStage := by
  show execTransmitGapEnd s = _
  simp only [execTransmitGapEnd, h]

/-- Settles O48. -/
theorem transmitterTakesRepliesThenNotices : Obligations.TransmitterTakesRepliesThenNotices := by
  intro s
  refine ⟨fun e he => settles_of_exec ?_, fun f r x ht => ?_, fun e r ht hr => ⟨fun f rest hq => ?_, fun hq h => ?_,
    fun i p u hq hs hp hn hlow => ?_⟩⟩
  · show execLinkTimeout s = _
    simp only [execLinkTimeout, he]
    rfl
  · show execFrameSent s = _
    simp only [execFrameSent, ht]
    cases r <;> rfl
  · rw [execTransmitGapEnd_eq ht, State.linkStage_reply (s := s.setLink { s.link with transmitter := .idle }) (r := r) rfl hr hq]
    rfl
  · rw [execTransmitGapEnd_eq ht, State.linkStage_quiet (s := s.setLink { s.link with transmitter := .idle }) hq h]
    rfl
  · rw [execTransmitGapEnd_eq ht, State.linkStage_notice (s := s.setLink { s.link with transmitter := .idle }) (r := r) rfl hr hq hs hp hn hlow]
    exact ⟨_, rfl, rfl, rfl⟩

end Sys2Proof.Machine
end

section
/-! PROOF. A bay's entry to an alarm state in the settling of an event (O41). -/

namespace Sys2Proof.Machine

open Sys2Proof Sys2Proof.Safety Sys2Proof.Claims

/-! ### The breaker -/

theorem Breaker.trip_armed (b : Breaker) (x : Bool) (now : Nat) :
    ({ b with armed := x } : Breaker).trip now = { b.trip now with armed := x } := by
  obtain ⟨st, t, c, cp, op, f, g, r, ga, a⟩ := b
  cases st with
  | closing | closed => cases f <;> rfl
  | opened | opening | tripped | failed => rfl

/-- A breaker that has been tripped is tripped no further. -/
theorem Breaker.trip_trip (b : Breaker) (now : Nat) : (b.trip now).trip now = b.trip now := by
  obtain ⟨st, t, c, cp, op, f, g, r, ga, a⟩ := b
  cases st with
  | closing | closed => cases f <;> rfl
  | opened | opening | tripped | failed => rfl

/-- A breaker that stands or has been tripped, auto-reclose aside. -/
def Breaker.MayTrip (now : Nat) (b c : Breaker) : Prop :=
  ∃ x, c = { b with armed := x } ∨ c = { b.trip now with armed := x }

theorem Breaker.MayTrip.refl (now : Nat) (b : Breaker) : b.MayTrip now b := ⟨b.armed, .inl rfl⟩

theorem Breaker.MayTrip.trans {now : Nat} {a b c : Breaker} (h : a.MayTrip now b) (k : b.MayTrip now c) :
    a.MayTrip now c := by
  obtain ⟨x, h⟩ := h
  obtain ⟨y, k⟩ := k
  rcases h with rfl | rfl <;> rcases k with rfl | rfl
  · exact ⟨y, .inl rfl⟩
  · exact ⟨y, .inr (by rw [Breaker.trip_armed])⟩
  · exact ⟨y, .inr rfl⟩
  · exact ⟨y, .inr (by rw [Breaker.trip_armed, Breaker.trip_trip])⟩

/-- A breaker that is tripped, whatever it has been through. -/
theorem Breaker.MayTrip.trip {now : Nat} {a b : Breaker} (h : a.MayTrip now b) :
    ∃ x, b.trip now = { a.trip now with armed := x } := by
  obtain ⟨x, rfl | rfl⟩ := h
  · exact ⟨x, a.trip_armed x now⟩
  · exact ⟨x, by rw [Breaker.trip_armed, Breaker.trip_trip]⟩

/-- A change that leaves the time and at most trips the breaker. -/
def State.MayTrip (s t : State) : Prop := t.now = s.now ∧ s.breaker.MayTrip s.now t.breaker

theorem State.MayTrip.refl (s : State) : s.MayTrip s := ⟨rfl, .refl _ _⟩

theorem State.MayTrip.trans {s t u : State} (h : s.MayTrip t) (k : t.MayTrip u) : s.MayTrip u := by
  obtain ⟨hn, hb⟩ := h
  obtain ⟨kn, kb⟩ := k
  rw [hn] at kb
  exact ⟨kn.trans hn, hb.trans kb⟩

theorem State.MayTrip.of_eq {s t : State} (hn : t.now = s.now) (hb : t.breaker = s.breaker) : s.MayTrip t :=
  ⟨hn, by rw [hb]; exact .refl _ _⟩

theorem State.revokeSlot_mayTrip (s : State) (i : Fin 48) : s.MayTrip (s.revokeSlot .fire false i) := by
  simp only [State.revokeSlot]
  split
  · exact .refl s
  · next p _ =>
    split
    · refine State.MayTrip.trans (t := (s.setPermit i (p.revoked .fire false s.now
        (Config.sec s.unit.active.revokedHold))).raise .permit) (.of_eq (by simp) (by simp)) ?_
      rw [State.connectGone]
      split
      · exact ⟨by simp, false, .inr (by simp [State.arm, State.tripBreaker])⟩
      · exact .refl _
    · exact .refl s

theorem State.revokeWhere_mayTrip (s : State) (f : Permit → Bool) : s.MayTrip (s.revokeWhere f .fire) := by
  refine foldl_rel State.MayTrip .refl (fun _ _ _ => .trans) _ (fun t i => ?_) _ s
  split
  · split
    · exact t.revokeSlot_mayTrip i
    · exact .refl t
  · exact .refl t

/-- An alarm entry trips the breaker (R155). -/
theorem State.alarmEntry_breaker (s : State) (k : Fin 4) :
    ∃ x, (s.alarmEntry k).breaker = { s.breaker.trip s.now with armed := x } := by
  obtain ⟨hn, hb⟩ := s.revokeWhere_mayTrip (·.metByAlarm k)
  obtain ⟨x, e⟩ := hb.trip
  refine ⟨x, ?_⟩
  rw [← e, ← hn]
  simp [State.alarmEntry, State.tripBreaker, Permit.metByAlarm]

theorem State.alarmEntry_now (s : State) (k : Fin 4) : (s.alarmEntry k).now = s.now := by
  obtain ⟨_, _, _, _, _, e⟩ := s.alarmEntry_frame k
  rw [e]

theorem State.alarmEntry_mayTrip (s : State) (k : Fin 4) : s.MayTrip (s.alarmEntry k) := by
  obtain ⟨x, e⟩ := s.alarmEntry_breaker k
  exact ⟨s.alarmEntry_now k, x, .inr e⟩

/-- Some alarm entry trips the breaker. -/
theorem State.alarmStage_breaker (s : State) {l : List (Fin 4)} {k : Fin 4} (hk : k ∈ l) :
    ∃ x, (s.alarmStage l).breaker = { s.breaker.trip s.now with armed := x } := by
  cases l with
  | nil => cases hk
  | cons j l =>
    obtain ⟨x, e⟩ := s.alarmEntry_breaker j
    obtain ⟨-, y, h⟩ := foldl_rel State.MayTrip .refl (fun _ _ _ => .trans) State.alarmEntry
      (fun t i => t.alarmEntry_mayTrip i) l (s.alarmEntry j)
    refine ⟨y, ?_⟩
    rw [State.alarmEntry_now, e] at h
    rw [State.alarmStage, List.foldl_cons]
    rcases h with h | h
    · exact h
    · rw [h, Breaker.trip_armed, Breaker.trip_trip]

/-- What a trip makes of a breaker, by its state (R155). -/
theorem Breaker.trip_spec (b : Breaker) (now : Nat) :
    (b.state = .closed ∨ (∃ e, b.state = .closing e) →
      (b.trip now).commandedClosed = false ∧ (b.trip now).closePulse = false ∧
      (b.trip now).state.code ≠ b.state.code ∧
      (b.feedback = true → (b.trip now).state = .opening .trip (now + Config.ms 300) ∧ (b.trip now).openPulse = true) ∧
      (b.feedback = false → (b.trip now).state = .tripped ∧ (b.trip now).openPulse = false)) ∧
    (∀ kind e, b.state = .opening kind e →
      (b.trip now).state = .opening .trip e ∧ (b.trip now).openPulse = b.openPulse) ∧
    (b.state = .opened → (b.trip now).state = .tripped ∧ (b.trip now).closePulse = false ∧
      (b.trip now).openPulse = false) ∧
    (b.state = .tripped → (b.trip now).state = .tripped) ∧
    (∀ r, b.state = .failed r → (b.trip now).state = .failed r) ∧
    (b.trip now).feedback = b.feedback ∧ (b.trip now).grid = b.grid := by
  obtain ⟨st, t, c, cp, op, f, g, r, ga, a⟩ := b
  cases st with
  | closing | closed =>
    refine ⟨fun _ => ?_, nofun, nofun, nofun, nofun, ?_, ?_⟩
    · cases f with
      | true => exact ⟨rfl, rfl, nofun, fun _ => ⟨rfl, rfl⟩, nofun⟩
      | false => exact ⟨rfl, rfl, nofun, nofun, fun _ => ⟨rfl, rfl⟩⟩
    · cases f <;> rfl
    · cases f <;> rfl
  | opening k e =>
    refine ⟨fun h => ?_, fun k' e' h => ?_, nofun, nofun, nofun, rfl, rfl⟩
    · rcases h with h | ⟨_, h⟩ <;> cases h
    · cases h; exact ⟨rfl, rfl⟩
  | opened =>
    refine ⟨fun h => ?_, nofun, fun _ => ⟨rfl, rfl, rfl⟩, nofun, nofun, rfl, rfl⟩
    rcases h with h | ⟨_, h⟩ <;> cases h
  | tripped =>
    refine ⟨fun h => ?_, nofun, nofun, fun _ => rfl, nofun, rfl, rfl⟩
    rcases h with h | ⟨_, h⟩ <;> cases h
  | failed x =>
    refine ⟨fun h => ?_, nofun, nofun, nofun, fun _ h => h, rfl, rfl⟩
    rcases h with h | ⟨_, h⟩ <;> cases h

/-! ### The PERMIT flag of a revocation -/

/-- A slot holds a record still, or the PERMIT flag is set. -/
def State.StandsOrFlagged (i : Fin 48) (p : Permit) (s : State) : Prop := Holds s i p ∨ s.flagged .permit = true

theorem State.revokeSlot_flagged {s : State} {i : Fin 48} {p : Permit} (j : Fin 48) (reason : Reason)
    (h : s.StandsOrFlagged i p) : (s.revokeSlot reason false j).StandsOrFlagged i p := by
  rcases h with hp | hf
  · simp only [State.revokeSlot]
    split
    · exact .inl hp
    · next q hq =>
      split
      · refine .inr ((State.connectGone_announces _ _ _).flags _ ?_)
        exact State.raise_flagged_self _ _
      · exact .inl hp
  · exact .inr ((s.revokeSlot_announces reason false j).flags _ hf)

theorem State.revokeWhere_flagged {s : State} {i : Fin 48} {p : Permit} (f : Permit → Bool) (reason : Reason)
    (h : s.StandsOrFlagged i p) : (s.revokeWhere f reason).StandsOrFlagged i p := by
  refine foldl_keeps (State.StandsOrFlagged i p) _ (fun t j ht => ?_) allSlots s h
  split
  · split
    · exact State.revokeSlot_flagged j reason ht
    · exact ht
  · exact ht

theorem State.alarmEntry_flagged {s : State} {i : Fin 48} {p : Permit} (k : Fin 4) (h : s.StandsOrFlagged i p) :
    (s.alarmEntry k).StandsOrFlagged i p := by
  have hw : (s.revokeWhere (·.metByAlarm k) .fire).StandsOrFlagged i p := State.revokeWhere_flagged _ _ h
  have hslots : (s.alarmEntry k).slots = (s.revokeWhere (·.metByAlarm k) .fire).slots := by
    simp [State.alarmEntry, Permit.metByAlarm]
  rcases hw with hw | hw
  · exact .inl ((Holds.congr hslots).2 hw)
  · refine .inr ?_
    exact (State.openBay_announces _ k).flags _ ((State.setBreaker_announces _ _).flags _ hw)

/-- A record that an alarm entry revokes: what the fire evaluation makes of it, with the PERMIT flag (R19). -/
theorem State.fireAndAlarm_revokes {s : State} {i : Fin 48} {p : Permit} {k : Fin 4} (hp : Holds s i p)
    (hk : k ∈ alarmEntries s.fire s.fireStage.fire) (hs : p.state ≠ .revoked) (hm : p.metByAlarm k = true) :
    Holds s.fireAndAlarm i (p.revoked .fire false s.now (Config.sec s.unit.active.revokedHold)) ∧
      s.fireAndAlarm.flagged .permit = true := by
  have hrev : Holds s.fireAndAlarm i (p.revoked .fire false s.now (Config.sec s.unit.active.revokedHold)) := by
    have h := s.fireAndAlarm_updates.holds hp
    rwa [Permit.revokedWhere, if_pos] at h
    rw [Bool.and_eq_true, Permit.standing_iff]
    exact ⟨List.any_eq_true.2 ⟨k, hk, hm⟩, hs⟩
  refine ⟨hrev, ?_⟩
  have hstage : s.fireStage.StandsOrFlagged i p := .inl ((Holds.congr (State.fireStage_slots s)).2 hp)
  have hfold : s.fireAndAlarm.StandsOrFlagged i p :=
    foldl_keeps (State.StandsOrFlagged i p) State.alarmEntry (fun t j => State.alarmEntry_flagged j) _ _ hstage
  refine hfold.resolve_left fun h => ?_
  rw [Holds] at h hrev
  rw [h] at hrev
  exact hs (by rw [Option.some.inj hrev]; rfl)

/-! ### After the alarm entries -/

/-- The notice mark of a record, or the LIMIT frame that has taken it. -/
theorem State.linkStage_notice_cases {s : State} {i : Fin 48} {p : Permit} (hp : Holds s i p) :
    Holds s.linkStage i p ∨ (Holds s.linkStage i { p with notice := false } ∧
      ∃ f r x, s.linkStage.link.transmitter = .sending f r x ∧ f.kind = .limit ∧ f.handle = s.handleOf i) := by
  simp only [State.linkStage]
  split
  · split
    · exact .inl hp
    · split
      · next j _ _ =>
        split
        · next q hq =>
          by_cases hij : i = j
          · subst hij
            rw [Holds, hq] at hp
            cases hp
            exact .inr ⟨State.setPermit_holds.2 (by rw [if_pos rfl]), _, _, _, rfl, rfl, rfl⟩
          · exact .inl (State.setPermit_holds.2 (by rw [if_neg hij]; exact hp))
        · exact .inl hp
      · exact .inl hp
  · exact .inl hp

/-- A REVOKED record is as it was when the transmitter looks for notices. -/
theorem State.beforeLink_revoked {s : State} {i : Fin 48} {p : Permit} (g : Option (Fin 48))
    (hp : Holds s.doorStage.fireAndAlarm i p) (hs : p.state = .revoked) :
    Holds (s.beforeEvaluation g).evaluateStage i p := by
  have h1 : Holds s.beforeIsolation i p := by
    rwa [State.beforeIsolation, Holds.congr (State.connectStage_slots _), Holds.congr (State.coolStage_slots _)]
  have h2 : Holds (s.beforeEvaluation g) i p := by
    have h := (State.isolateStage_updates s.beforeIsolation g).holds h1
    rw [State.beforeEvaluation_eq]
    rwa [Permit.completed, if_neg (by simp [hs])] at h
  cases hl : (s.beforeEvaluation g).loaded with
  | false => rw [State.evaluateStage_unloaded _ hl]; exact h2
  | true =>
    have h := (State.evaluateStage_updates _ hl).holds h2
    rwa [State.handedTo, State.retargeted, Permit.retarget_revoked hs, ite_self] at h

/-- A REVOKED record after the settling of an event, and the notice that a converter holder is due. -/
theorem State.settleWith_revoked_notice {s : State} {i : Fin 48} {p : Permit} (g : Option (Fin 48))
    (hp : Holds s.doorStage.fireAndAlarm i p) (hs : p.state = .revoked) :
    ∃ q : Permit, Holds (s.settleWith g) i q ∧ q = { p with notice := q.notice } ∧ (p.notice = true → q.notice = true ∨
      ∃ f r x, (s.settleWith g).link.transmitter = .sending f r x ∧ f.kind = .limit ∧
        f.handle = ⟨BitVec.ofNat 8 i.val, s.slots[i.val].generation⟩) := by
  have hv := State.beforeLink_revoked g hp hs
  have hgen : (s.beforeEvaluation g).evaluateStage.slots[i.val].generation = s.slots[i.val].generation := by
    obtain ⟨h, -⟩ := ((((((State.SlotsFollow.of_eq (t := s.doorStage) rfl).trans (State.fireAndAlarm_follows _)).trans
      (.of_eq (t := State.coolStage _) rfl)).trans (.of_eq (State.connectStage_slots _))).trans
      (State.isolateStage_follows _ g)).trans (State.evaluateStage_follows _)) i
    exact h
  have hlink : (s.settleWith g).link = (s.beforeEvaluation g).evaluateStage.linkStage.link := by
    rw [State.settleWith_eq, State.startUpStage_link]
  have hslot : ∀ q, Holds (s.settleWith g) i q ↔ Holds (s.beforeEvaluation g).evaluateStage.linkStage i q := fun q => by
    rw [State.settleWith_eq, Holds.congr (State.startUpStage_slots _)]
  rcases State.linkStage_notice_cases hv with h | ⟨h, f, r, x, ht, hk, hh⟩
  · exact ⟨p, (hslot p).2 h, rfl, .inl⟩
  · refine ⟨_, (hslot _).2 h, rfl, fun _ => .inr ⟨f, r, x, by rw [hlink, ht], hk, ?_⟩⟩
    rw [hh, State.handleOf, Fin.getElem_fin, hgen]

/-- The hand-offs behind the alarm entries revoke no record. -/
theorem State.afterAlarm_handedOn (s : State) (g : Option (Fin 48)) :
    s.doorStage.fireAndAlarm.SlotsHandedOn (s.settleWith g) :=
  ((((State.SlotsHandedOn.of_eq (t := s.doorStage.fireAndAlarm.coolStage.connectStage) (by simp)).trans
    (State.isolateStage_handedOn _ g)).trans (State.evaluateStage_handedOn _)).trans
    (State.linkStage_handedOn _)).trans (.of_eq (State.startUpStage_slots _))

/-! ### The precharge path -/

/-- The path is not given to a string at rest. -/
theorem State.arbitrate_serving (n : Nat) (s : State) (j : Fin 8) (h : AtRest s.contactors[j.val])
    (hs : s.serving ≠ some j) : (State.arbitrate n s).serving ≠ some j := by
  induction n generalizing s with
  | zero => exact hs
  | succ n ih =>
    rcases s.arbitrate_succ n with e | ⟨i, -, hq, e⟩
    · rw [e]; exact hs
    · have hj : j ≠ i := by
        rintro rfl
        have e := List.find?_some hq
        simp only [Fin.getElem_fin, beq_iff_eq] at e
        rcases h with h | ⟨r, h⟩ <;> rw [h] at e <;> cases e
      rw [e]
      refine ih _ (by rw [s.startPrecharge_contactor i j hj]; exact h) ?_
      simp only [State.startPrecharge, State.checkMatch]
      split
      · nofun
      · exact fun e => hj (Option.some.inj e).symm

theorem State.connectStage_serving (s : State) (i : Fin 8) (hu : (s.unmetOf i).isEmpty = false)
    (h : AtRest s.contactors[i.val]) : s.connectStage.serving ≠ some i := by
  have hc : AtRest (s.connectString i) := Contactor.follow_atRest _ _ hu h
  refine State.arbitrate_serving 8 _ i ?_ ?_
  · simpa only [State.freePath_contactors, getElem_tab8] using hc
  · rw [State.freePath_serving, servingAfter]
    intro e
    obtain ⟨-, hp⟩ := Option.filter_eq_some_iff.1 e
    simp only [Fin.getElem_fin, getElem_tab8] at hp
    rw [atRest_not_precharging hc] at hp
    cases hp

end Sys2Proof.Machine
end

section
/-! PROOF. What the settling of an event in which a bay enters an alarm state does (O41). -/

namespace Sys2Proof.Machine

open Sys2Proof Sys2Proof.Safety Sys2Proof.Claims

theorem FireState.inAlarm_iff (x : FireState) :
    x.inAlarm = true ↔ x = .alarm ∨ (∃ e, x = .countdown e) ∨ ∃ e, x = .released e := by
  cases x <;> simp [FireState.inAlarm]

theorem FireState.inAlarm_of_code {x y : FireState} (h : x.code = y.code) : x.inAlarm = y.inAlarm := by
  cases x <;> cases y <;> simp_all [FireState.code, FireState.inAlarm]

/-- A bay that enters an alarm state in the settling of an event: it is one of those whose alarm entry is handed on. -/
theorem State.enters_of_settle {s : State} {k : Fin 4} (h0 : s.fire[k.val].state.inAlarm = false)
    (h1 : s.settle.fire[k.val].state.inAlarm = true) :
    k ∈ alarmEntries s.doorStage.fire s.doorStage.fireStage.fire := by
  have hf : s.settle.fire = s.doorStage.fireStage.fire := by
    rw [State.fireStage_fire, ← State.fireAndAlarm_fire]
    simp [State.settle, State.settleWith_eq, State.beforeEvaluation]
  rw [hf] at h1
  exact mem_alarmEntries.2 ⟨h0, h1⟩

theorem State.settle_breaker (s : State) : s.settle.breaker = s.doorStage.fireAndAlarm.breaker := by
  simp [State.settle, State.settleWith_eq, State.beforeEvaluation]

/-- The breaker after the settling of an event in which a bay enters an alarm state (R155). -/
theorem State.settle_trips {s : State} {k : Fin 4} (hk : k ∈ alarmEntries s.doorStage.fire s.doorStage.fireStage.fire) :
    ∃ x, s.settle.breaker = { s.breaker.trip s.now with armed := x } := by
  obtain ⟨x, e⟩ := s.doorStage.fireStage.alarmStage_breaker hk
  rw [State.fireStage_breaker, State.fireStage_now] at e
  exact ⟨x, (State.settle_breaker s).trans e⟩

/-- What an opening at once does to a contactor, by its state (R146). -/
theorem Contactor.openNow_spec (c : Contactor) (now : Nat) :
    (c.openNow now).failures = c.failures ∧ (c.openNow now).retryEnd = c.retryEnd ∧
      (∀ r, c.state = .failed r → (c.openNow now).state = .failed r) ∧
      (c.state = .opened → (c.openNow now).state = .opened) ∧
      (c.state = .queued ∨ (∃ e, c.state = .precharging e) ∨ c.state = .closed ∨ (∃ e, c.state = .draining e) →
        (c.openNow now).state = .opened ∧ (c.openNow now).mainClosed = false ∧ (c.openNow now).prechargeClosed = false) := by
  have hentered : (c.enter .opened now).failures = c.failures ∧ (c.enter .opened now).retryEnd = c.retryEnd := by
    simp only [Contactor.enter, Contactor.supervise]
    split <;> exact ⟨rfl, rfl⟩
  obtain ⟨hf, hr⟩ := hentered
  obtain ⟨hst, hm, hp, -⟩ := Contactor.enter_spec c .opened now
  cases hs : c.state with
  | queued | precharging | closed | draining =>
    simp only [Contactor.openNow, hs]
    exact ⟨hf, hr, nofun, nofun, fun _ => ⟨hst, hm, hp⟩⟩
  | opened =>
    simp only [Contactor.openNow, hs]
    refine ⟨trivial, trivial, nofun, fun _ => trivial, fun h => ?_⟩
    rcases h with h | ⟨_, h⟩ | h | ⟨_, h⟩ <;> cases h
  | failed x =>
    simp only [Contactor.openNow, hs]
    refine ⟨trivial, trivial, fun _ h => h, nofun, fun h => ?_⟩
    rcases h with h | ⟨_, h⟩ | h | ⟨_, h⟩ <;> cases h

/-- A contactor of the bay after the settling: opened at once, its conditions brought up to date, and off the path. -/
theorem State.settle_opens {s : State} {k : Fin 4} {i : Fin 8}
    (hk : k ∈ alarmEntries s.doorStage.fire s.doorStage.fireStage.fire) (hi : bayOf i = k) :
    s.settle.serving ≠ some i ∧ ∃ u x, u.fire = true ∧
      s.settle.contactors[i.val] = { s.contactors[i.val].openNow s.now with unmet := u, isolating := x } := by
  have hc : s.doorStage.fireAndAlarm.coolStage.contactors[i.val] = s.contactors[i.val].openNow s.now := by
    rw [State.coolStage_contactors, State.fireAndAlarm_contactor, if_pos (by rw [hi]; exact hk)]
    rfl
  have hfire : (s.doorStage.fireAndAlarm.coolStage.unmetOf i).fire = true := by
    have h := (mem_alarmEntries.1 hk).2
    rw [State.fireStage_fire, ← State.fireAndAlarm_fire] at h
    simpa only [State.unmetOf, State.coolStage_fire, Fin.getElem_fin, hi] using h
  have hempty : (s.doorStage.fireAndAlarm.coolStage.unmetOf i).isEmpty = false := by
    simp [Unmet.isEmpty, hfire]
  have hrest : AtRest s.doorStage.fireAndAlarm.coolStage.contactors[i.val] := by
    rw [hc]
    exact Contactor.openNow_atRest _ _
  have hstate := State.connectStage_rests s.doorStage.fireAndAlarm.coolStage i
    (hrest.symm.imp_right fun h => ⟨h, hempty⟩)
  rw [hc] at hstate
  have hcont : s.settle.contactors = s.doorStage.fireAndAlarm.coolStage.connectStage.contactors := by
    rw [State.settle, State.settleWith_contactors, State.beforeIsolation]
  have hserv : s.settle.serving = s.doorStage.fireAndAlarm.coolStage.connectStage.serving := by
    simp [State.settle, State.settleWith_eq, State.beforeEvaluation]
  rw [hcont, hserv]
  exact ⟨State.connectStage_serving _ i hempty hrest, _, _, hfire, hstate⟩

theorem bayOf_eq {i : Fin 8} {k : Fin 4} (h : i.val = 2 * k.val ∨ i.val = 2 * k.val + 1) : bayOf i = k := by
  refine Fin.ext ?_
  show i.val / 2 = k.val
  omega

/-- The permits that an alarm entry revokes, written out (R19). -/
theorem Permit.metByAlarm_of {p : Permit} {k : Fin 4} (h : (p.kind = .connect ∧ (p.state = .live ∨ p.state = .suspended)) ∨
    ((p.kind = .charge ∨ p.kind = .discharge) ∧ p.state ≠ .revoked ∧
      (p.scope.getLsbD (2 * k.val) = true ∨ p.scope.getLsbD (2 * k.val + 1) = true))) :
    p.metByAlarm k = true ∧ p.state ≠ .revoked := by
  rcases h with ⟨hk, hs⟩ | ⟨hk, hs, hm⟩
  · refine ⟨by simp [Permit.metByAlarm, hk], ?_⟩
    rcases hs with hs | hs <;> rw [hs] <;> simp
  · refine ⟨?_, hs⟩
    have hm' : meetsBay p.scope k = true := by simpa [meetsBay, inScope, evenOf, oddOf] using hm
    rcases hk with hk | hk <;> simp [Permit.metByAlarm, hk, hm']

/-- Flags that the alarm entries set stand in the rest of the settling. -/
theorem State.afterAlarm_flagged {s : State} {f : Flag} (g : Option (Fin 48))
    (h : s.doorStage.fireAndAlarm.flagged f = true) : (s.settleWith g).flagged f = true := by
  have h2 := (State.Effect.coolStage (s := s.doorStage.fireAndAlarm)).announces
  have h3 := h2.trans (State.connectStage_announces _)
  have h4 := h3.trans (State.isolateStage_announces _ g)
  have h5 := h4.trans (State.evaluateStage_announces _)
  have h6 := h5.trans (State.linkStage_announces _)
  exact (h6.trans (State.startUpStage_announces _)).flags _ h

/-- A permit that the alarm entry of a bay revokes, after the event settles (R19). -/
theorem State.settle_alarm_revokes {s : State} {k : Fin 4} {i : Fin 48} {p : Permit}
    (hk : k ∈ alarmEntries s.doorStage.fire s.doorStage.fireStage.fire) (hp : Holds s i p)
    (hm : p.metByAlarm k = true) (hs : p.state ≠ .revoked) :
    ∃ q : Permit, Holds s.settle i q ∧ s.settle.flagged .permit = true ∧
      q = { p.revoked .fire false s.now (Config.sec s.unit.active.revokedHold) with notice := q.notice } ∧
      (p.holder = .converter → q.notice = true ∨ ∃ f r x, s.settle.link.transmitter = .sending f r x ∧
        f.kind = .limit ∧ f.handle = ⟨BitVec.ofNat 8 i.val, s.slots[i.val].generation⟩) := by
  have hp' : Holds s.doorStage i p := hp
  obtain ⟨hrev, hflag⟩ := State.fireAndAlarm_revokes hp' hk hs hm
  obtain ⟨q, hq, e, hn⟩ := State.settleWith_revoked_notice none hrev rfl
  rw [← State.settle] at hq hn
  exact ⟨q, hq, State.afterAlarm_flagged none hflag, e, fun hc => hn (by simp [Permit.revoked, hc])⟩

/-- An ISOLATE or an ENTRY that stands is not revoked by the settling of an event. -/
theorem State.settle_keeps_standing {s : State} {i : Fin 48} {p : Permit} (hp : Holds s i p)
    (hk : p.kind = .isolate ∨ p.kind = .entry) (hs : p.state ≠ .revoked) : ∃ q, Holds s.settle i q ∧ q.state ≠ .revoked := by
  have h : Holds s.doorStage.fireAndAlarm i p := by
    have h := s.doorStage.fireAndAlarm_updates.holds (i := i) (p := p) hp
    rwa [Permit.revokedWhere, if_neg] at h
    rcases hk with hk | hk <;> simp [Permit.metByAlarm, hk]
  obtain ⟨q, hq, hh⟩ := (s.afterAlarm_handedOn none).forth h
  exact ⟨q, hq, hs ∘ hh.revoked⟩

/-- Settles O41. -/
theorem alarmEntryRevokesTripsAndOpens : Obligations.AlarmEntryRevokesTripsAndOpens := by
  intro s k t ht
  rw [ht]
  intro inAlarm hno hin
  have h0 : s.fire[k.val].state.inAlarm = false := by
    rw [← Bool.not_eq_true, FireState.inAlarm_iff]
    exact hno
  have h1 : s.settle.fire[k.val].state.inAlarm = true := (FireState.inAlarm_iff _).2 hin
  have hk := State.enters_of_settle h0 h1
  have hann : s.Announced s.settle := (s.settleWith_announces none).fields
  obtain ⟨x, hb⟩ := State.settle_trips hk
  have hconn : (s.breaker.trip s.now).state.code ≠ s.breaker.state.code → s.settle.flagged .connection = true := fun h => by
    refine hann.breaker ?_
    rw [hb]
    exact h
  obtain ⟨hclosed, hopening, hopened, htripped, hfailed, hfb, hgrid⟩ := s.breaker.trip_spec s.now
  rw [hb]
  refine ⟨hann.fire k fun e => ?_, fun i p hp hm => ?_, fun i p hp hkind hs _ => State.settle_keeps_standing hp hkind hs,
    fun h => ?_, hopening, fun h => ?_, htripped, hfailed, hfb, hgrid, fun i hi => ?_⟩
  · rw [FireState.inAlarm_of_code e] at h1
    rw [h1] at h0
    cases h0
  · obtain ⟨hmet, hs⟩ := Permit.metByAlarm_of hm
    obtain ⟨q, hq, hflag, e, hn⟩ := State.settle_alarm_revokes hk hp hmet hs
    refine ⟨q, hq, hflag, ?_, hn⟩
    simpa [Permit.revoked] using e
  · obtain ⟨hcc, hcp, hcode, hrest⟩ := hclosed h
    exact ⟨hcc, hcp, hconn hcode, hrest⟩
  · obtain ⟨hst, hcp, hop⟩ := hopened h
    exact ⟨hst, hcp, hop, hconn (by rw [hst, h]; decide)⟩
  · obtain ⟨hserv, u, y, hfire, e⟩ := State.settle_opens hk (bayOf_eq hi)
    simp only [Fin.getElem_fin]
    rw [e]
    obtain ⟨hf, hr, hfail, hop, hgone⟩ := (s.contactors[i.val]).openNow_spec s.now
    exact ⟨hserv, hf, hr, hfire, hfail, hop, hgone⟩

end Sys2Proof.Machine
end

section
/-! PROOF. The evaluation of the String Table: envelopes as floored products (O50). -/

namespace Sys2Proof.Machine

open Sys2Proof Sys2Proof.Safety Sys2Proof.Claims

/-! ### The evaluated record -/

/-- A record after an evaluation of all strings. -/
theorem State.evaluateAll_getElem (s : State) (i : Fin 8) :
    s.evaluateAll.strings[i] = s.strings[i].evaluate s.unit.active (s.conditions i) := by simp

/-- The integer product of R45 is the floor of the product of its four factors. -/
theorem envelopeProduct_floor (rated band cool taper : Nat) :
    (envelopeProduct rated band cool taper : ℤ) = ⌊(rated : ℚ) * (band / 4) * (cool / 2) * (taper / 4)⌋ := by
  have h : (rated : ℚ) * (band / 4) * (cool / 2) * (taper / 4) =
      ((rated * band * cool * taper : Nat) : ℚ) / (32 : Nat) := by
    push_cast
    ring
  rw [h, ← Int.natCast_floor_eq_floor (by positivity), Nat.floor_div_natCast, Nat.floor_natCast]
  rfl

/-- The cooling factor as a rational (R45). -/
theorem coolHalves_div (fault : Bool) : (coolHalves fault : ℚ) / 2 = if fault = true then 1 / 2 else 1 := by
  cases fault <;> norm_num [coolHalves]

/-- The charge taper factor as a rational (R46). -/
theorem chargeTaperQuarters_div (p : Profile) (r : StringRec) : (chargeTaperQuarters p r : ℚ) / 4 =
    if p.cellUpper ≤ r.maxCell then 0 else if p.chargeTaper ≤ r.maxCell then 1 / 4 else 1 := by
  simp only [chargeTaperQuarters]
  split_ifs <;> norm_num

/-- The discharge taper factor as a rational (R46). -/
theorem dischargeTaperQuarters_div (p : Profile) (r : StringRec) : (dischargeTaperQuarters p r : ℚ) / 4 =
    if r.minCell ≤ p.cellLower then 0 else if r.minCell ≤ p.dischargeTaper then 1 / 4 else 1 := by
  simp only [dischargeTaperQuarters]
  split_ifs <;> norm_num

/-- What covers both envelopes of a string: FIRE, DOOR, OUT_OF_SERVICE or MODULES (R47 to R49). -/
def Conditions.coversBoth (c : Conditions) : Bool := c.fire || c.door || c.outOfService || c.modules

theorem State.conditions_coversBoth (s : State) (i : Fin 8) : (s.conditions i).coversBoth = true ↔
    s.fire[bayOf i].state.inAlarm = true ∨ (s.door.taken = true ∧ s.entryLive = false) ∨
      s.contactors[i].state ≠ .closed ∨ s.modulesHold i = true := by
  simp [Conditions.coversBoth, State.conditions, or_assoc]

theorem chargeEnvelopeOf_covered {p : Profile} {r : StringRec} {c : Conditions}
    (h : c.fitted = false ∨ c.coversBoth = true ∨ c.prealarm = true) : chargeEnvelopeOf p r c = 0 := by
  refine if_pos ?_
  simp only [Conditions.coversBoth, Bool.or_eq_true, Bool.not_eq_true'] at h ⊢
  tauto

theorem dischargeEnvelopeOf_covered {p : Profile} {r : StringRec} {c : Conditions}
    (h : c.fitted = false ∨ c.coversBoth = true) : dischargeEnvelopeOf p r c = 0 := by
  refine if_pos ?_
  simp only [Conditions.coversBoth, Bool.or_eq_true, Bool.not_eq_true'] at h ⊢
  tauto

/-- The charge envelope that nothing covers. -/
theorem chargeEnvelopeOf_floor {p : Profile} {r : StringRec} {c : Conditions} (hf : c.fitted = true)
    (hc : c.coversBoth = false) (hp : c.prealarm = false) : (chargeEnvelopeOf p r c : ℤ) =
      ⌊(c.ratedCharge : ℚ) * (chargeQuarters r.band / 4) * (coolHalves c.flowFault / 2) *
        (chargeTaperQuarters p r / 4)⌋ := by
  rw [← envelopeProduct_floor]
  simp only [Conditions.coversBoth, Bool.or_eq_false_iff] at hc
  obtain ⟨⟨⟨hfire, hdoor⟩, hout⟩, hmod⟩ := hc
  simp [chargeEnvelopeOf, hf, hp, hfire, hdoor, hout, hmod]

/-- The discharge envelope that nothing covers. -/
theorem dischargeEnvelopeOf_floor {p : Profile} {r : StringRec} {c : Conditions} (hf : c.fitted = true)
    (hc : c.coversBoth = false) : (dischargeEnvelopeOf p r c : ℤ) =
      ⌊(c.ratedDischarge : ℚ) * (dischargeQuarters r.band / 4) * (coolHalves c.flowFault / 2) *
        (dischargeTaperQuarters p r / 4)⌋ := by
  rw [← envelopeProduct_floor]
  simp only [Conditions.coversBoth, Bool.or_eq_false_iff] at hc
  obtain ⟨⟨⟨hfire, hdoor⟩, hout⟩, hmod⟩ := hc
  simp [dischargeEnvelopeOf, hf, hfire, hdoor, hout, hmod]

/-- Settles O50: an envelope is the integer product of R45 where nothing covers its direction, and 0 elsewhere. -/
theorem envelopesAreFlooredProducts : Obligations.EnvelopesAreFlooredProducts := by
  intro s i p r e bothCovered cooling
  have he : e = r.evaluate p (s.conditions i) := s.evaluateAll_getElem i
  have hcov : (s.conditions i).coversBoth = true ↔ bothCovered := s.conditions_coversBoth i
  rw [he]
  refine ⟨fun h => ?_, fun h => ?_, fun hf hb => ⟨fun hpre => ?_, ?_⟩⟩
  · have hc := h.imp_right hcov.2
    exact ⟨chargeEnvelopeOf_covered (hc.imp_right .inl), dischargeEnvelopeOf_covered hc⟩
  · exact chargeEnvelopeOf_covered (.inr (.inr (beq_iff_eq.2 h)))
  all_goals rw [← hcov, Bool.not_eq_true] at hb
  · intro band taper
    have hband : (chargeQuarters r.band : ℚ) / 4 = band := by
      dsimp only [band]
      generalize r.band = b
      fin_cases b <;> norm_num [chargeQuarters]
    refine (chargeEnvelopeOf_floor hf hb (beq_eq_false_iff_ne.2 hpre)).trans ?_
    rw [hband, coolHalves_div, chargeTaperQuarters_div]
    rfl
  · intro band taper
    have hband : (dischargeQuarters r.band : ℚ) / 4 = band := by
      dsimp only [band]
      generalize r.band = b
      fin_cases b <;> norm_num [dischargeQuarters]
    refine (dischargeEnvelopeOf_floor hf hb).trans ?_
    rw [hband, coolHalves_div, dischargeTaperQuarters_div]
    rfl

end Sys2Proof.Machine
end

section
/-! PROOF. The restriction cause and the bleed target of an evaluation, and the evaluation in the settling of an event
(O51). -/

namespace Sys2Proof.Machine

open Sys2Proof Sys2Proof.Safety Sys2Proof.Claims

/-! ### The conditions of a string -/

theorem Bus.isPolling_iff (b : Bus) : b.isPolling = true ↔ b.state = .polling := beq_iff_eq

/-- An address that a profile expects is one of the 24. -/
theorem Profile.expects_mem {p : Profile} {i : Fin 8} {a : Nat} (h : p.expects i a = true) : a ∈ allAddresses := by
  simp only [Profile.expects, Bool.and_eq_true, decide_eq_true_eq] at h
  obtain ⟨h1, hb⟩ := h
  have h24 := BitVec.lt_of_getLsbD hb
  simp only [allAddresses, List.mem_cons]
  omega

/-- Every expected address has an ONLINE entry (R49). -/
theorem State.allExpectedOnline_iff (s : State) (i : Fin 8) : s.allExpectedOnline i = true ↔
    ∀ a, s.unit.active.expects i a = true → s.buses[i].onlineAt a = true := by
  simp only [State.allExpectedOnline, List.all_eq_true, Bool.or_eq_true, Bool.not_eq_true']
  refine ⟨fun h a ha => ?_, fun h a _ => ?_⟩
  · exact (h a (Profile.expects_mem ha)).resolve_left (by simp [ha])
  · cases ha : s.unit.active.expects i a with
    | false => exact .inl rfl
    | true => exact .inr (h a ha)

/-- The MODULES condition written out (R49). -/
theorem State.modulesHold_iff (s : State) (i : Fin 8) : s.modulesHold i = true ↔
    s.buses[i].state ≠ .polling ∨
      (∃ a, s.unit.active.expects i a = true ∧ s.buses[i].onlineAt a = false) ∨
      (∃ x ∈ s.buses[i].roster, x.state = .extra) ∨ s.strings[i].onlineCount = 0 := by
  have hp : (!s.buses[i].isPolling) = true ↔ s.buses[i].state ≠ .polling := by
    rw [Bool.not_eq_true', ← Bool.not_eq_true, Bus.isPolling_iff]
  have ho : (!s.allExpectedOnline i) = true ↔
      ∃ a, s.unit.active.expects i a = true ∧ s.buses[i].onlineAt a = false := by
    rw [Bool.not_eq_true', ← Bool.not_eq_true, State.allExpectedOnline_iff]
    simp
  simp only [State.modulesHold, Bool.or_eq_true, hp, ho, List.any_eq_true, beq_iff_eq, or_assoc]

/-- The DOOR condition written out (R48). -/
theorem State.conditions_door_iff (s : State) (i : Fin 8) : (s.conditions i).door = true ↔
    s.door.taken = true ∧ ¬∃ j q, Holds s j q ∧ q.kind = .entry ∧ q.state = .live := by
  rw [← State.entryLive_iff]
  simp [State.conditions]

theorem chargeQuarters_lt (band : Fin 8) : chargeQuarters band < 4 ↔ band ≠ 3 ∧ band ≠ 4 := by
  revert band; decide

theorem dischargeQuarters_lt (band : Fin 8) : dischargeQuarters band < 4 ↔ band ≠ 2 ∧ band ≠ 3 ∧ band ≠ 4 := by
  revert band; decide

theorem chargeTaperQuarters_lt (p : Profile) (r : StringRec) :
    chargeTaperQuarters p r < 4 ↔ p.cellUpper ≤ r.maxCell ∨ p.chargeTaper ≤ r.maxCell := by
  simp only [chargeTaperQuarters]
  split_ifs with hu ht <;> simp [*]

theorem dischargeTaperQuarters_lt (p : Profile) (r : StringRec) :
    dischargeTaperQuarters p r < 4 ↔ r.minCell ≤ p.cellLower ∨ r.minCell ≤ p.dischargeTaper := by
  simp only [dischargeTaperQuarters]
  split_ifs with hl ht <;> simp [*]

/-! ### The restriction cause -/

/-- The causes in their precedence (R51). -/
def causeOrder : List Cause := [.fire, .prealarm, .door, .outOfService, .modules, .thermal, .cooling, .taper]

/-- Whether a cause's factor for the charge direction is below 1 (R51). -/
def Conditions.limitsCharge (c : Conditions) (p : Profile) (r : StringRec) : Cause → Bool
  | .fire => c.fire
  | .prealarm => c.prealarm
  | .door => c.door
  | .outOfService => c.outOfService
  | .modules => c.modules
  | .thermal => decide (chargeQuarters r.band < 4)
  | .cooling => c.flowFault
  | .taper => decide (chargeTaperQuarters p r < 4)
  | .none => false

/-- Whether a cause's factor for the discharge direction is below 1 (R51). -/
def Conditions.limitsDischarge (c : Conditions) (p : Profile) (r : StringRec) : Cause → Bool
  | .fire => c.fire
  | .prealarm => false
  | .door => c.door
  | .outOfService => c.outOfService
  | .modules => c.modules
  | .thermal => decide (dischargeQuarters r.band < 4)
  | .cooling => c.flowFault
  | .taper => decide (dischargeTaperQuarters p r < 4)
  | .none => false

/-- Whether a cause is in effect (R51). -/
def Conditions.restricts (c : Conditions) (p : Profile) (r : StringRec) (x : Cause) : Bool :=
  inEffect c (c.limitsCharge p r x) (c.limitsDischarge p r x)

theorem Conditions.restricts_iff (c : Conditions) (p : Profile) (r : StringRec) (x : Cause) :
    c.restricts p r x = true ↔ (c.limitsCharge p r x = true ∧ 0 < c.ratedCharge) ∨
      (c.limitsDischarge p r x = true ∧ 0 < c.ratedDischarge) := by
  simp [Conditions.restricts, inEffect]

/-- The first element of a list with a property, one element at a time. -/
theorem find?_cons_getD {α : Type} (f : α → Bool) (d x : α) (xs : List α) :
    ((x :: xs).find? f).getD d = if f x = true then x else (xs.find? f).getD d := by
  cases h : f x <;> simp [h]

theorem and_inEffect (c : Conditions) (x a b : Bool) : (x && inEffect c a b) = inEffect c (x && a) (x && b) := by
  cases x <;> simp [inEffect]

/-- The restriction cause is the first one in effect. -/
theorem causeOf_eq_find (p : Profile) (r : StringRec) (c : Conditions) :
    causeOf p r c = (causeOrder.find? (c.restricts p r)).getD .none := by
  simp only [causeOf, and_inEffect, Bool.and_true, Bool.and_false, causeOrder, find?_cons_getD, List.find?_nil,
    Option.getD_none]
  rfl

theorem causeOf_first {p : Profile} {r : StringRec} {c : Conditions} {before after : List Cause} {x : Cause}
    (h : causeOrder = before ++ x :: after) (hx : c.restricts p r x = true)
    (hb : ∀ d ∈ before, c.restricts p r d = false) : causeOf p r c = x := by
  have hf : causeOrder.find? (c.restricts p r) = some x :=
    List.find?_eq_some_iff_append.2 ⟨hx, before, after, h, fun d hd => by simp [hb d hd]⟩
  rw [causeOf_eq_find, hf, Option.getD_some]

theorem causeOf_none {p : Profile} {r : StringRec} {c : Conditions} (h : ∀ x ∈ causeOrder, c.restricts p r x = false) :
    causeOf p r c = .none := by
  rw [causeOf_eq_find, List.find?_eq_none.2 fun x hx => by simp [h x hx], Option.getD_none]

/-! ### Bleeding -/

/-- Bleeding is enabled (R56). -/
theorem State.bleedingOf_iff (s : State) (i : Fin 8) : bleedingOf s.strings[i] (s.conditions i) = true ↔
    2 ≤ s.strings[i].band.val ∧ s.strings[i].band.val ≤ 5 ∧ s.fire[bayOf i].state = .quiet ∧
      ¬s.modulesHold i = true := by
  simp [bleedingOf, State.conditions, and_assoc]

/-! ### The evaluation in the settling of an event -/

theorem State.evaluateStage_strings_loaded {s : State} (h : s.loaded = true) :
    s.evaluateStage.strings = s.evaluateAll.strings := by
  rw [State.evaluateStage, if_pos h, State.handOff_strings]

/-- The strings after the settling of an event. -/
theorem State.settle_strings (s : State) : s.settle.strings =
    if s.loaded = true then (s.beforeEvaluation none).evaluateAll.strings else s.strings := by
  rw [State.settle, State.settleWith_eq, State.startUpStage_strings, State.linkStage_strings]
  split
  · next h => rw [State.evaluateStage_strings_loaded (by rw [State.beforeEvaluation_loaded, h])]
  · next h =>
    rw [State.evaluateStage_unloaded _ (by rw [State.beforeEvaluation_loaded]; exact Bool.eq_false_of_not_eq_true h),
      State.beforeEvaluation_strings]

/-- Settles O51: the model's search of the causes in order, each with its condition written out. -/
theorem evaluationSetsCauseAndBleedTarget : Obligations.EvaluationSetsCauseAndBleedTarget := by
  refine ⟨fun s i => ?_, fun s => ⟨fun h => ?_, fun h => ?_⟩⟩
  · intro p r e fire modules both charge discharge inEffect order bleeds
    have he : e = r.evaluate p (s.conditions i) := s.evaluateAll_getElem i
    have hmod : s.modulesHold i = true ↔ modules := s.modulesHold_iff i
    have hfire : (s.conditions i).fire = true ↔ both .fire := FireState.inAlarm_iff fire
    have hdoor : (s.conditions i).door = true ↔ both .door := s.conditions_door_iff i
    have hout : (s.conditions i).outOfService = true ↔ both .outOfService := bne_iff_ne
    have hpre : (s.conditions i).prealarm = true ↔ charge .prealarm := beq_iff_eq
    have key : ∀ d ∈ order, (s.conditions i).restricts p r d = true ↔ inEffect d := by
      intro d hd
      refine ((s.conditions i).restricts_iff p r d).trans (or_congr (and_congr_left' ?_) (and_congr_left' ?_))
      · cases d with
        | fire => exact hfire
        | prealarm => exact hpre
        | door => exact hdoor
        | outOfService => exact hout
        | modules => exact hmod
        | thermal => exact decide_eq_true_iff.trans (chargeQuarters_lt r.band)
        | cooling => exact Iff.rfl
        | taper => exact decide_eq_true_iff.trans (chargeTaperQuarters_lt p r)
        | none => simp [order] at hd
      · cases d with
        | fire => exact hfire
        | prealarm => exact iff_of_false Bool.false_ne_true id
        | door => exact hdoor
        | outOfService => exact hout
        | modules => exact hmod
        | thermal => exact decide_eq_true_iff.trans (dischargeQuarters_lt r.band)
        | cooling => exact Iff.rfl
        | taper => exact decide_eq_true_iff.trans (dischargeTaperQuarters_lt p r)
        | none => simp [order] at hd
    have hno : ∀ d ∈ order, ¬inEffect d → (s.conditions i).restricts p r d = false := fun d hd h => by
      rwa [← Bool.not_eq_true, key d hd]
    have hbleed : e.bleeding = true ↔ bleeds := by
      rw [he]
      exact (s.bleedingOf_iff i).trans (by rw [hmod])
    refine ⟨by rw [he]; rfl, fun before c after ho hc hb => ?_, fun hall => ?_, hbleed, fun hb => ?_, fun hb hr => ?_⟩
    · rw [he]
      refine causeOf_first ho ((key c ?_).2 hc) fun d hd => hno d ?_ (hb d hd)
      · simp [ho]
      · simp [ho, hd]
    · rw [he]
      exact causeOf_none fun d hd => hno d hd (hall d hd)
    · rw [← hbleed, he] at hb
      rw [he]
      exact if_neg hb
    · rw [← hbleed, he] at hb
      rw [he]
      exact (if_pos hb).trans (if_pos hr)
  · rw [State.settle_strings, if_pos h]
    rfl
  · rw [State.settle_strings, if_neg (by rw [h]; exact Bool.false_ne_true)]

end Sys2Proof.Machine
end

section
/-! PROOF. What an aggregation makes of the entries counted ONLINE (O36). -/

namespace Sys2Proof.Machine

open Sys2Proof Sys2Proof.Safety Sys2Proof.Claims

/-! ### The first of the least

The extreme cells are searches for the first entry with the least key; for the maximum the key is read in the dual
order. -/

/-- The first entry whose key no other entry's is below. -/
def firstLeast {α : Type} [LinearOrder α] (g : Summary → α) : List (Nat × Summary) → Option (Nat × Summary)
  | [] => none
  | x :: xs =>
    match firstLeast g xs with
    | none => some x
    | some y => if g y.2 < g x.2 then some y else some x

theorem lowestBy_eq (f : Summary → Nat) (xs : List (Nat × Summary)) : lowestBy f xs = firstLeast f xs := by
  induction xs with
  | nil => rfl
  | cons x xs ih => rw [lowestBy, firstLeast, ih] <;> rfl

theorem highestBy_eq (f : Summary → Nat) (xs : List (Nat × Summary)) :
    highestBy f xs = firstLeast (fun v => OrderDual.toDual (f v)) xs := by
  induction xs with
  | nil => rfl
  | cons x xs ih => rw [highestBy, firstLeast, ih] <;> rfl

section FirstLeast

variable {α : Type} [LinearOrder α] {g : Summary → α} {xs : List (Nat × Summary)}

theorem firstLeast_mem {y : Nat × Summary} (h : firstLeast g xs = some y) : y ∈ xs := by
  induction xs generalizing y with
  | nil => cases h
  | cons x xs ih =>
    rw [firstLeast] at h
    split at h
    · cases h; exact List.mem_cons_self
    · next z hz =>
      split at h
      · cases h; exact List.mem_cons_of_mem _ (ih hz)
      · cases h; exact List.mem_cons_self

theorem firstLeast_of_ne_nil (h : xs ≠ []) : ∃ y, firstLeast g xs = some y := by
  obtain ⟨x, xs, rfl⟩ := List.exists_cons_of_ne_nil h
  rw [firstLeast]
  split
  · exact ⟨x, rfl⟩
  · split <;> exact ⟨_, rfl⟩

/-- In the order of addresses the first of the least is the least with the lowest address. -/
theorem firstLeast_eq {x : Nat × Summary} (hs : xs.Pairwise (fun y z => y.1 < z.1)) (hx : x ∈ xs)
    (hl : ∀ y ∈ xs, g x.2 < g y.2 ∨ (g x.2 = g y.2 ∧ x.1 ≤ y.1)) : firstLeast g xs = some x := by
  induction xs with
  | nil => cases hx
  | cons z zs ih =>
    obtain ⟨hz, hs⟩ := List.pairwise_cons.1 hs
    rw [firstLeast]
    rcases List.mem_cons.1 hx with rfl | hx
    · split
      · rfl
      · next y hy =>
        refine if_neg ?_
        rcases hl y (List.mem_cons_of_mem _ (firstLeast_mem hy)) with h | h
        · exact h.not_gt
        · exact h.1.not_gt
    · rw [ih hs hx fun y hy => hl y (List.mem_cons_of_mem _ hy)]
      refine if_pos ((hl z List.mem_cons_self).resolve_right fun h => ?_)
      exact absurd (hz x hx) h.2.not_gt

end FirstLeast

/-- A running minimum ends at the least value. -/
theorem foldl_min_eq {α β : Type} [LinearOrder β] {g : α → β} {m : β} (xs : List α) (init : β) (hi : m ≤ init)
    (hl : ∀ x ∈ xs, m ≤ g x) (hm : init = m ∨ ∃ x ∈ xs, g x = m) : xs.foldl (fun t x => min t (g x)) init = m := by
  induction xs generalizing init with
  | nil => simpa using hm
  | cons x xs ih =>
    refine ih _ (le_min hi (hl x List.mem_cons_self)) (fun y hy => hl y (List.mem_cons_of_mem _ hy)) ?_
    rcases hm with rfl | ⟨y, hy, e⟩
    · exact .inl (min_eq_left (hl x List.mem_cons_self))
    · rcases List.mem_cons.1 hy with rfl | hy
      · exact .inl (by simp only [e, min_eq_right hi])
      · exact .inr ⟨y, hy, e⟩

/-- A running maximum ends at the greatest value. -/
theorem foldl_max_eq {α : Type} {g : α → Int} {m : Int} (xs : List α) (init : Int) (hi : init ≤ m)
    (hl : ∀ x ∈ xs, g x ≤ m) (hm : init = m ∨ ∃ x ∈ xs, g x = m) : xs.foldl (fun t x => max t (g x)) init = m :=
  foldl_min_eq (β := Intᵒᵈ) xs init hi hl hm

/-! ### The values of the entries counted -/

/-- The summary values of a list of entries, each with its address. -/
def summariesOf (xs : List Entry) : List (Nat × Summary) := xs.filterMap fun e => e.summary.map fun v => (e.address, v)

theorem mem_summariesOf {xs : List Entry} {a : Nat} {v : Summary} :
    (a, v) ∈ summariesOf xs ↔ ∃ e ∈ xs, e.address = a ∧ e.summary = some v := by
  simp only [summariesOf, List.mem_filterMap, Option.map_eq_some_iff, Prod.mk.injEq]
  refine exists_congr fun e => and_congr_right fun _ => ⟨?_, fun ⟨ha, hv⟩ => ⟨v, hv, ha, rfl⟩⟩
  rintro ⟨w, hw, ha, rfl⟩
  exact ⟨ha, hw⟩

theorem summariesOf_sorted {xs : List Entry} (h : (xs.map (·.address)).Pairwise (· < ·)) :
    (summariesOf xs).Pairwise fun y z => y.1 < z.1 := by
  rw [List.pairwise_map] at h
  refine h.filterMap _ fun d e hde y hy z hz => ?_
  obtain ⟨v, -, rfl⟩ := Option.map_eq_some_iff.1 hy
  obtain ⟨w, -, rfl⟩ := Option.map_eq_some_iff.1 hz
  exact hde

theorem summariesOf_voltages (xs : List Entry) :
    (summariesOf xs).map (fun x => x.2.voltage) = (xs.filterMap (·.summary)).map (·.voltage) := by
  simp only [summariesOf, List.map_filterMap]
  refine congrArg (fun f => xs.filterMap f) (funext fun e => ?_)
  cases e.summary <;> rfl

theorem Bus.counted_eq (b : Bus) :
    b.counted = if b.state = .polling then b.roster.filter (fun e => e.state == .online) else [] :=
  if_congr b.isPolling_iff rfl rfl

theorem Bus.counted_sorted {b : Bus} (h : (b.roster.map (·.address)).Pairwise (· < ·)) :
    (b.counted.map (·.address)).Pairwise (· < ·) := by
  rw [Bus.counted_eq]
  split
  · exact h.sublist (List.filter_sublist.map _)
  · exact .nil

/-! ### The aggregated record -/

section Aggregated

variable (r : StringRec) (xs : List Entry)

/-- The fields that an aggregation always sets, and those that it always leaves. -/
theorem StringRec.aggregate_always :
    (r.aggregate xs).onlineCount = xs.length ∧
    (r.aggregate xs).voltage = stringVoltage ((xs.filterMap (·.summary)).map (·.voltage)).sum ∧
    (r.aggregate xs).cause = r.cause ∧ (r.aggregate xs).bleedTarget = r.bleedTarget ∧
    (r.aggregate xs).bleeding = r.bleeding := by
  rw [← summariesOf_voltages]
  simp only [StringRec.aggregate, summariesOf]
  split <;> simp

/-- An aggregation of no entries. -/
theorem StringRec.aggregate_nil : r.aggregate [] = { r with onlineCount := 0, voltage := 0 } := by
  simp [StringRec.aggregate, lowestBy, stringVoltage]

variable {r xs}

/-- An aggregation of entries of which some hold values. -/
theorem StringRec.aggregate_some {lo hi : Nat × Summary} (hl : lowestBy (·.minCell) (summariesOf xs) = some lo)
    (hh : highestBy (·.maxCell) (summariesOf xs) = some hi) :
    (r.aggregate xs).minCell = lo.2.minCell ∧ (r.aggregate xs).minPlace = some ⟨lo.1, lo.2.minPosition⟩ ∧
    (r.aggregate xs).maxCell = hi.2.maxCell ∧ (r.aggregate xs).maxPlace = some ⟨hi.1, hi.2.maxPosition⟩ ∧
    (r.aggregate xs).minTemp = (summariesOf xs).foldl (fun t x => min t x.2.minTemp) lo.2.minTemp ∧
    (r.aggregate xs).maxTemp = (summariesOf xs).foldl (fun t x => max t x.2.maxTemp) hi.2.maxTemp := by
  rw [summariesOf] at hl hh
  simp [StringRec.aggregate, summariesOf, hl, hh]

/-- Entries of which some hold values have extreme cells. -/
theorem extremes_of_mem {x : Nat × Summary} (hx : x ∈ summariesOf xs) :
    ∃ lo hi, lowestBy (·.minCell) (summariesOf xs) = some lo ∧ highestBy (·.maxCell) (summariesOf xs) = some hi ∧
      lo ∈ summariesOf xs ∧ hi ∈ summariesOf xs := by
  obtain ⟨lo, hlo⟩ := firstLeast_of_ne_nil (g := fun v => v.minCell) (List.ne_nil_of_mem hx)
  obtain ⟨hi, hhi⟩ := firstLeast_of_ne_nil (g := fun v => OrderDual.toDual v.maxCell) (List.ne_nil_of_mem hx)
  exact ⟨lo, hi, (lowestBy_eq _ _).trans hlo, (highestBy_eq _ _).trans hhi, firstLeast_mem hlo, firstLeast_mem hhi⟩

theorem StringRec.aggregate_minCell {a : Nat} {v : Summary} (hs : (xs.map (·.address)).Pairwise (· < ·))
    (hv : (a, v) ∈ summariesOf xs)
    (hl : ∀ b w, (b, w) ∈ summariesOf xs → v.minCell < w.minCell ∨ (v.minCell = w.minCell ∧ a ≤ b)) :
    (r.aggregate xs).minCell = v.minCell ∧ (r.aggregate xs).minPlace = some ⟨a, v.minPosition⟩ := by
  obtain ⟨lo, hi, hlo, hhi, -⟩ := extremes_of_mem hv
  have e : lowestBy (·.minCell) (summariesOf xs) = some (a, v) :=
    (lowestBy_eq _ _).trans (firstLeast_eq (summariesOf_sorted hs) hv fun y hy => hl y.1 y.2 hy)
  obtain ⟨hc, hp, -⟩ := StringRec.aggregate_some (r := r) e hhi
  exact ⟨hc, hp⟩

theorem StringRec.aggregate_maxCell {a : Nat} {v : Summary} (hs : (xs.map (·.address)).Pairwise (· < ·))
    (hv : (a, v) ∈ summariesOf xs)
    (hl : ∀ b w, (b, w) ∈ summariesOf xs → w.maxCell < v.maxCell ∨ (v.maxCell = w.maxCell ∧ a ≤ b)) :
    (r.aggregate xs).maxCell = v.maxCell ∧ (r.aggregate xs).maxPlace = some ⟨a, v.maxPosition⟩ := by
  obtain ⟨lo, hi, hlo, hhi, -⟩ := extremes_of_mem hv
  have e : highestBy (·.maxCell) (summariesOf xs) = some (a, v) :=
    (highestBy_eq _ _).trans (firstLeast_eq (summariesOf_sorted hs) hv fun y hy => hl y.1 y.2 hy)
  obtain ⟨-, -, hc, hp, -⟩ := StringRec.aggregate_some (r := r) hlo e
  exact ⟨hc, hp⟩

theorem StringRec.aggregate_minTemp {a : Nat} {v : Summary} (hv : (a, v) ∈ summariesOf xs)
    (hl : ∀ b w, (b, w) ∈ summariesOf xs → v.minTemp ≤ w.minTemp) : (r.aggregate xs).minTemp = v.minTemp := by
  obtain ⟨lo, hi, hlo, hhi, mlo, -⟩ := extremes_of_mem hv
  obtain ⟨-, -, -, -, ht, -⟩ := StringRec.aggregate_some (r := r) hlo hhi
  rw [ht]
  exact foldl_min_eq _ _ (hl lo.1 lo.2 mlo) (fun x hx => hl x.1 x.2 hx) (.inr ⟨_, hv, rfl⟩)

theorem StringRec.aggregate_maxTemp {a : Nat} {v : Summary} (hv : (a, v) ∈ summariesOf xs)
    (hl : ∀ b w, (b, w) ∈ summariesOf xs → w.maxTemp ≤ v.maxTemp) : (r.aggregate xs).maxTemp = v.maxTemp := by
  obtain ⟨lo, hi, hlo, hhi, -, mhi⟩ := extremes_of_mem hv
  obtain ⟨-, -, -, -, -, ht⟩ := StringRec.aggregate_some (r := r) hlo hhi
  rw [ht]
  exact foldl_max_eq _ _ (hl hi.1 hi.2 mhi) (fun x hx => hl x.1 x.2 hx) (.inr ⟨_, hv, rfl⟩)

end Aggregated

/-! ### The string after an aggregation -/

theorem State.updateBand_string (s : State) (i j : Fin 8) (r : StringRec) :
    (s.updateBand i r).strings[j] = if j = i then r else s.strings[j] := by
  simp [State.updateBand, getElem_put]

/-- The band after an aggregation: computed anew unless no entry is counted (R42). -/
def State.bandAfter (s : State) (i : Fin 8) : Fin 8 :=
  if s.buses[i].counted = [] then s.strings[i].band
  else bandOf s.unit.active (s.strings[i].aggregate s.buses[i].counted).minTemp
    (s.strings[i].aggregate s.buses[i].counted).maxTemp

/-- An aggregation writes the aggregated record with its band. -/
theorem State.aggregate_eq (s : State) (i : Fin 8) : s.aggregate i = s.updateBand i
    { s.strings[i].aggregate s.buses[i].counted with
      band := s.bandAfter i, bandChanged := s.strings[i].bandChanged || (s.strings[i].band != s.bandAfter i) } := by
  obtain ⟨-, -, -, hm, hb⟩ := StringRec.aggregate_spec s.strings[i] s.buses[i].counted
  simp only [State.aggregate, State.bandAfter, List.isEmpty_iff]
  split
  · next h =>
    refine congrArg (s.updateBand i) ?_
    rw [bne_self_eq_false, Bool.or_false, ← hm, ← hb]
  · next h => rw [StringRec.setBand_spec, hm, hb]

/-- The record after an aggregation. -/
theorem State.aggregate_string (s : State) (i : Fin 8) : (s.aggregate i).strings[i] =
    { s.strings[i].aggregate s.buses[i].counted with
      band := s.bandAfter i, bandChanged := s.strings[i].bandChanged || (s.strings[i].band != s.bandAfter i) } := by
  rw [State.aggregate_eq, State.updateBand_string, if_pos rfl]

theorem State.aggregate_string_ne (s : State) {i j : Fin 8} (h : j ≠ i) :
    (s.aggregate i).strings[j] = s.strings[j] := by
  rw [State.aggregate_eq, State.updateBand_string, if_neg h]

theorem State.aggregate_flagged (s : State) (i : Fin 8) (h : s.bandAfter i ≠ s.strings[i].band) :
    (s.aggregate i).flagged .band = true := by
  rw [State.aggregate_eq]
  exact State.raiseIf_flagged_self _ _ _ (by simpa using h)

theorem State.aggregate_attention (s : State) (i : Fin 8) (h : s.bandAfter i = s.strings[i].band) :
    (s.aggregate i).attention = s.attention := by
  rw [State.aggregate_eq, State.updateBand, h, bne_self_eq_false]
  rfl

/-- Settles O36: the record that an aggregation writes, field by field. -/
theorem aggregationSetsMeasuredFields : Obligations.AggregationSetsMeasuredFields := by
  intro s i t r ht hr p old counted given
  have hc : s.buses[i].counted = counted := s.buses[i].counted_eq
  have hg : ∀ a v, given a v ↔ (a, v) ∈ summariesOf counted := fun a v => mem_summariesOf.symm
  have hrec : r = { old.aggregate counted with
      band := s.bandAfter i, bandChanged := old.bandChanged || (old.band != s.bandAfter i) } := by
    rw [hr, ht, State.aggregate_string, hc]
  obtain ⟨hcount, hvolt, hcause, htarget, hbleed⟩ := old.aggregate_always counted
  obtain ⟨hfit, hch, hdis, -, -⟩ := old.aggregate_spec counted
  have hband : r.band = s.bandAfter i := by rw [hrec]
  have hmark : r.bandChanged = (old.bandChanged || (old.band != s.bandAfter i)) := by rw [hrec]
  obtain ⟨x, y, hframe⟩ := s.aggregate_frame i
  refine ⟨by rw [ht, hframe], fun j hj => by rw [ht, State.aggregate_string_ne s hj], by rw [hrec, ← hcount],
    fun hsum => ?_, fun hnil => ?_, fun hsort => ⟨fun a v hv hl => ?_, fun a v hv hl => ?_⟩, fun a v hv hl => ?_,
    fun a v hv hl => ?_, fun hne => ?_, fun hb => ?_, fun hb => ?_, by rw [hrec, ← hfit], by rw [hrec, ← hch],
    by rw [hrec, ← hdis], by rw [hrec, ← hcause], by rw [hrec, ← htarget], by rw [hrec, ← hbleed]⟩
  · rw [hrec]
    exact hvolt.trans (if_pos (by omega))
  · have hstands : s.bandAfter i = old.band := if_pos (hc.trans hnil)
    refine ⟨?_, by rw [ht, State.aggregate_attention s i hstands]⟩
    rw [hrec, hstands, hnil, StringRec.aggregate_nil, bne_self_eq_false, Bool.or_false]
  · have hs : (counted.map (·.address)).Pairwise (· < ·) := hc ▸ Bus.counted_sorted hsort
    rw [hrec]
    exact StringRec.aggregate_minCell hs ((hg a v).1 hv) fun b w h => hl b w ((hg b w).2 h)
  · have hs : (counted.map (·.address)).Pairwise (· < ·) := hc ▸ Bus.counted_sorted hsort
    rw [hrec]
    exact StringRec.aggregate_maxCell hs ((hg a v).1 hv) fun b w h => hl b w ((hg b w).2 h)
  · rw [hrec]
    exact StringRec.aggregate_minTemp ((hg a v).1 hv) fun b w h => hl b w ((hg b w).2 h)
  · rw [hrec]
    exact StringRec.aggregate_maxTemp ((hg a v).1 hv) fun b w h => hl b w ((hg b w).2 h)
  · rw [hband, hrec]
    exact (if_neg (by rw [hc]; exact hne)).trans (by rw [hc]; rfl)
  · rw [hband] at hb
    refine ⟨?_, by rw [ht]; exact State.aggregate_flagged s i hb⟩
    rw [hmark, bne_iff_ne.2 hb.symm, Bool.or_true]
  · rw [hband] at hb
    refine ⟨?_, by rw [ht, State.aggregate_attention s i hb]⟩
    rw [hmark, hb, bne_self_eq_false, Bool.or_false]

end Sys2Proof.Machine
end

section
/-! PROOF. Self-test, wake, STUCK retry and a stuck line at their bus (O31). -/

namespace Sys2Proof.Machine

open Sys2Proof Sys2Proof.Safety Sys2Proof.Claims

/-! ### Hand-offs to the start-up record -/

section NoteStartUp

variable (s : State) (b : Fin 8) (f : BusStart → BusStart)

theorem State.noteStartUp_eq_of_running {l : Nat} (h : s.unit.startUp.phase = .running l) :
    s.noteStartUp b f = { s with unit := { s.unit with startUp := { s.unit.startUp with
      buses := put s.unit.startUp.buses b (f s.unit.startUp.buses[b]) } } } := by
  simp only [State.noteStartUp, h]

theorem State.noteStartUp_eq_of_ended {c : StartEnd} (h : s.unit.startUp.phase = .ended c) : s.noteStartUp b f = s := by
  simp only [State.noteStartUp, h]

/-- A hand-off to the start-up record changes the progress of the buses alone. -/
theorem State.noteStartUp_unit : (s.noteStartUp b f).unit = { s.unit with startUp := { s.unit.startUp with
    buses := (s.noteStartUp b f).unit.startUp.buses } } := by
  cases h : s.unit.startUp.phase with
  | running l => rw [State.noteStartUp_eq_of_running s b f h]
  | ended c => rw [State.noteStartUp_eq_of_ended s b f h]

theorem State.noteStartUp_progress_ne {j : Fin 8} (hj : j ≠ b) :
    (s.noteStartUp b f).unit.startUp.buses[j] = s.unit.startUp.buses[j] := by
  cases h : s.unit.startUp.phase with
  | running l =>
    rw [State.noteStartUp_eq_of_running s b f h]
    exact getElem_put_ne _ _ _ _ hj
  | ended c => rw [State.noteStartUp_eq_of_ended s b f h]

/-- While start-up is in progress the bus's line takes the hand-off. -/
theorem State.noteStartUp_progress_self (h : ∃ l, s.unit.startUp.phase = .running l) :
    (s.noteStartUp b f).unit.startUp.buses[b] = f s.unit.startUp.buses[b] := by
  obtain ⟨l, h⟩ := h
  rw [State.noteStartUp_eq_of_running s b f h]
  exact getElem_put_self _ _ _

@[simp] theorem State.noteStartUp_flagged (g : Flag) : (s.noteStartUp b f).flagged g = s.flagged g := by
  rw [State.flagged, State.noteStartUp_attention, State.flagged]

end NoteStartUp

/-! ### The self-test -/

/-- WAKING is entered with a wake pulse of 250 us and 100.25 ms in all (R74). -/
theorem Bus.wake_eq (x : Bus) (now : Nat) : x.wake now =
    { x with state := .waking (some (now + Config.us 250)) (now + Config.us 100250) } := rfl

theorem State.endSelfTest_pass (s : State) (b : Fin 8) {x y : Option BusChar}
    (h : patternPasses 0x55 x = true ∧ patternPasses 0xAA y = true) : s.endSelfTest b x y =
      (s.setBus b (s.buses[b].wake s.now)).noteStartUp b fun z => { z with progress := .rollcall } :=
  if_pos (Bool.and_eq_true_iff.2 h)

theorem State.endSelfTest_fail (s : State) (b : Fin 8) {x y : Option BusChar}
    (h : ¬(patternPasses 0x55 x = true ∧ patternPasses 0xAA y = true)) : s.endSelfTest b x y =
      ((s.setBus b { s.buses[b] with state := .failed (patternPasses 0x55 x) }).raise .bus).noteStartUp b
        fun z => { z with progress := .failed } :=
  if_neg fun e => h (Bool.and_eq_true_iff.1 e)

/-- What the end of a self-test changes: its bus, the bus's line of the start-up record and attention. -/
theorem State.endSelfTest_frame (s : State) (b : Fin 8) (x y : Option BusChar) :
    s.endSelfTest b x y = { s with
      buses := (s.endSelfTest b x y).buses, attention := (s.endSelfTest b x y).attention
      unit := (s.endSelfTest b x y).unit } ∧
    (s.endSelfTest b x y).unit = { s.unit with startUp := { s.unit.startUp with
      buses := (s.endSelfTest b x y).unit.startUp.buses } } ∧
    ∀ j, j ≠ b → (s.endSelfTest b x y).buses[j] = s.buses[j] ∧
      (s.endSelfTest b x y).unit.startUp.buses[j] = s.unit.startUp.buses[j] := by
  by_cases h : patternPasses 0x55 x = true ∧ patternPasses 0xAA y = true
  · rw [State.endSelfTest_pass s b h]
    refine ⟨?_, State.noteStartUp_unit _ _ _, fun j hj => ⟨?_, State.noteStartUp_progress_ne _ _ _ hj⟩⟩
    · obtain ⟨u, e⟩ := State.noteStartUp_frame (s.setBus b (s.buses[b].wake s.now)) b
        fun z => { z with progress := .rollcall }
      rw [e]
      rfl
    · rw [State.noteStartUp_buses]
      exact getElem_put_ne _ _ _ _ hj
  · rw [State.endSelfTest_fail s b h]
    refine ⟨?_, State.noteStartUp_unit _ _ _, fun j hj => ⟨?_, State.noteStartUp_progress_ne _ _ _ hj⟩⟩
    · obtain ⟨u, e⟩ := State.noteStartUp_frame
        ((s.setBus b { s.buses[b] with state := .failed (patternPasses 0x55 x) }).raise .bus) b
        fun z => { z with progress := .failed }
      rw [e]
      rfl
    · rw [State.noteStartUp_buses]
      exact getElem_put_ne _ _ _ _ hj

/-! ### The stuck line -/

/-- The bus record of a bus that goes STUCK (R75, R90, R98). -/
theorem Bus.toStuck_eq (x : Bus) (level : Level) (now : Nat) : x.toStuck level now =
    { x with
      state := .stuck level (now + Config.sec 5)
      frame := none
      switchPending := false
      maskChanged := false
      rollCall := if x.state = .rollcall then { x.rollCall with progress := .abandoned, working := [] } else x.rollCall
      round := ⟨x.round.index, x.round.start, none, none⟩ } := by
  by_cases h : x.state = .rollcall
  · simp [Bus.toStuck, h, Config.stuckRetry]
  · simp [Bus.toStuck, h, Config.stuckRetry]

/-- The string of a bus that goes STUCK: one that leaves POLLING has no module online (R41). -/
def State.stuckString (s : State) (b : Fin 8) : State :=
  if s.buses[b].state = .polling then s.stringLeavesPolling b else s

/-- A bus that has gone STUCK, before the start-up record takes it. -/
def State.stuckBus (s : State) (b : Fin 8) (level : Level) : State :=
  ((s.stuckString b).setBus b (s.buses[b].toStuck level s.now)).raise .bus

theorem State.goStuck_eq (s : State) (b : Fin 8) (level : Level) : s.goStuck b level =
    (s.stuckBus b level).noteStartUp b fun z => { z with progress := .rollcall, stuckSeen := true } := by
  by_cases h : s.buses[b].state = .polling
  · simp only [State.goStuck, State.stuckBus, State.stuckString, if_pos h, if_pos ((Bus.isPolling_iff _).2 h)]
    rfl
  · simp only [State.goStuck, State.stuckBus, State.stuckString, if_neg h, if_neg (mt (Bus.isPolling_iff _).1 h)]

theorem State.stuckString_frame (s : State) (b : Fin 8) :
    s.stuckString b = { s with strings := (s.stuckString b).strings } ∧
    (s.stuckString b).strings[b] = (if s.buses[b].state = .polling then
      { s.strings[b] with onlineCount := 0, voltage := 0 } else s.strings[b]) ∧
    ∀ j, j ≠ b → (s.stuckString b).strings[j] = s.strings[j] := by
  rw [State.stuckString]
  split
  · exact ⟨rfl, getElem_put_self _ _ _, fun j hj => getElem_put_ne _ _ _ _ hj⟩
  · exact ⟨rfl, rfl, fun _ _ => rfl⟩

theorem State.stuckBus_eq (s : State) (b : Fin 8) (level : Level) : s.stuckBus b level = { s with
    buses := put s.buses b (s.buses[b].toStuck level s.now), strings := (s.stuckString b).strings
    attention := s.attention.raise .bus } := by
  obtain ⟨hs, -, -⟩ := s.stuckString_frame b
  rw [State.stuckBus, hs]
  rfl

theorem State.stuckBus_unit (s : State) (b : Fin 8) (level : Level) : (s.stuckBus b level).unit = s.unit := by
  rw [State.stuckBus_eq]

/-- What a bus that goes STUCK changes before the event settles. -/
theorem State.goStuck_spec (s : State) (b : Fin 8) (level : Level) :
    s.goStuck b level = { s with
      buses := put s.buses b (s.buses[b].toStuck level s.now), strings := (s.stuckString b).strings
      attention := s.attention.raise .bus, unit := (s.goStuck b level).unit } ∧
    ((∃ l, s.unit.startUp.phase = .running l) → (s.goStuck b level).unit.startUp.buses[b] = ⟨.rollcall, true⟩) ∧
    ((∃ c, s.unit.startUp.phase = .ended c) → (s.goStuck b level).unit = s.unit) := by
  rw [State.goStuck_eq]
  refine ⟨?_, fun h => ?_, fun ⟨c, h⟩ => ?_⟩
  · obtain ⟨u, e⟩ := State.noteStartUp_frame (s.stuckBus b level) b
      fun z => { z with progress := .rollcall, stuckSeen := true }
    rw [e, State.stuckBus_eq]
  · rw [State.noteStartUp_progress_self _ b _ (by rwa [State.stuckBus_unit])]
  · rw [← State.stuckBus_unit s b level] at h
    rw [State.noteStartUp_eq_of_ended _ b _ h, State.stuckBus_unit]

/-- A line at one level for 15 bit times is stuck where it is low or has been so from the gap's start (R68). -/
theorem lineWatch_isStuck_iff (w : LineWatch) :
    LineWatch.isStuck w = true ↔ 15 ≤ w.bitTimes ∧ (w.level = .low ∨ w.fromGapStart = true) := by
  rw [LineWatch.isStuck, Bool.and_eq_true, Bool.or_eq_true, beq_iff_eq, decide_eq_true_iff, Config.stuckBits]

theorem Bus.watched_of {x : Bus} {f : Frame} (hf : x.frame = some f) (hs : x.state = .rollcall ∨ x.state = .polling) :
    x.watched = true := by
  simpa [Bus.watched, hf] using hs

/-! ### The events -/

theorem exec_selftestEnd {s : State} {b : Fin 8} {e : Nat} (h : s.buses[b].state = .selftest e) (x y : Option BusChar) :
    exec (.selftestEnd b x y) s = .next (s.endSelfTest b x y).settle := by
  show execSelftestEnd b x y s = _
  simp only [execSelftestEnd, h]

theorem exec_wakePulseEnd {s : State} {b : Fin 8} {x e : Nat} (h : s.buses[b].state = .waking (some x) e) :
    exec (.wakePulseEnd b) s = .next (s.setBus b { s.buses[b] with state := .waking none e }) := by
  show execWakePulseEnd b s = _
  simp only [execWakePulseEnd, h]

theorem exec_wakeEnd {s : State} {b : Fin 8} {p : Option Nat} {e : Nat} (h : s.buses[b].state = .waking p e) :
    exec (.wakeEnd b) s = .next (s.setBus b (s.buses[b].enterRollCall s.now)).settle := by
  show execWakeEnd b s = _
  simp only [execWakeEnd, h]

theorem exec_stuckRetryEnd {s : State} {b : Fin 8} {l : Level} {e : Nat} (h : s.buses[b].state = .stuck l e) :
    exec (.stuckRetryEnd b) s = .next (s.setBus b (s.buses[b].wake s.now)) := by
  show execStuckRetryEnd b s = _
  simp only [execStuckRetryEnd, h]

theorem exec_stuckLine {s : State} {b : Fin 8} {w : LineWatch} (h : s.buses[b].watched = true) :
    exec (.stuckLine b w) s = .next (if LineWatch.isStuck w = true then (s.goStuck b w.level).settle else s) := by
  show execStuckLine b w s = _
  rw [execStuckLine, h, Bool.true_and]

/-- Settles O31: each event at its bus, with what it hands to string, start-up record and flags. -/
theorem busStateEvents : Obligations.BusStateEvents := by
  refine ⟨fun s b => ⟨fun e x y he => ?_, fun x e he => exec_wakePulseEnd he,
    fun p e he => settles_of_exec (exec_wakeEnd he),
    fun l e he => (exec_stuckRetryEnd he).trans (by rw [Bus.wake_eq])⟩, fun s b w f hf hs => ⟨?_, ?_⟩⟩
  · obtain ⟨hframe, hunit, hne⟩ := s.endSelfTest_frame b x y
    refine ⟨s.endSelfTest b x y, settles_of_exec (exec_selftestEnd he x y), hframe, hunit, hne,
      fun h => ?_, fun h => ?_⟩
    · rw [State.endSelfTest_pass s b h]
      refine ⟨?_, State.noteStartUp_attention _ _ _, fun hr =>
        congrArg BusStart.progress (State.noteStartUp_progress_self (s.setBus b (s.buses[b].wake s.now)) b _ hr)⟩
      rw [State.noteStartUp_buses]
      exact getElem_put_self _ _ _
    · rw [State.endSelfTest_fail s b h]
      refine ⟨?_, ?_, fun hr => congrArg BusStart.progress (State.noteStartUp_progress_self ((s.setBus b
        { s.buses[b] with state := .failed (patternPasses 0x55 x) }).raise .bus) b _ hr)⟩
      · rw [State.noteStartUp_buses]
        exact getElem_put_self _ _ _
      · rw [State.noteStartUp_flagged, State.raise_flagged_self]
  · intro h15 hlow
    obtain ⟨hframe, hrun, hended⟩ := s.goStuck_spec b w.level
    obtain ⟨-, hstring, hstrings⟩ := s.stuckString_frame b
    have hbuses : (s.goStuck b w.level).buses = put s.buses b (s.buses[b].toStuck w.level s.now) := by rw [hframe]
    have hstr : (s.goStuck b w.level).strings = (s.stuckString b).strings := by rw [hframe]
    refine ⟨s.goStuck b w.level, settles_of_exec ?_, ?_, ?_, fun j hj => ⟨?_, ?_⟩, ?_, ?_, hrun, hended⟩
    · rw [exec_stuckLine (Bus.watched_of hf hs), if_pos ((lineWatch_isStuck_iff w).2 ⟨h15, hlow⟩)]
    · rw [hframe]
    · rw [State.goStuck_eq, State.noteStartUp_flagged, State.stuckBus, State.raise_flagged_self]
    · rw [hbuses]
      exact getElem_put_ne _ _ _ _ hj
    · rw [hstr, hstrings j hj]
    · rw [hbuses, ← Bus.toStuck_eq]
      exact getElem_put_self _ _ _
    · rw [hstr, hstring]
  · intro h15
    rw [exec_stuckLine (Bus.watched_of hf hs), if_neg]
    rw [lineWatch_isStuck_iff]
    omega

end Sys2Proof.Machine
end

section
/-! PROOF. The completion of a round and of a roll call (O37). -/

namespace Sys2Proof.Machine

open Sys2Proof Sys2Proof.Safety Sys2Proof.Claims

/-! ### Tables and lists -/

/-- A second replacement of an entry is the one that stands. -/
theorem put_put {α : Type} {n : Nat} (v : Vector α n) (i : Fin n) (x y : α) : put (put v i x) i y = put v i y := by
  simp [put, Vector.set_set]

/-- The entry that was replaced, read by its index. -/
theorem getElem_put_eq {α : Type} {n : Nat} (v : Vector α n) (i : Fin n) (x : α) : (put v i x)[i] = x :=
  getElem_put_self v i x

theorem State.setBus_setBus (s : State) (b : Fin 8) (x y : Bus) : (s.setBus b x).setBus b y = s.setBus b y := by
  rw [State.setBus, State.setBus, put_put]
  rfl

theorem State.setBus_bus (s : State) (b : Fin 8) (x : Bus) : (s.setBus b x).buses[b] = x := getElem_put_eq _ _ _

theorem State.setBus_bus_ne (s : State) {b j : Fin 8} (x : Bus) (h : j ≠ b) : (s.setBus b x).buses[j] = s.buses[j] :=
  getElem_put_ne _ _ _ _ h

/-- In a list in address order a search finds the lowest entry with a property. -/
theorem find?_lowest {l : List Entry} {P : Entry → Bool} {e : Entry} (hs : l.Pairwise fun d f => d.address < f.address)
    (he : e ∈ l) (hP : P e = true) (hl : ∀ d ∈ l, P d = true → e.address ≤ d.address) : l.find? P = some e := by
  induction l with
  | nil => cases he
  | cons x xs ih =>
    obtain ⟨hx, hs⟩ := List.pairwise_cons.1 hs
    rcases List.mem_cons.1 he with rfl | he
    · rw [List.find?_cons_of_pos hP]
    · have hno : ¬P x = true := fun h => absurd (hl x List.mem_cons_self h) (hx e he).not_ge
      rw [List.find?_cons_of_neg hno]
      exact ih hs he fun d hd => hl d (List.mem_cons_of_mem _ hd)

/-! ### The completion of a round -/

@[simp] theorem State.checkMatchOf_buses (s : State) (b : Fin 8) : (s.checkMatchOf b).buses = s.buses := by
  rw [State.checkMatchOf]; split <;> simp

@[simp] theorem State.checkMatchOf_unit (s : State) (b : Fin 8) : (s.checkMatchOf b).unit = s.unit := by
  rw [State.checkMatchOf]; split <;> simp

@[simp] theorem State.checkMatchOf_now (s : State) (b : Fin 8) : (s.checkMatchOf b).now = s.now := by
  rw [State.checkMatchOf]; split <;> simp

@[simp] theorem State.checkMatchOf_attention (s : State) (b : Fin 8) : (s.checkMatchOf b).attention = s.attention := by
  rw [State.checkMatchOf]; split <;> simp

@[simp] theorem State.noteFirstRound_buses (s : State) (b : Fin 8) : (s.noteFirstRound b).buses = s.buses := by
  rw [State.noteFirstRound]; split <;> simp

@[simp] theorem State.noteFirstRound_active (s : State) (b : Fin 8) :
    (s.noteFirstRound b).unit.active = s.unit.active := by
  rw [State.noteFirstRound]; split <;> simp

@[simp] theorem State.noteFirstRound_now (s : State) (b : Fin 8) : (s.noteFirstRound b).now = s.now := by
  rw [State.noteFirstRound]; split <;> simp

@[simp] theorem State.noteFirstRound_attention (s : State) (b : Fin 8) :
    (s.noteFirstRound b).attention = s.attention := by
  rw [State.noteFirstRound]; split <;> simp

/-- The last stage of a settling may end start-up, and it leaves the progress of the buses. -/
theorem State.startUpStage_progress (s : State) : s.startUpStage.unit.startUp.buses = s.unit.startUp.buses := by
  unfold State.startUpStage
  split
  · rfl
  · split <;> rfl

/-- The settling of an event leaves the progress of the buses in the start-up record. -/
theorem State.settle_progress (s : State) : s.settle.unit.startUp.buses = s.unit.startUp.buses := by
  rw [State.settle, State.settleWith_eq, State.startUpStage_progress, State.linkStage_unit, State.evaluateStage_unit]
  simp [State.beforeEvaluation]

/-- A bus whose round has no entry left to visit. -/
def Bus.roundDone (x : Bus) : Bus := { x with frame := none, round := { x.round with position := none } }

/-- The state in which a completed round's TARGET frame is judged due: aggregated, matched, noted and settled (R96). -/
def State.roundSettled (s : State) (b : Fin 8) : State :=
  State.settle (State.noteFirstRound (State.checkMatchOf ((s.setBus b s.buses[b].roundDone).aggregate b) b) b)

/-- What follows a round that is complete and settled: a TARGET frame where it is due, else the round's end (R96). -/
def State.afterRound (u : State) (b : Fin 8) : State :=
  if targetDue u.buses[b].lastTarget u.strings[b].target u.buses[b].round.index then
    u.setBus b (u.buses[b].startFrame .target 0 u.now)
  else u.endRound b

theorem State.completeRound_eq (s : State) (b : Fin 8) : s.completeRound b = (s.roundSettled b).afterRound b := by
  unfold State.completeRound State.afterRound State.roundSettled Bus.roundDone
  dsimp only

theorem State.roundSettled_buses (s : State) (b : Fin 8) :
    (s.roundSettled b).buses = put s.buses b s.buses[b].roundDone := by
  simp [State.roundSettled]

theorem State.roundSettled_bus (s : State) (b : Fin 8) : (s.roundSettled b).buses[b] = s.buses[b].roundDone := by
  rw [State.roundSettled_buses, getElem_put_eq]

theorem State.roundSettled_now (s : State) (b : Fin 8) : (s.roundSettled b).now = s.now := by simp [State.roundSettled]

theorem State.roundSettled_active (s : State) (b : Fin 8) : (s.roundSettled b).unit.active = s.unit.active := by
  simp [State.roundSettled]

/-- The first round of a bus is reported to the start-up record (R96, R196). -/
theorem State.roundSettled_progress (s : State) (b : Fin 8) (h1 : s.buses[b].round.index = 1)
    (hr : ∃ l, s.unit.startUp.phase = .running l) : (s.roundSettled b).unit.startUp.buses[b].progress = .polled := by
  rw [State.roundSettled, State.settle_progress, State.noteFirstRound, if_pos]
  · rw [State.noteStartUp_progress_self]
    simpa using hr
  · rw [State.checkMatchOf_buses, State.aggregate_buses, State.setBus_bus]
    exact h1

theorem State.roundSettled_keepsFlags (s : State) (b : Fin 8) : s.KeepsFlags (s.roundSettled b) := by
  rw [State.roundSettled, State.settle]
  have h1 : s.KeepsFlags (s.setBus b s.buses[b].roundDone) := .of_eq (State.setBus_attention _ _ _)
  have h2 := h1.trans (State.aggregate_senses _ b).flags
  refine (h2.trans (.of_eq ?_)).trans (State.settleWith_announces _ none).flags
  simp

/-- A TARGET broadcast is due in a tenth round, with none sent yet, and where target or enable has moved (R96). -/
theorem targetDue_iff (last : Option Target) (now : Target) (index : Nat) : targetDue last now index = true ↔
    index = 10 ∨ ∀ l, last = some l →
      l.millivolts + 5 ≤ now.millivolts ∨ now.millivolts + 5 ≤ l.millivolts ∨ l.enable ≠ now.enable := by
  cases last with
  | none => simp [targetDue]
  | some t =>
    simp only [targetDue, Bool.or_eq_true, decide_eq_true_eq, bne_iff_ne, beq_iff_eq, Option.some.injEq, forall_eq']
    by_cases he : t.enable = now.enable
    · simp only [he, ne_eq, not_true_eq_false, or_false]
      omega
    · simp [he]

theorem targetDue_target_iff (last : Option Target) (r : StringRec) (index : Nat) :
    targetDue last r.target index = true ↔ index = 10 ∨ ∀ l, last = some l →
      l.millivolts + 5 ≤ r.bleedTarget ∨ r.bleedTarget + 5 ≤ l.millivolts ∨ l.enable ≠ r.bleeding :=
  targetDue_iff last r.target index

/-- The interval of a round by the band (R97). -/
theorem pollInterval_eq (base : Nat) (band : Fin 8) : pollInterval base band =
    Config.ms base / (if band = 3 ∨ band = 4 then 1 else if band = 2 ∨ band = 5 then 2 else 4) := by
  fin_cases band <;> simp [pollInterval]

/-- A bus on whose frame and round alone the poll round has worked, the round's index and start standing. -/
def Bus.Polls (x y : Bus) : Prop :=
  y = { x with frame := y.frame, round := ⟨x.round.index, x.round.start, y.round.nextStart, y.round.position⟩ }

theorem State.completeRound_polls (s : State) (b : Fin 8) : s.buses[b].Polls (s.completeRound b).buses[b] := by
  rw [State.completeRound_eq, State.afterRound]
  split
  · rw [State.setBus_bus, State.roundSettled_bus]
    rfl
  · rw [State.endRound, State.setBus_bus, State.roundSettled_bus]
    rfl

theorem State.completeRound_others (s : State) {b j : Fin 8} (h : j ≠ b) :
    (s.completeRound b).buses[j] = s.buses[j] := by
  have hj : (s.roundSettled b).buses[j] = s.buses[j] := by
    rw [State.roundSettled_buses]
    exact getElem_put_ne _ _ _ _ h
  rw [State.completeRound_eq, State.afterRound]
  split
  · rw [State.setBus_bus_ne _ _ h, hj]
  · rw [State.endRound, State.setBus_bus_ne _ _ h, hj]

theorem State.completeRound_keepsFlags (s : State) (b : Fin 8) : s.KeepsFlags (s.completeRound b) := by
  rw [State.completeRound_eq, State.afterRound]
  split <;> exact (s.roundSettled_keepsFlags b).trans (.of_eq (State.setBus_attention _ _ _))

/-! ### The visit of the next entry -/

theorem State.visitAbove_none {s : State} {b : Fin 8} {above : Nat} (h : s.buses[b].nextVisit above = none) :
    s.visitAbove b above = s.completeRound b := by
  rw [State.visitAbove, h]

theorem State.visitAbove_some {s : State} {b : Fin 8} {above : Nat} {e : Entry}
    (h : s.buses[b].nextVisit above = some e) : s.visitAbove b above = s.setBus b { s.buses[b] with
      frame := some ⟨e.exchange, e.address, s.now, none, none⟩
      round := { s.buses[b].round with position := some e.address } } := by
  rw [State.visitAbove, h]
  rfl

theorem State.visitAbove_polls (s : State) (b : Fin 8) (above : Nat) :
    s.buses[b].Polls (s.visitAbove b above).buses[b] := by
  cases h : s.buses[b].nextVisit above with
  | none => rw [State.visitAbove_none h]; exact s.completeRound_polls b
  | some e => rw [State.visitAbove_some h, State.setBus_bus]; rfl

theorem State.visitAbove_others (s : State) {b j : Fin 8} (above : Nat) (hj : j ≠ b) :
    (s.visitAbove b above).buses[j] = s.buses[j] := by
  cases h : s.buses[b].nextVisit above with
  | none => rw [State.visitAbove_none h, State.completeRound_others s hj]
  | some e => rw [State.visitAbove_some h, State.setBus_bus_ne _ _ hj]

theorem State.visitAbove_keepsFlags (s : State) (b : Fin 8) (above : Nat) : s.KeepsFlags (s.visitAbove b above) := by
  cases h : s.buses[b].nextVisit above with
  | none => rw [State.visitAbove_none h]; exact s.completeRound_keepsFlags b
  | some e => rw [State.visitAbove_some h]; exact .of_eq rfl

/-- No entry above an address is visited (R94). -/
theorem Bus.nextVisit_none {x : Bus} {above : Nat}
    (h : ∀ e ∈ x.roster, above < e.address → e.state = .missing ∧ x.round.index ≠ 10) : x.nextVisit above = none := by
  refine List.find?_eq_none.2 fun e he hv => ?_
  rw [Bool.and_eq_true, decide_eq_true_eq] at hv
  obtain ⟨hm, h10⟩ := h e he hv.1
  simp [Entry.visited, hm, h10] at hv

/-- In a first round the lowest entry that is not MISSING is visited (R94). -/
theorem Bus.nextVisit_first {x : Bus} {e : Entry} (h1 : x.round.index = 1)
    (hs : x.roster.Pairwise fun d f => d.address < f.address) (h0 : ∀ d ∈ x.roster, 0 < d.address) (he : e ∈ x.roster)
    (hm : e.state ≠ .missing) (hl : ∀ d ∈ x.roster, d.state ≠ .missing → e.address ≤ d.address) :
    x.nextVisit 0 = some e := by
  refine find?_lowest hs he ?_ fun d hd hv => hl d hd ?_
  · simp [Entry.visited, h0 e he, hm]
  · simpa [Entry.visited, h1, h0 d hd] using hv

/-! ### Exchanges that end with their window -/

theorem exec_responseWindowEnd {s : State} {b : Fin 8} {f : Frame} (chars : List BusChar)
    (hf : s.buses[b].frame = some f) (hg : f.gapEnd = none) (hk : f.kind = .summary ∨ f.kind = .probe) :
    exec (.responseWindowEnd b chars) s = .next (s.judgeExchange b f chars).settle := by
  have ho : s.buses[b].openExchange [.summary, .probe] = some f := by
    rw [Bus.openExchange, hf]
    rcases hk with hk | hk <;> simp [Option.filter, hg, hk]
  show execResponseWindowEnd b chars s = _
  simp only [execResponseWindowEnd, State.endExchange, ho]

theorem State.judgeExchange_failed {s : State} {b : Fin 8} {f : Frame} {chars : List BusChar} {why : FailKind}
    (h : judgeAnswer f.kind f.address (Machine.answerOf f.kind chars) = some why) :
    s.judgeExchange b f chars = s.failedExchange b f.kind f.address why := by
  simp only [State.judgeExchange, h]

/-- A good answer to a PROBE of a roll call (R88). -/
theorem State.judgeExchange_probe {s : State} {b : Fin 8} {f : Frame} {chars : List BusChar} {x : Probe}
    (hk : f.kind = .probe) (hs : s.buses[b].state = .rollcall)
    (h : judgeAnswer .probe f.address (Machine.answerOf .probe chars) = none)
    (hx : decodeProbe ((Machine.answerOf .probe chars).map (·.value)).dropLast = some x) :
    s.judgeExchange b f chars = (s.setBus b { s.buses[b] with
      rollCall := s.buses[b].rollCall.answer f.address x (s.unit.active.expects b f.address) }).nextProbe
        b f.address := by
  rw [← hk] at h hx
  unfold State.judgeExchange
  simp only [h, hx, hs]
  rw [hk]

theorem State.fail_state {s : State} {b : Fin 8} {x : BusState} (h : s.buses[b].state = x) (address : Nat)
    (why : FailKind) : (s.setBus b (s.buses[b].fail why address)).buses[b].state = x := by
  rw [State.setBus_bus]
  exact h

theorem State.failedExchange_summary {s : State} {b : Fin 8} (h : s.buses[b].state = .polling) (address : Nat)
    (why : FailKind) : s.failedExchange b .summary address why = State.afterExchange (State.settle
      ((s.setBus b (s.buses[b].fail why address)).updateRoster b address Entry.failedSummary)) b address := by
  unfold State.failedExchange
  dsimp only
  rw [State.fail_state h]

theorem State.failedExchange_probe {s : State} {b : Fin 8} (h : s.buses[b].state = .rollcall) (address : Nat)
    (why : FailKind) : s.failedExchange b .probe address why =
      (s.setBus b (s.buses[b].fail why address)).nextProbe b address := by
  unfold State.failedExchange
  dsimp only
  rw [State.fail_state h]

/-- A good PROBE answer has its values. -/
theorem decodeProbe_of_good {address : Nat} {answer : List BusRx} (h : judgeAnswer .probe address answer = none) :
    ∃ x, decodeProbe (answer.map (·.value)).dropLast = some x := by
  have hlen : 3 ≤ answer.length := by
    by_contra hlt
    simp only [judgeAnswer] at h
    split_ifs at h with _ _ hshort
    exact hshort (by simp only [List.length_take, FrameKind.expected]; omega)
  match answer, hlen with
  | a :: b :: c :: rest, _ => exact ⟨_, rfl⟩

end Sys2Proof.Machine
end

section
/-! PROOF. The completion of a roll call, and the completions settled (O37). -/

namespace Sys2Proof.Machine

open Sys2Proof Sys2Proof.Safety Sys2Proof.Claims

/-! ### The roster of a roll call -/

/-- A status reports an internal fault exactly when one of its bits 0, 1 and 2 is set (11.2). -/
theorem statusFault_iff (v : Byte) : statusFault v = true ↔ v &&& 7 ≠ 0 := by
  revert v; decide

theorem newEntry_address {expected : Bool} {item : Option CallItem} {cells address : Nat} {e : Entry}
    (h : newEntry expected item cells address = some e) : e.address = address := by
  cases expected <;> cases item <;> simp only [newEntry, Option.some.injEq, reduceCtorEq] at h <;> rw [← h]

/-- The roster of a roll call address by address, from bit 0 of the mask on (R89). -/
theorem buildRoster_eq (p : Profile) (i : Fin 8) (working : List CallItem) : buildRoster p i working =
    (List.range 24).filterMap fun n =>
      newEntry (p.expected[i].getLsbD n) (working.find? fun x => x.address == n + 1) p.cells[i] (n + 1) := by
  have h : allAddresses = (List.range 24).map (· + 1) := by decide
  rw [buildRoster, h, List.filterMap_map]
  refine List.filterMap_congr fun n _ => ?_
  simp [Profile.expects]

theorem buildRoster_sorted (p : Profile) (i : Fin 8) (working : List CallItem) :
    (buildRoster p i working).Pairwise fun d e => d.address < e.address := by
  rw [buildRoster_eq]
  refine List.pairwise_lt_range.filterMap _ fun m n hmn d hd e he => ?_
  rw [newEntry_address hd, newEntry_address he]
  omega

theorem buildRoster_pos {p : Profile} {i : Fin 8} {working : List CallItem} {e : Entry}
    (h : e ∈ buildRoster p i working) : 0 < e.address := by
  rw [buildRoster_eq, List.mem_filterMap] at h
  obtain ⟨n, -, hn⟩ := h
  rw [newEntry_address hn]
  omega

/-! ### The completion of a roll call -/

/-- The bus of a roll call that is complete, its round not started yet (R89). -/
def Bus.called (x : Bus) (roster : List Entry) : Bus :=
  { x with
    state := .polling
    frame := none
    roster := roster
    rollCall := ⟨.idle, x.rollCall.found, roster.countP (·.state == .extra), false, []⟩
    round := ⟨0, x.round.start, none, none⟩ }

/-- The roster that a roll call's working list gives. -/
def State.calledRoster (s : State) (b : Fin 8) : List Entry := buildRoster s.unit.active b s.buses[b].rollCall.working

/-- The part with the roll call of a bus complete and announced. -/
def State.called (s : State) (b : Fin 8) : State :=
  ((s.setBus b (s.buses[b].called (s.calledRoster b))).raiseIf
    (decide (0 < (s.calledRoster b).countP (·.state == .extra)) || s.buses[b].rollCall.requested) .bus).noteStartUp b
    fun z => { z with progress := .firstRound }

/-- The part with the first round of a bus begun, no entry visited yet (R93). -/
def State.firstRound (s : State) (b : Fin 8) : State :=
  (s.called b).setBus b { s.buses[b].called (s.calledRoster b) with round := ⟨1, some s.now, none, none⟩ }

theorem State.called_bus (s : State) (b : Fin 8) : (s.called b).buses[b] = s.buses[b].called (s.calledRoster b) := by
  rw [State.called, State.noteStartUp_buses, State.raiseIf_buses, State.setBus_bus]

theorem State.called_now (s : State) (b : Fin 8) : (s.called b).now = s.now := by simp [State.called]

theorem State.completeRollCall_eq (s : State) (b : Fin 8) :
    s.completeRollCall b = (s.firstRound b).visitAbove b 0 := by
  have h : s.completeRollCall b = (s.called b).startRound b := by
    unfold State.completeRollCall State.called State.calledRoster Bus.called
    dsimp only
  rw [h, State.startRound, State.firstRound, State.called_bus, State.called_now]
  rfl

theorem State.firstRound_bus (s : State) (b : Fin 8) : (s.firstRound b).buses[b] =
    { s.buses[b].called (s.calledRoster b) with round := ⟨1, some s.now, none, none⟩ } := State.setBus_bus _ _ _

theorem State.firstRound_others (s : State) {b j : Fin 8} (h : j ≠ b) : (s.firstRound b).buses[j] = s.buses[j] := by
  rw [State.firstRound, State.setBus_bus_ne _ _ h, State.called, State.noteStartUp_buses, State.raiseIf_buses,
    State.setBus_bus_ne _ _ h]

/-- An EXTRA entry or a requested call sets the BUS flag (R89). -/
theorem State.firstRound_flagged (s : State) (b : Fin 8)
    (h : (∃ e ∈ s.calledRoster b, e.state = .extra) ∨ s.buses[b].rollCall.requested = true) :
    (s.firstRound b).flagged .bus = true := by
  have hc : (decide (0 < (s.calledRoster b).countP (·.state == .extra)) || s.buses[b].rollCall.requested) = true := by
    simpa [List.countP_pos_iff] using h
  rw [State.firstRound, State.flagged, State.setBus_attention, ← State.flagged, State.called,
    State.noteStartUp_flagged]
  exact State.raiseIf_flagged_self _ _ _ hc

theorem State.firstRound_progress (s : State) (b : Fin 8) (h : ∃ l, s.unit.startUp.phase = .running l) :
    (s.firstRound b).unit.startUp.buses[b].progress = .firstRound := by
  rw [State.firstRound, State.setBus_unit, State.called, State.noteStartUp_progress_self]
  simpa using h

theorem Bus.Polls.fields {x y : Bus} (h : x.Polls y) : y.state = x.state ∧ y.roster = x.roster ∧
    y.rollCall = x.rollCall ∧ y.round.index = x.round.index ∧ y.round.start = x.round.start := by
  rw [Bus.Polls] at h
  refine ⟨?_, ?_, ?_, ?_, ?_⟩ <;> rw [h]

/-- The bus after its roll call is complete (R89, R93). -/
theorem State.completeRollCall_bus (s : State) (b : Fin 8) :
    (s.completeRollCall b).buses[b].state = .polling ∧ (s.completeRollCall b).buses[b].roster = s.calledRoster b ∧
    (s.completeRollCall b).buses[b].rollCall =
      ⟨.idle, s.buses[b].rollCall.found, (s.calledRoster b).countP (·.state == .extra), false, []⟩ ∧
    (s.completeRollCall b).buses[b].round.index = 1 ∧ (s.completeRollCall b).buses[b].round.start = some s.now := by
  have h := (s.firstRound b).visitAbove_polls b 0
  rw [← State.completeRollCall_eq, State.firstRound_bus] at h
  exact h.fields

theorem State.completeRollCall_others (s : State) {b j : Fin 8} (h : j ≠ b) :
    (s.completeRollCall b).buses[j] = s.buses[j] := by
  rw [State.completeRollCall_eq, State.visitAbove_others _ _ h, State.firstRound_others s h]

theorem State.completeRollCall_flagged (s : State) (b : Fin 8)
    (h : (∃ e ∈ s.calledRoster b, e.state = .extra) ∨ s.buses[b].rollCall.requested = true) :
    (s.completeRollCall b).flagged .bus = true := by
  rw [State.completeRollCall_eq]
  exact State.visitAbove_keepsFlags _ b 0 _ (s.firstRound_flagged b h)

/-- Round 1 begins with the lowest entry that is not MISSING (R93, R94). -/
theorem State.completeRollCall_visits (s : State) {b : Fin 8} {e : Entry} (he : e ∈ s.calledRoster b)
    (hm : e.state ≠ .missing) (hl : ∀ d ∈ s.calledRoster b, d.state ≠ .missing → e.address ≤ d.address) :
    (s.completeRollCall b).buses[b].frame = some ⟨.summary, e.address, s.now, none, none⟩ ∧
    (s.completeRollCall b).buses[b].round.position = some e.address ∧
    ((∃ l, s.unit.startUp.phase = .running l) →
      (s.completeRollCall b).unit.startUp.buses[b].progress = .firstRound) := by
  have hv : (s.firstRound b).buses[b].nextVisit 0 = some e := by
    rw [State.firstRound_bus]
    exact Bus.nextVisit_first rfl (buildRoster_sorted _ _ _) (fun d hd => buildRoster_pos hd) he hm hl
  have hnow : (s.firstRound b).now = s.now := by rw [State.firstRound, State.setBus_now, State.called_now]
  have hx : e.exchange = .summary := if_neg hm
  rw [State.completeRollCall_eq, State.visitAbove_some hv, State.setBus_bus, hnow, hx]
  exact ⟨rfl, rfl, s.firstRound_progress b⟩

/-! ### The events -/

/-- A window that ends without a good answer to the last entry moves the entry, and the round goes on above it (R85). -/
theorem exec_failedSummary {s : State} {b : Fin 8} {f : Frame} {chars : List BusChar} {why : FailKind}
    (hs : s.buses[b].state = .polling) (hf : s.buses[b].frame = some f) (hg : f.gapEnd = none) (hk : f.kind = .summary)
    (hp : s.buses[b].switchPending = false)
    (hj : judgeAnswer .summary f.address (Machine.answerOf .summary chars) = some why) :
    exec (.responseWindowEnd b chars) s = .next (State.settle (State.visitAbove (State.settle
      ((s.setBus b (s.buses[b].fail why f.address)).updateRoster b f.address Entry.failedSummary)) b f.address)) := by
  rw [← hk] at hj
  rw [exec_responseWindowEnd chars hf hg (.inl hk), State.judgeExchange_failed hj, hk, State.failedExchange_summary hs,
    State.afterExchange, if_neg]
  rw [State.settle_buses, State.updateRoster, State.setBus_bus, State.setBus_bus]
  exact Bool.eq_false_iff.1 hp

/-- The PROBE to address 24 completes the roll call, a good answer being counted and listed (R88, R89). -/
theorem exec_lastProbe {s : State} {b : Fin 8} {f : Frame} {chars : List BusChar} {working : List CallItem}
    (hs : s.buses[b].state = .rollcall) (hf : s.buses[b].frame = some f) (hg : f.gapEnd = none) (hk : f.kind = .probe)
    (ha : f.address = 24)
    (hbad : (judgeAnswer .probe 24 (Machine.answerOf .probe chars)).isNone = false →
      working = s.buses[b].rollCall.working)
    (hgood : (judgeAnswer .probe 24 (Machine.answerOf .probe chars)).isNone = true →
      ∀ x, decodeProbe ((Machine.answerOf .probe chars).map (·.value)).dropLast = some x →
        working = s.buses[b].rollCall.working ++ [⟨24, x⟩]) :
    ∃ x : Bus, exec (.responseWindowEnd b chars) s = .next ((s.setBus b x).completeRollCall b).settle ∧
      x.rollCall.working = working ∧ x.rollCall.requested = s.buses[b].rollCall.requested ∧
      x.rollCall.found = s.buses[b].rollCall.found +
        (if (judgeAnswer .probe 24 (Machine.answerOf .probe chars)).isNone = true then 1 else 0) := by
  rw [exec_responseWindowEnd chars hf hg (.inr hk)]
  have last : ∀ t : State, t.nextProbe b f.address = t.completeRollCall b := fun t => if_neg (by omega)
  cases hj : judgeAnswer .probe 24 (Machine.answerOf .probe chars) with
  | some why =>
    have hj' : judgeAnswer f.kind f.address (Machine.answerOf f.kind chars) = some why := by rw [hk, ha, hj]
    rw [State.judgeExchange_failed hj', hk, State.failedExchange_probe hs, last]
    exact ⟨_, rfl, (hbad (by rw [hj]; rfl)).symm, rfl, rfl⟩
  | none =>
    obtain ⟨x, hx⟩ := decodeProbe_of_good hj
    rw [← ha] at hj
    rw [State.judgeExchange_probe hk hs hj hx, last]
    rw [ha] at hj
    refine ⟨_, rfl, ?_, rfl, rfl⟩
    rw [hgood (by rw [hj]; rfl) x hx, RollCall.answer, ha]

/-- Settles O37: a round with no visit left, a failed SUMMARY, and the PROBE to address 24. -/
theorem roundsAndRollCallsComplete : Obligations.RoundsAndRollCallsComplete := by
  refine ⟨fun s b above h => ?_, fun s b f chars why hs hf hg hk hp hj => ?_, fun s b f chars hs hf hg hk ha => ?_⟩
  · have hbus := s.roundSettled_bus b
    refine ⟨s.roundSettled b, s.visitAbove b above, rfl, rfl, s.roundSettled_progress b, hbus, ?_⟩
    rw [State.visitAbove_none (Bus.nextVisit_none h), State.completeRound_eq]
    intro now due
    have hdue : targetDue (s.roundSettled b).buses[b].lastTarget (s.roundSettled b).strings[b].target
        (s.roundSettled b).buses[b].round.index = true ↔ due := by
      rw [hbus]
      exact targetDue_target_iff _ (s.roundSettled b).strings[b] _
    refine ⟨fun hd => ?_, fun hd start hstart => ?_⟩
    · rw [State.afterRound, if_pos (hdue.2 hd), State.roundSettled_now]
      rfl
    · rw [State.afterRound, if_neg (mt hdue.1 hd), State.endRound, State.roundSettled_active,
        State.roundSettled_now, hbus, pollInterval_eq, max_comm]
      simp only [Bus.roundDone, hstart, Option.getD_some]
  · rw [exec_failedSummary hs hf hg hk hp hj, State.updateRoster, State.setBus_bus, State.setBus_setBus]
    rfl
  · intro answer good call working hbad hgood
    obtain ⟨x, hexec, hworking, hreq, hfound⟩ := exec_lastProbe hs hf hg hk ha hbad hgood
    have hx : (s.setBus b x).buses[b] = x := State.setBus_bus _ _ _
    have hroster : (s.setBus b x).calledRoster b = buildRoster s.unit.active b working := by
      rw [State.calledRoster, hx, hworking]
      rfl
    obtain ⟨hstate, hros, hcall, hindex, hstart⟩ := (s.setBus b x).completeRollCall_bus b
    refine ⟨_, hexec, ?_⟩
    simp only [State.settle_buses, State.settle_progress, hstate, hros, hcall, hindex, hstart]
    refine ⟨fun j hj => ?_, trivial, ?_, ?_, fun h => ?_, trivial, rfl, fun e he hm hl => ?_⟩
    · rw [State.completeRollCall_others _ hj, State.setBus_bus_ne _ _ hj]
    · rw [hroster, buildRoster_eq]
      refine List.filterMap_congr fun n _ => ?_
      cases s.unit.active.expected[b].getLsbD n with
      | false => cases working.find? (fun x => x.address == n + 1) <;> rfl
      | true =>
        cases working.find? (fun x => x.address == n + 1) with
        | none => rfl
        | some x =>
          simp only [newEntry, Probe.judge, statusFault_iff]
          split_ifs <;> rfl
    · rw [hx, hfound]
      rfl
    · exact State.settle_flagged (State.completeRollCall_flagged _ _ (h.imp_right fun hr => by rw [hx, hreq]; exact hr))
    · exact State.completeRollCall_visits _ he hm hl

end Sys2Proof.Machine
end

section
/-! SUPPORT. Where the fields of a result stand: each at its bit, within one word, with its value (11.1.6). -/

namespace Sys2Proof.Machine

open Sys2Proof Sys2Proof.Safety Sys2Proof.Claims

/-- The fields of a result, each with the bit at which it begins. -/
def placed : List Field → Nat → List (Nat × Field)
  | [], _ => []
  | f :: fs, p => (fieldStart p f.width, f) :: placed fs (fieldStart p f.width + f.width)

theorem le_fieldStart (p w : Nat) : p ≤ fieldStart p w := by
  rw [fieldStart]
  split <;> omega

theorem le_of_mem_placed {fs : List Field} {p q : Nat} {f : Field} (h : (q, f) ∈ placed fs p) : p ≤ q := by
  induction fs generalizing p with
  | nil => cases h
  | cons g gs ih =>
    have hp := le_fieldStart p g.width
    rcases List.mem_cons.1 h with e | h
    · cases e; exact hp
    · have := ih h
      omega

/-- Fields from a bit on leave the bits below it clear. -/
theorem packNat_dvd (fs : List Field) (p : Nat) : 2 ^ p ∣ packNat fs p := by
  induction fs generalizing p with
  | nil => exact dvd_zero _
  | cons f fs ih =>
    have hp := le_fieldStart p f.width
    refine dvd_add (dvd_mul_of_dvd_right (pow_dvd_pow 2 hp) _) ((pow_dvd_pow 2 ?_).trans (ih _))
    omega

/-- The number that fields make holds the value of each at its bit. -/
theorem packNat_field {fs : List Field} {p q : Nat} {f : Field} (h : (q, f) ∈ placed fs p) :
    packNat fs p / 2 ^ q % 2 ^ f.width = f.value % 2 ^ f.width := by
  induction fs generalizing p with
  | nil => cases h
  | cons g gs ih =>
    obtain ⟨k, hk⟩ := packNat_dvd gs (fieldStart p g.width + g.width)
    rw [packNat]
    rcases List.mem_cons.1 h with e | h
    · cases e
      rw [hk, pow_add, mul_assoc, mul_comm (f.value % _), ← mul_add, Nat.mul_div_cancel_left _ (by positivity),
        Nat.add_mul_mod_self_left, Nat.mod_mod]
    · rw [← ih h]
      have hq := le_of_mem_placed h
      have hlow : g.value % 2 ^ g.width * 2 ^ fieldStart p g.width < 2 ^ (fieldStart p g.width + g.width) := by
        rw [pow_add, mul_comm]
        exact Nat.mul_lt_mul_of_pos_left (Nat.mod_lt _ (by positivity)) (by positivity)
      obtain ⟨d, rfl⟩ := Nat.exists_eq_add_of_le hq
      rw [hk, pow_add 2 (fieldStart p g.width + g.width) d, ← Nat.div_div_eq_div_mul, ← Nat.div_div_eq_div_mul,
        Nat.add_mul_div_left _ _ (by positivity), Nat.div_eq_of_lt hlow, zero_add,
        Nat.mul_div_cancel_left _ (by positivity)]

/-- A result word of a number. -/
theorem resultWords_getD (n : Nat) {k : Nat} (h : k < 7) :
    (resultWords n).getD k 0 = BitVec.ofNat 16 (n / 2 ^ (16 * k)) := by
  rw [← Nat.shiftRight_eq_div_pow]
  interval_cases k <;> rfl

/-- A field of a result number that lies within one word. -/
theorem shows_resultWords {n q w v : Nat} (hw : q % 16 + w ≤ 16) (hq : q < 112) (h : n / 2 ^ q % 2 ^ w = v % 2 ^ w) :
    Shows (resultWords n) q w v := by
  obtain ⟨d, hd⟩ : ∃ d, 16 = q % 16 + d ∧ w ≤ d := ⟨16 - q % 16, by omega, by omega⟩
  have h16 : (65536 : Nat) = 2 ^ (q % 16) * 2 ^ d := by
    rw [← pow_add, ← hd.1]
    rfl
  have hsplit : 2 ^ q = 2 ^ (16 * (q / 16)) * 2 ^ (q % 16) := by rw [← pow_add, Nat.div_add_mod]
  rw [Shows, resultWords_getD n (by omega), ofNat_extract, h16, Nat.mod_mul_right_div_self,
    Nat.mod_mod_of_dvd _ (pow_dvd_pow 2 hd.2), Nat.div_div_eq_div_mul, ← hsplit, h]

/-- A field that lies within one word of packed results. -/
theorem shows_pack {fs : List Field} {q w v : Nat} (h : (q, ⟨w, v⟩) ∈ placed fs 0)
    (hw : q % 16 + w ≤ 16) (hq : q < 112) :
    Shows (pack fs) q w v := shows_resultWords hw hq (packNat_field h)

/-- Results that show every field of a layout. -/
def Lays (results : List Word) (layout : List (Nat × Field)) : Prop :=
  ∀ x ∈ layout, Shows results x.1 x.2.width x.2.value

/-- Whether a layout keeps each field within one of the seven words. -/
def layoutFits (layout : List (Nat × Field)) : Bool :=
  layout.all fun x => decide (x.1 % 16 + x.2.width ≤ 16) && decide (x.1 < 112)

/-- Packed results show their fields where the packing begins them. -/
theorem lays_pack {fs : List Field} {layout : List (Nat × Field)} (hp : placed fs 0 = layout)
    (h : layoutFits layout = true) : Lays (pack fs) layout := by
  intro x hx
  have hf := List.all_eq_true.1 h x hx
  rw [Bool.and_eq_true, decide_eq_true_eq, decide_eq_true_eq] at hf
  rw [← hp] at hx
  exact shows_pack hx hf.1 hf.2

@[simp] theorem lays_cons (results : List Word) (q w v : Nat) (layout : List (Nat × Field)) :
    Lays results ((q, ⟨w, v⟩) :: layout) ↔ Shows results q w v ∧ Lays results layout := List.forall_mem_cons

@[simp] theorem lays_nil (results : List Word) : Lays results [] ↔ True := by simp [Lays]

/-! ### Fields with parts -/

theorem opt_eq (width : Nat) (x : Option Nat) : opt width x = [⟨1, x.isSome.toNat⟩, ⟨width, x.getD 0⟩] := by
  cases x <;> rfl

theorem placeFields_eq (x : Option CellPlace) : placeFields x =
    [⟨1, x.isSome.toNat⟩, ⟨5, (x.map (·.address)).getD 0⟩, ⟨5, (x.map (·.position)).getD 0⟩] := by
  cases x <;> rfl

theorem failureFields_eq (x : Option Failure) : failureFields x =
    [⟨1, (x.map (·.kind.code)).isSome.toNat⟩, ⟨3, (x.map (·.kind.code)).getD 0⟩, ⟨5, (x.map (·.address)).getD 0⟩] := by
  cases x <;> rfl

theorem targetFields_eq (x : Option Target) : targetFields x =
    [⟨1, (x.map (·.millivolts)).isSome.toNat⟩, ⟨16, (x.map (·.millivolts)).getD 0⟩,
      ⟨1, (x.map (·.enable.toNat)).getD 0⟩] := by
  cases x <;> rfl

/-- The number of an optional byte, absent as 0. -/
theorem getD_toNat {α : Type} (x : Option α) (f : α → Byte) :
    ((x.map f).getD 0).toNat = (x.map fun v => (f v).toNat).getD 0 := by
  cases x <;> rfl

/-- A shown value written otherwise. -/
theorem shows_of_eq {r : List Word} {pos n v w : Nat} (h : Shows r pos n v) (e : v = w) : Shows r pos n w := e ▸ h

theorem showsOpt_of_eq {r : List Word} {flag pos n : Nat} {x y : Option Nat} (h : ShowsOpt r flag pos n x) (e : x = y) :
    ShowsOpt r flag pos n y := e ▸ h

end Sys2Proof.Machine
end

section
/-! PROOF. The words of the read orders and what they change (O13). -/

namespace Sys2Proof.Machine

open Sys2Proof Sys2Proof.Safety Sys2Proof.Claims

/-! ### The pages -/

/-- Page 0 of READ-STRING, field by field (R57, log 35). -/
theorem StringRec.page0_lays (r : StringRec) : Lays r.page0
    [(0, ⟨5, r.onlineCount⟩), (5, ⟨3, r.band.val⟩), (8, ⟨1, r.bandChanged.toNat⟩), (16, ⟨16, r.voltage⟩),
      (32, ⟨16, r.minCell⟩), (48, ⟨1, r.minPlace.isSome.toNat⟩), (49, ⟨5, (r.minPlace.map (·.address)).getD 0⟩),
      (54, ⟨5, (r.minPlace.map (·.position)).getD 0⟩), (64, ⟨16, r.maxCell⟩), (80, ⟨1, r.maxPlace.isSome.toNat⟩),
      (81, ⟨5, (r.maxPlace.map (·.address)).getD 0⟩), (86, ⟨5, (r.maxPlace.map (·.position)).getD 0⟩),
      (96, ⟨8, twos 8 r.minTemp⟩), (104, ⟨8, twos 8 r.maxTemp⟩)] := by
  rw [StringRec.page0, placeFields_eq, placeFields_eq]
  exact lays_pack (by simp [placed, fieldStart, fld, bit, sfld, signed, twos]) (by simp [layoutFits])

/-- Page 1 of READ-STRING, field by field (R57). -/
theorem StringRec.page1_lays (r : StringRec) : Lays r.page1
    [(0, ⟨1, r.fitted.toNat⟩), (1, ⟨3, r.band.val⟩), (4, ⟨1, r.bandChanged.toNat⟩), (5, ⟨10, r.chargeEnvelope⟩),
      (16, ⟨10, r.dischargeEnvelope⟩), (26, ⟨4, r.cause.code⟩), (32, ⟨16, r.bleedTarget⟩),
      (48, ⟨1, r.bleeding.toNat⟩)] :=
  lays_pack (by simp [placed, fieldStart, fld, bit]) (by simp [layoutFits])

/-- Page 0 of a bus, field by field (R99). -/
theorem Bus.page0_lays (x : Bus) : Lays x.page0
    [(0, ⟨3, x.state.code⟩), (3, ⟨1, x.state.stuckLevel.isSome.toNat⟩), (4, ⟨1, x.state.stuckLevel.getD 0⟩),
      (5, ⟨1, x.state.failedPattern.isSome.toNat⟩), (6, ⟨1, x.state.failedPattern.getD 0⟩),
      (7, ⟨1, (x.lastFailure.map (·.kind.code)).isSome.toNat⟩), (8, ⟨3, (x.lastFailure.map (·.kind.code)).getD 0⟩),
      (11, ⟨5, (x.lastFailure.map (·.address)).getD 0⟩), (16, ⟨1, (x.lastTarget.map (·.millivolts)).isSome.toNat⟩),
      (32, ⟨16, (x.lastTarget.map (·.millivolts)).getD 0⟩), (48, ⟨1, (x.lastTarget.map (·.enable.toNat)).getD 0⟩)] := by
  rw [Bus.page0, opt_eq, opt_eq, failureFields_eq, targetFields_eq]
  exact lays_pack (by simp [placed, fieldStart, fld]) (by simp [layoutFits])

/-- Page 1 of a bus, field by field (R99). -/
theorem Bus.page1_lays (x : Bus) : Lays x.page1
    [(0, ⟨8, x.rollCall.progress.code⟩), (8, ⟨5, x.rollCall.found⟩), (16, ⟨5, x.rollCall.extra⟩),
      (21, ⟨1, x.rollCall.requested.toNat⟩), (22, ⟨4, x.round.index⟩)] :=
  lays_pack (by simp [placed, fieldStart, fld, bit]) (by simp [layoutFits])

/-- Page 0 of a roster entry, field by field (R99). -/
theorem Entry.page0_lays (e : Entry) : Lays e.page0
    [(0, ⟨1, e.expected.toNat⟩), (1, ⟨3, e.state.code⟩), (4, ⟨1, e.state.faultCode.isSome.toNat⟩),
      (5, ⟨1, e.state.faultCode.getD 0⟩), (6, ⟨2, e.missCount⟩), (8, ⟨1, e.summary.isSome.toNat⟩),
      (9, ⟨1, e.probe.isSome.toNat⟩), (10, ⟨5, cellCountField ((e.probe.map (·.cellCount)).getD 0)⟩),
      (16, ⟨8, (e.probe.map (·.status.toNat)).getD 0⟩), (24, ⟨8, (e.summary.map (·.status.toNat)).getD 0⟩),
      (32, ⟨8, (e.summary.map (·.gas)).getD 0⟩), (40, ⟨8, (e.summary.map (·.bleedCount)).getD 0⟩)] := by
  rw [Entry.page0, opt_eq, getD_toNat, getD_toNat]
  exact lays_pack (by simp [placed, fieldStart, fld, bit]) (by simp [layoutFits])

/-- Page 1 of a roster entry that holds summary values, field by field (R99). -/
theorem Entry.page1_lays {e : Entry} {v : Summary} (h : e.summary = some v) : Lays e.page1
    [(0, ⟨1, 1⟩), (16, ⟨16, v.minCell⟩), (32, ⟨5, v.minPosition⟩), (48, ⟨16, v.maxCell⟩), (64, ⟨5, v.maxPosition⟩),
      (80, ⟨16, v.voltage⟩), (96, ⟨8, twos 8 v.maxTemp⟩), (104, ⟨8, twos 8 v.minTemp⟩)] := by
  simp only [Entry.page1, h]
  exact lays_pack (by simp [placed, fieldStart, fld, bit, sfld, signed, twos]) (by simp [layoutFits])

/-- Page 1 of a roster entry without summary values is clear (log 16). -/
theorem Entry.page1_none {e : Entry} (h : e.summary = none) : e.page1 = List.replicate 7 0 := by
  simp only [Entry.page1, h]
  decide

theorem pack_length (fs : List Field) : (pack fs).length = 7 := rfl

theorem Entry.page1_length (e : Entry) : e.page1.length = 7 := by
  cases h : e.summary with
  | none => rw [Entry.page1_none h]; rfl
  | some v => simp only [Entry.page1, h, pack_length]

/-! ### Operands -/

theorem stringOf_eq {w : Word} {i : Fin 8} (h : w.toNat = i.val) : stringOf w = some i := by
  have hi := i.isLt
  simp only [stringOf, h, hi, dif_pos]

theorem stringOf_none {w : Word} (h : 7 < w.toNat) : stringOf w = none := dif_neg (by omega)

theorem bayOfWord_eq {w : Word} {k : Fin 4} (h : w.toNat = k.val) : bayOfWord w = some k := by
  have hk := k.isLt
  simp only [bayOfWord, h, hk, dif_pos]

theorem bayOfWord_none {w : Word} (h : 3 < w.toNat) : bayOfWord w = none := dif_neg (by omega)

/-- A page operand in its range is 0 or 1. -/
theorem page_cases {w : Word} (h : w.toNat ≤ 1) : w = 0 ∨ w = 1 := by
  have : w.toNat = 0 ∨ w.toNat = 1 := by omega
  exact this.imp (fun e => BitVec.eq_of_toNat_eq e) fun e => BitVec.eq_of_toNat_eq e

/-- An order that its owner answers with results, nothing changed. -/
theorem reads_of_owner {c : Instr} {s : State} {owner : State → State × Answer}
    (he : exec c s = .next (s.takeOrder c owner)) (ho : ∃ results, owner s = (s, done results)) :
    ∃ results, Answers c s s ⟨none, results⟩ := by
  obtain ⟨results, h⟩ := ho
  exact ⟨results, answers_of_owner he h rfl⟩

/-! ### READ-STRING -/

theorem ownerReadString_refused {string page : Word} (s : State) (h : 7 < string.toNat ∨ 1 < page.toNat) :
    ownerReadString string page s = (s, refuse .field) := by
  by_cases hs : 7 < string.toNat
  · rw [ownerReadString, stringOf_none hs]
  · have hp : 1 < page.toNat := h.resolve_left hs
    have h0 : page ≠ 0 := fun e => by rw [e] at hp; exact absurd hp (by decide)
    have h1 : page ≠ 1 := fun e => by rw [e] at hp; exact absurd hp (by decide)
    rw [ownerReadString, stringOf_eq (i := ⟨string.toNat, by omega⟩) rfl]
    simp only [if_neg h0, if_neg h1]

/-- READ-STRING at its owner, its operands in range. -/
theorem ownerReadString_eq {string page : Word} {i : Fin 8} (s : State) (hs : string.toNat = i.val)
    (hp : page.toNat ≤ 1) : ownerReadString string page s =
      (s.setString i { s.strings[i] with bandChanged := false },
        done (if page = 0 then s.strings[i].page0 else s.strings[i].page1)) := by
  rw [ownerReadString, stringOf_eq hs]
  rcases page_cases hp with rfl | rfl <;> rfl

/-- READ-STRING clears the band-changed mark alone and returns its page (R57). -/
theorem readString_answers (s : State) {string page : Word} {i : Fin 8} (hs : string.toNat = i.val)
    (hp : page.toNat ≤ 1) : Answers (.readString string page) s
      (s.setString i { s.strings[i] with bandChanged := false })
      ⟨none, if page = 0 then s.strings[i].page0 else s.strings[i].page1⟩ :=
  answers_of_owner rfl (ownerReadString_eq s hs hp) rfl

/-! ### READ-MODULE -/

theorem ownerReadModule_eq {a b c : Word} {bus : Fin 8} (s : State) (ha : a.toNat = bus.val) (hb : b.toNat ≤ 24)
    (hc : c.toNat ≤ 1) :
    ownerReadModule a b c s = (s, done (s.buses[bus].moduleResults b.toNat (c == 1))) := by
  rw [ownerReadModule, stringOf_eq ha]
  exact if_neg (by omega)

theorem readModule_answers (s : State) {a b c : Word} {bus : Fin 8} (ha : a.toNat = bus.val) (hb : b.toNat ≤ 24)
    (hc : c.toNat ≤ 1) : Answers (.readModule a b c) s s ⟨none, s.buses[bus].moduleResults b.toNat (c == 1)⟩ :=
  answers_of_owner rfl (ownerReadModule_eq s ha hb hc) rfl

theorem ownerReadModule_refused {a b c : Word} (s : State) (h : 7 < a.toNat ∨ 24 < b.toNat ∨ 1 < c.toNat) :
    ownerReadModule a b c s = (s, refuse .field) := by
  by_cases ha : 7 < a.toNat
  · rw [ownerReadModule, stringOf_none ha]
  · rw [ownerReadModule, stringOf_eq (i := ⟨a.toNat, by omega⟩) rfl]
    exact if_pos (h.resolve_left ha)

/-- READ-MODULE changes nothing, and operands beyond their ranges are refused (R99). -/
theorem readModule_range (s : State) (a b c : Word) : if 7 < a.toNat ∨ 24 < b.toNat ∨ 1 < c.toNat then
    Refused (.readModule a b c) s .field else ∃ results, Answers (.readModule a b c) s s ⟨none, results⟩ := by
  split
  · next h => exact refused_of_owner rfl (ownerReadModule_refused s h)
  · next h =>
    exact ⟨_, readModule_answers s (bus := ⟨a.toNat, by omega⟩) rfl (by omega) (by omega)⟩

theorem Bus.moduleResults_bus (x : Bus) {c : Word} (hc : c.toNat ≤ 1) :
    x.moduleResults 0 (c == 1) = if c = 0 then x.page0 else x.page1 := by
  rcases page_cases hc with rfl | rfl <;> rfl

theorem Bus.moduleResults_none {x : Bus} {address : Nat} (h0 : 1 ≤ address) (h : x.entry address = none) (page : Bool) :
    x.moduleResults address page = 0xFFFF :: List.replicate 6 0 := by
  rw [Bus.moduleResults, if_neg (by omega), h]
  rfl

theorem Bus.moduleResults_entry {x : Bus} {address : Nat} {e : Entry} {c : Word} (h0 : 1 ≤ address)
    (h : x.entry address = some e) (hc : c.toNat ≤ 1) :
    x.moduleResults address (c == 1) = if c = 0 then e.page0 else e.page1 := by
  rw [Bus.moduleResults, if_neg (by omega), h]
  rcases page_cases hc with rfl | rfl <;> rfl

/-! ### READ-BAY, READ-CONNECTION, READ-CLOCK, READ-PROFILE -/

/-- READ-BAY changes nothing, and a bay above 3 is refused (R121). -/
theorem readBay_range (s : State) (a : Word) : if 3 < a.toNat then Refused (.readBay a) s .field
    else ∃ results, Answers (.readBay a) s s ⟨none, results⟩ := by
  split
  · next h => exact refused_of_owner rfl (by rw [ownerReadBay, bayOfWord_none h])
  · next h =>
    refine reads_of_owner rfl ?_
    rw [ownerReadBay, bayOfWord_eq (k := ⟨a.toNat, by omega⟩) rfl]
    exact ⟨_, rfl⟩

/-- READ-CONNECTION changes nothing, and a selector above 8 is refused (R159). -/
theorem readConnection_range (s : State) (a : Word) : if 8 < a.toNat then Refused (.readConnection a) s .field
    else ∃ results, Answers (.readConnection a) s s ⟨none, results⟩ := by
  by_cases h8 : a = 8
  · subst h8
    rw [if_neg (by decide)]
    exact ⟨_, answers_of_owner rfl (if_pos rfl) rfl⟩
  · have hne : a.toNat ≠ 8 := fun e => h8 (BitVec.eq_of_toNat_eq e)
    split
    · next h => exact refused_of_owner rfl (by rw [ownerReadConnection, if_neg h8, stringOf_none (by omega)])
    · next h =>
      refine reads_of_owner rfl ?_
      rw [ownerReadConnection, if_neg h8, stringOf_eq (i := ⟨a.toNat, by omega⟩) rfl]
      exact ⟨_, rfl⟩

/-- The words of a number of 48 bits. -/
theorem resultWords_three {n : Nat} (h : n < 2 ^ 48) : resultWords n =
    BitVec.ofNat 16 n :: BitVec.ofNat 16 (n / 2 ^ 16) :: BitVec.ofNat 16 (n / 2 ^ 32) :: List.replicate 4 0 := by
  have e : ∀ k, 48 ≤ k → BitVec.ofNat 16 (n >>> k) = 0 := fun k hk => by
    rw [Nat.shiftRight_eq_div_pow, Nat.div_eq_of_lt (h.trans_le (Nat.pow_le_pow_right (by norm_num) hk))]
    rfl
  rw [resultWords, e 48 (by decide), e 64 (by decide), e 80 (by decide), e 96 (by decide), Nat.shiftRight_eq_div_pow,
    Nat.shiftRight_eq_div_pow]
  rfl

/-- READ-CLOCK returns day and second, the second running over two words (R194, log 15). -/
theorem readClock_answers (s : State) : ∃ r0 r1 r2 : Word,
    Answers .readClock s s ⟨none, r0 :: r1 :: r2 :: List.replicate 4 0⟩ ∧ r0.toNat = s.unit.clock.day % 65536 ∧
      r1.toNat + 65536 * r2.toNat = s.unit.clock.second % 131072 := by
  obtain ⟨n, hn⟩ : ∃ n, n = s.unit.clock.day % 65536 + s.unit.clock.second % 131072 * 65536 := ⟨_, rfl⟩
  have hpack : packNat (fld 16 s.unit.clock.day ++ fld 17 s.unit.clock.second) 0 = n := by
    simp [packNat, fieldStart, fld, hn]
  refine ⟨BitVec.ofNat 16 n, BitVec.ofNat 16 (n / 2 ^ 16), BitVec.ofNat 16 (n / 2 ^ 32), ?_, ?_, ?_⟩
  · refine answers_of_owner rfl ?_ rfl
    rw [ownerReadClock, SiteTime.words, pack, hpack, resultWords_three (by omega)]
    rfl
  · rw [BitVec.toNat_ofNat]
    omega
  · rw [BitVec.toNat_ofNat, BitVec.toNat_ofNat]
    omega

/-- READ-PROFILE changes nothing; a code above 29, and a string above 7 for a field that has one a string, is refused
(R191). -/
theorem readProfile_range (s : State) (a b : Word) :
    if 29 < a.toNat ∨ (2 ≤ a.toNat ∧ a.toNat ≤ 5 ∧ 7 < b.toNat) then Refused (.readProfile a b) s .field
    else ∃ results, Answers (.readProfile a b) s s ⟨none, results⟩ := by
  by_cases h0 : a = 0
  · subst h0
    rw [if_neg (by simp)]
    exact ⟨_, answers_of_owner rfl (if_pos rfl) rfl⟩
  · have hne : a.toNat ≠ 0 := fun e => h0 (BitVec.eq_of_toNat_eq e)
    split
    · next h =>
      refine refused_of_owner rfl ?_
      have hw : writableField a.toNat b.toNat = none := by
        by_cases h29 : a.toNat ≤ 29
        · obtain ⟨h2, h5, h7⟩ := h.resolve_left (by omega)
          rw [writableField, if_pos (by omega), if_pos (by simp [isPerString, h2, h5])]
          exact dif_neg (by omega)
        · exact if_neg (by omega)
      rw [ownerReadProfile, if_neg h0, hw]
    · next h =>
      have hw : ∃ i, writableField a.toNat b.toNat = some i := by
        rw [writableField, if_pos (by omega)]
        split
        · next hp =>
          simp only [isPerString, Bool.and_eq_true, decide_eq_true_eq] at hp
          exact ⟨_, dif_pos (by omega)⟩
        · exact ⟨0, rfl⟩
      obtain ⟨i, hi⟩ := hw
      refine reads_of_owner rfl ?_
      rw [ownerReadProfile, if_neg h0, hi]
      exact ⟨_, rfl⟩

/-! ### READ-LINK -/

/-- The first bit of a word shows a number of one bit. -/
theorem getLsbD_of_shows {r : List Word} {b : Bool} (h : Shows r 0 1 b.toNat) : (r.getD 0 0).getLsbD 0 = b := by
  have e : (r.getD 0 0).toNat % 2 = b.toNat := by
    have h2 : b.toNat % 2 = b.toNat := by cases b <;> rfl
    simpa [Shows, BitVec.extractLsb'_toNat, h2] using h
  rw [BitVec.getLsbD, Nat.testBit_zero, e]
  cases b <;> rfl

/-- READ-LINK's first bit says DOWN (R173, log 18). -/
theorem Link.words_down (l : Link) (now : Nat) : ((l.words now).getD 0 0).getLsbD 0 = true ↔ l.state = .down := by
  have h : Shows (l.words now) 0 1 (decide (l.state = .down)).toNat := by
    have e : l.state.code = (decide (l.state = .down)).toNat := by cases l.state <;> rfl
    rw [← e, Link.words]
    refine shows_pack ?_ (by decide) (by decide)
    simp [placed, fieldStart, fld]
  rw [getLsbD_of_shows h, decide_eq_true_iff]

/-- READ-LINK clears the overrun mark and changes nothing else (R173). -/
theorem readLink_answers (s : State) : Answers .readLink s { s with link := { s.link with overrun := false } }
    ⟨none, s.link.words s.now⟩ := answers_of_owner rfl rfl rfl

/-! ### The orders together -/

/-- Settles O13: each order at its owner, its page laid out field by field. -/
theorem readOrdersChangeMarksAlone : Obligations.ReadOrdersChangeMarksAlone := by
  refine ⟨fun s string page => ⟨fun h => refused_of_owner rfl (ownerReadString_refused s h), fun i hs hp => ?_⟩,
    fun s a b c => ⟨readModule_range s a b c, fun bus ha h1 h24 hc hn => ?_, fun bus ha hb hc => ?_,
      fun bus e ha h1 h24 hc he => ?_, readBay_range s a, readConnection_range s a, readClock_answers s,
      readProfile_range s a b⟩,
    fun s => ⟨_, readLink_answers s, s.link.words_down s.now⟩⟩
  · refine ⟨_, ?_, readString_answers s hs hp, fun h0 => ?_, fun h1 => ?_⟩
    · split <;> rfl
    · have h := s.strings[i].page0_lays
      simp only [lays_cons, lays_nil, and_true] at h
      obtain ⟨hcount, hband, hmark, hvolt, hmin, hminf, hmina, hminp, hmax, hmaxf, hmaxa, hmaxp, hcold, hhot⟩ := h
      rw [if_pos h0]
      exact ⟨hcount, hband, hmark, hvolt, hmin, ⟨hminf, hmina, hminp⟩, hmax, ⟨hmaxf, hmaxa, hmaxp⟩, hcold, hhot⟩
    · have h := s.strings[i].page1_lays
      simp only [lays_cons, lays_nil, and_true] at h
      rw [if_neg (by rw [h1]; decide)]
      exact h
  · have h := readModule_answers s ha h24 hc
    rwa [Bus.moduleResults_none h1 hn] at h
  · have hb0 : b.toNat = 0 := by rw [hb]; rfl
    have h := readModule_answers s ha (b := b) (by omega) hc
    rw [hb0, Bus.moduleResults_bus _ hc] at h
    refine ⟨_, ?_, h, fun h0 => ?_, fun h1 => ?_⟩
    · split <;> rfl
    · have h := s.buses[bus].page0_lays
      simp only [lays_cons, lays_nil, and_true] at h
      obtain ⟨hstate, hlevelf, hlevel, hpatf, hpat, hfailf, hfail, hfaila, htarf, htar, hen⟩ := h
      rw [if_pos h0]
      refine ⟨shows_of_eq hstate ?_, showsOpt_of_eq (And.intro hlevelf hlevel) ?_,
        showsOpt_of_eq (And.intro hpatf hpat) ?_, showsOpt_of_eq (And.intro hfailf hfail) ?_, hfaila,
        And.intro htarf htar, hen⟩
      · cases s.buses[bus].state <;> rfl
      · cases s.buses[bus].state with
        | stuck l e => cases l <;> rfl
        | _ => rfl
      · cases s.buses[bus].state <;> rfl
      · exact congrArg (fun f => s.buses[bus].lastFailure.map f) (funext fun f => by cases f.kind <;> rfl)
    · have h := s.buses[bus].page1_lays
      simp only [lays_cons, lays_nil, and_true] at h
      obtain ⟨hprogress, hrest⟩ := h
      rw [if_neg (by rw [h1]; decide)]
      refine ⟨shows_of_eq hprogress ?_, hrest⟩
      cases s.buses[bus].rollCall.progress <;> rfl
  · have h := readModule_answers s ha h24 hc
    rw [Bus.moduleResults_entry h1 he hc] at h
    refine ⟨_, ?_, h, fun h0 => ?_, fun h1 => ?_⟩
    · split
      · rfl
      · exact e.page1_length
    · have h := e.page0_lays
      simp only [lays_cons, lays_nil, and_true] at h
      obtain ⟨hexp, hstate, hfaultf, hfault, hmiss, hsum, hprobe, hcells, hrest⟩ := h
      rw [if_pos h0]
      refine ⟨hexp, shows_of_eq hstate ?_, showsOpt_of_eq (And.intro hfaultf hfault) ?_, hmiss, hsum, hprobe,
        fun x hx hlt => shows_of_eq hcells ?_, hrest⟩
      · cases e.state <;> rfl
      · cases e.state with
        | faulted cause => cases cause <;> rfl
        | _ => rfl
      · rw [hx]
        exact if_pos hlt
    · rw [if_neg (by rw [h1]; decide)]
      cases hv : e.summary with
      | none =>
        rw [Entry.page1_none hv]
        exact ⟨rfl, fun _ => rfl, nofun⟩
      | some v =>
        have h := Entry.page1_lays hv
        simp only [lays_cons, lays_nil, and_true] at h
        obtain ⟨hsome, hrest⟩ := h
        exact ⟨hsome, nofun, fun w h => by cases h; exact hrest⟩

end Sys2Proof.Machine
end

section
/-! PROOF. An empty queue (O2). -/

namespace Sys2Proof.Machine

open Sys2Proof Sys2Proof.Safety Sys2Proof.Claims

/-! ### The step on an empty queue -/

theorem step_of_empty {s : State} (h : s.pending = []) : step s = s.idle := by
  rw [step, h]

/-- An answered order is written before anything else happens. -/
theorem State.idle_of_answered {s : State} {slot : BitVec 5} {x : Snapshot} {w stop : Bool} {a : Answer}
    (h : s.runner.state = .running slot x w stop (.answered a)) : s.idle = .next (s.answerOrder slot x stop a) := by
  simp only [State.idle, State.endAnswered, h]

/-- No answered order waits to be written. -/
theorem State.endAnswered_eq_none_iff {s : State} : s.endAnswered = none ↔
    ∀ slot x w stop a, s.runner.state ≠ .running slot x w stop (.answered a) := by
  simp only [State.endAnswered]
  split
  · next slot x w stop a hr => exact iff_of_false nofun fun h => h slot x w stop a hr
  · next hr => exact ⟨fun _ => hr, fun _ => rfl⟩

theorem State.idle_of_handed {s : State} {c : Instr} {slot : BitVec 5} {x : Snapshot} {w stop : Bool}
    (h : Handed s c slot x w stop) : s.idle = exec c s := by
  obtain ⟨hr, hx⟩ := h
  simp only [State.idle, State.endAnswered, State.handedOrder, hr, hx]

theorem State.idle_of_none {s : State} (ha : s.endAnswered = none) (hh : s.handedOrder = none) :
    s.idle = .next s.tick := by
  simp only [State.idle, ha, hh]

/-! ### A quantum of time -/

/-- The values of a TARGET frame are built once, when its header has ended: 34 bit times after its start (R61, R64). -/
theorem Frame.buildsNow_iff (f : Frame) (now : Nat) : f.buildsNow now = true ↔
    f.kind = .target ∧ f.gapEnd = none ∧ f.built = none ∧ f.start + 34 * 3750 ≤ now := by
  have hh : Config.headerTime = 34 * 3750 := rfl
  simp only [Frame.buildsNow, hh, Bool.and_eq_true, beq_iff_eq, Option.isNone_iff_eq_none, decide_eq_true_eq]
  tauto

/-- The building of a TARGET frame's values is the only change of a bus. -/
theorem Bus.build_frame (x : Bus) (r : StringRec) (now : Nat) : x.build r now = { x with frame := (x.build r now).frame } := by
  simp only [Bus.build]
  split
  · split <;> rfl
  · rfl

theorem Bus.build_none {x : Bus} (h : x.frame = none) (r : StringRec) (now : Nat) : (x.build r now).frame = none := by
  simp only [Bus.build, h]

theorem Bus.build_some {x : Bus} {f : Frame} (h : x.frame = some f) (r : StringRec) (now : Nat) :
    (x.build r now).frame = some { f with
      built := (if f.kind = .target ∧ f.gapEnd = none ∧ f.built = none ∧ f.start + 34 * 3750 ≤ now then
        some ⟨r.bleedTarget, r.bleeding⟩ else f.built) } := by
  simp only [Bus.build, h, Frame.buildsNow_iff, StringRec.target]
  split
  · rfl
  · exact h

theorem State.tick_bus (s : State) (b : Fin 8) :
    s.tick.buses[b] = s.buses[b].build s.strings[b] (s.now + 1) := getElem_tab8 _ b

/-- Settles O2: the three cases of the model's idle step, and the buses one by one in a quantum of time. -/
theorem emptyQueueServesOrderOrTime : Obligations.EmptyQueueServesOrderOrTime := by
  intro s hq
  rw [step_of_empty hq]
  refine ⟨fun slot x w stop a h => State.idle_of_answered h, fun c slot x w stop h => State.idle_of_handed h,
    fun ha hh => ⟨s.tick, State.idle_of_none (State.endAnswered_eq_none_iff.2 ha) hh, rfl, rfl, fun b => ?_⟩⟩
  rw [s.tick_bus b]
  exact ⟨Bus.build_frame _ _ _, fun h => Bus.build_none h _ _, fun f h => Bus.build_some h _ _⟩

end Sys2Proof.Machine
end

section
/-! PROOF. The judgement of answers and of frames of the link (O34). -/

namespace Sys2Proof.Machine

open Sys2Proof Sys2Proof.Safety Sys2Proof.Claims

/-! ### Check characters and selectors -/

theorem foldl_add_toNat (vs : List Byte) (acc : Byte) :
    (vs.foldl (· + ·) acc).toNat = (acc.toNat + (vs.map (·.toNat)).sum) % 256 := by
  induction vs generalizing acc with
  | nil => simp only [List.foldl_nil, List.map_nil, List.sum_nil]; omega
  | cons v vs ih =>
    rw [List.foldl_cons, ih, BitVec.toNat_add, List.map_cons, List.sum_cons]
    omega

/-- A check character makes the sum of its frame FFh (R62). -/
theorem eq_checkChar_iff (vs : List Byte) (c : Byte) :
    c = checkChar vs ↔ ((vs.map (·.toNat)).sum + c.toNat) % 256 = 255 := by
  have hf := foldl_add_toNat vs 0
  rw [show (0 : Byte).toNat = 0 from rfl, Nat.zero_add] at hf
  rw [← BitVec.toNat_inj, checkChar, BitVec.toNat_not, hf]
  omega

/-- Address, kind and odd parity leave one selector (R61, 11.2). -/
theorem selector_eq_of_summary (sel : Byte) (hk : (sel.extractLsb' 5 2).toNat = 1)
    (hp : (List.range 8).countP (fun n => sel.getLsbD n) % 2 = 1) :
    selector .summary (sel.extractLsb' 0 5).toNat = sel := by
  revert sel; decide

/-- See `selector_eq_of_summary`. -/
theorem selector_eq_of_probe (sel : Byte) (hk : (sel.extractLsb' 5 2).toNat = 2)
    (hp : (List.range 8).countP (fun n => sel.getLsbD n) % 2 = 1) :
    selector .probe (sel.extractLsb' 0 5).toNat = sel := by
  revert sel; decide

/-! ### Answers -/

/-- The characters expected of an answer (R65). -/
theorem FrameKind.expected_eq {kind : FrameKind} (h : kind = .summary ∨ kind = .probe) :
    kind.expected = if kind = .summary then 13 else 3 := by
  rcases h with rfl | rfl <;> rfl

/-- The judgement of an answer that holds no character beyond those expected (R67). -/
theorem judgeAnswer_eq {kind : FrameKind} {answer : List BusRx} (address : Nat) (h : answer.length ≤ kind.expected) :
    judgeAnswer kind address answer =
      if ∃ c ∈ answer, c.framing = true then some .framing
      else if 2 ≤ answer.countP (·.noise) then some .noise
      else if answer.length < kind.expected then some .short
      else if (answer.map (·.value)).getLastD 0 =
        checkChar (selector kind address :: (answer.map (·.value)).dropLast) then none
      else some .check := by
  simp only [judgeAnswer, List.take_of_length_le h, List.any_eq_true, ne_eq, ite_not]

/-- The last character of an answer is its check character exactly where selector and characters sum to FFh. -/
theorem getLastD_eq_checkChar_iff {vs : List Byte} (h : vs ≠ []) (sel : Byte) :
    vs.getLastD 0 = checkChar (sel :: vs.dropLast) ↔ (sel.toNat + (vs.map (·.toNat)).sum) % 256 = 255 := by
  obtain ⟨ws, w, rfl⟩ := List.eq_nil_or_concat vs |>.resolve_left h
  rw [eq_checkChar_iff]
  simp [Nat.add_assoc]

/-! ### Frames of the link -/

/-- The judgement of nine characters (R163). -/
theorem judgeFrame_eq {cs : List RxChar} {k slot gen a0 a1 b0 b1 tag check : Byte}
    (h : cs.map (·.value) = [k, slot, gen, a0, a1, b0, b1, tag, check]) : judgeFrame cs =
      if ∃ c ∈ cs, c.framing = true then .error .framing
      else if 2 ≤ cs.countP (·.noise) then .error .noise
      else if ([k, slot, gen, a0, a1, b0, b1, tag, check].map (·.toNat)).sum % 256 = 255 then
        (InKind.ofCode k.toNat).elim (.error .kind) fun kind => .ok ⟨kind, ⟨slot, gen⟩, a1 ++ a0, b1 ++ b0, tag⟩
      else .error .check := by
  have hc : check = checkChar [k, slot, gen, a0, a1, b0, b1, tag] ↔
      ([k, slot, gen, a0, a1, b0, b1, tag, check].map (·.toNat)).sum % 256 = 255 := by
    rw [eq_checkChar_iff]
    simp only [List.map_cons, List.map_nil, List.sum_cons, List.sum_nil]
    omega
  cases hk : InKind.ofCode k.toNat <;>
    simp only [judgeFrame, h, hk, List.any_eq_true, ne_eq, ite_not, hc, Option.elim]

/-- A kind code beyond 1 to 4 names no kind (11.3). -/
theorem InKind.ofCode_none {n : Nat} (h : n = 0 ∨ 4 < n) : InKind.ofCode n = none := by
  rcases h with rfl | h
  · rfl
  · obtain ⟨m, rfl⟩ := Nat.exists_eq_add_of_lt h
    rw [show 4 + m + 1 = m + 5 by omega]
    rfl

/-- The kinds by their codes (11.3). -/
theorem InKind.ofCode_some {k : Byte} (h1 : 1 ≤ k.toNat) (h4 : k.toNat ≤ 4) : InKind.ofCode k.toNat =
    some (if k = 1 then .renew else if k = 2 then .reduce else if k = 3 then .handback else .query) := by
  revert k; decide

/-- A value sent low half first. -/
theorem append_toNat_low_first (low high : Byte) : (high ++ low).toNat = low.toNat + 256 * high.toNat := by
  have := low.isLt
  rw [BitVec.toNat_append, ← Nat.shiftLeft_add_eq_or_of_lt this, Nat.shiftLeft_eq]
  omega

/-- Settles O34: each judgement's chain of checks, with the sum that a check character completes. -/
theorem answersAndFramesJudgedInOrder : Obligations.AnswersAndFramesJudgedInOrder := by
  refine ⟨fun kind address answer sel hk ha hlen haddr hkind hpar => ?_,
    fun k slot gen a0 a1 b0 b1 tag check cs hcs => ?_⟩
  · have hsel : selector kind address = sel := by
      rw [← haddr]
      rcases hk with rfl | rfl
      · exact selector_eq_of_summary sel hkind hpar
      · exact selector_eq_of_probe sel hkind hpar
    rw [← FrameKind.expected_eq hk] at hlen ⊢
    have h0 : 0 < kind.expected := by rcases hk with rfl | rfl <;> decide
    intro judged noisy framing
    have hj : judged = _ := judgeAnswer_eq address hlen
    refine ⟨fun hf => hj.trans (if_pos hf), fun hf hn => ?_, fun hf hn => ⟨fun hs => ?_, fun hs => ?_⟩⟩
    · rw [hj, if_neg hf, if_pos hn]
    · rw [hj, if_neg hf, if_neg (by omega), if_pos hs]
    · have hne : answer.map (·.value) ≠ [] := List.ne_nil_of_length_pos (by rw [List.length_map]; omega)
      rw [hj, if_neg hf, if_neg (by omega), if_neg (by omega), hsel]
      simp only [getLastD_eq_checkChar_iff hne, List.map_map]
      rfl
  · intro framing noisy sum
    have hj := judgeFrame_eq hcs
    refine ⟨fun hf => hj.trans (if_pos hf), fun hf hn => ?_, fun hf hn hs => ?_, fun hf hn hs hk => ?_,
      fun hf hn hs h1 h4 => ?_⟩
    · rw [hj, if_neg hf, if_pos hn]
    · rw [hj, if_neg hf, if_neg (by omega), if_neg hs]
    · rw [hj, if_neg hf, if_neg (by omega), if_pos hs, InKind.ofCode_none hk, Option.elim]
    · rw [hj, if_neg hf, if_neg (by omega), if_pos hs, InKind.ofCode_some h1 h4]
      exact ⟨_, rfl, rfl, append_toNat_low_first a0 a1, append_toNat_low_first b0 b1, rfl, rfl⟩

end Sys2Proof.Machine
end

section
/-! SUPPORT. What the events of a sensing bus leave: order memory, the runner and the other buses, and of the bus itself the
roster and what it has recorded of its frames. -/

namespace Sys2Proof.Machine

open Sys2Proof Sys2Proof.Safety Sys2Proof.Claims

/-! ### Beside the bus -/

/-- A state that an event of bus `b` has reached: order memory, the runner and every other bus stand. -/
structure State.OnBus (s : State) (b : Fin 8) (t : State) : Prop where
  memory : t.orderMemory = s.orderMemory
  runner : t.runner = s.runner
  others : ∀ j, j ≠ b → t.buses[j] = s.buses[j]

section OnBus

variable {s t : State} {b : Fin 8}

theorem State.OnBus.refl (s : State) (b : Fin 8) : s.OnBus b s := ⟨rfl, rfl, fun _ _ => rfl⟩

/-- An operation that leaves order memory, the runner and all buses. -/
theorem State.OnBus.beside {u : State} (h : s.OnBus b t) (hm : u.orderMemory = t.orderMemory)
    (hr : u.runner = t.runner) (hb : u.buses = t.buses) : s.OnBus b u :=
  ⟨hm.trans h.memory, hr.trans h.runner, fun j hj => by rw [hb, h.others j hj]⟩

theorem State.OnBus.setBus (h : s.OnBus b t) (x : Bus) : s.OnBus b (t.setBus b x) :=
  ⟨h.memory, h.runner, fun j hj => by rw [State.setBus_bus_ne _ _ hj, h.others j hj]⟩

theorem State.OnBus.settle (h : s.OnBus b t) : s.OnBus b t.settle := h.beside (by simp) (by simp) (by simp)

theorem State.OnBus.toRollCall (h : s.OnBus b t) : s.OnBus b (t.toRollCall b) :=
  (h.setBus (t.buses[b].enterRollCall t.now)).beside rfl rfl rfl

theorem State.OnBus.endRound (h : s.OnBus b t) : s.OnBus b (t.endRound b) := h.setBus _

theorem State.OnBus.checkMatchOf (h : s.OnBus b t) : s.OnBus b (t.checkMatchOf b) := by
  rw [State.checkMatchOf]
  split
  · exact h.beside (by simp) (by simp) (by simp)
  · exact h

theorem State.OnBus.noteStartUp (h : s.OnBus b t) (f : BusStart → BusStart) : s.OnBus b (t.noteStartUp b f) :=
  h.beside (by simp) (by simp) (by simp)

theorem State.OnBus.noteFirstRound (h : s.OnBus b t) : s.OnBus b (t.noteFirstRound b) := by
  rw [State.noteFirstRound]
  split
  · exact h.noteStartUp _
  · exact h

theorem State.OnBus.completeRound (h : s.OnBus b t) : s.OnBus b (t.completeRound b) := by
  have aggregated := (h.setBus t.buses[b].roundDone).beside (u := (t.setBus b t.buses[b].roundDone).aggregate b)
    (by simp) (by simp) (by simp)
  have settled : s.OnBus b (t.roundSettled b) := aggregated.checkMatchOf.noteFirstRound.settle
  rw [State.completeRound_eq, State.afterRound]
  split
  · exact settled.setBus _
  · exact settled.endRound

theorem State.OnBus.visitAbove (h : s.OnBus b t) (above : Nat) : s.OnBus b (t.visitAbove b above) := by
  cases hv : t.buses[b].nextVisit above with
  | none => rw [State.visitAbove_none hv]; exact h.completeRound
  | some e => rw [State.visitAbove_some hv]; exact h.setBus _

theorem State.OnBus.startRound (h : s.OnBus b t) : s.OnBus b (t.startRound b) := State.OnBus.visitAbove (h.setBus _) 0

theorem State.OnBus.completeRollCall (h : s.OnBus b t) : s.OnBus b (t.completeRollCall b) := by
  have called : s.OnBus b (t.called b) :=
    State.OnBus.noteStartUp ((h.setBus (t.buses[b].called (t.calledRoster b))).beside (by simp) (by simp) (by simp)) _
  rw [State.completeRollCall_eq]
  exact State.OnBus.visitAbove (called.setBus _) 0

theorem State.OnBus.nextProbe (h : s.OnBus b t) (address : Nat) : s.OnBus b (t.nextProbe b address) := by
  rw [State.nextProbe]
  split
  · exact h.setBus _
  · exact h.completeRollCall

theorem State.OnBus.afterExchange (h : s.OnBus b t) (address : Nat) : s.OnBus b (t.afterExchange b address) := by
  rw [State.afterExchange]
  split
  · exact h.toRollCall
  · exact h.visitAbove address

theorem State.OnBus.afterTarget (h : s.OnBus b t) : s.OnBus b (t.afterTarget b) := by
  rw [State.afterTarget]
  split
  · exact h.toRollCall
  · exact h.endRound

theorem State.OnBus.takeGas (h : s.OnBus b t) (address level : Nat) : s.OnBus b (t.takeGas b address level) := by
  rw [State.takeGas]
  split
  · exact h.beside rfl rfl rfl
  · exact h

theorem State.OnBus.goodSummary (h : s.OnBus b t) (address : Nat) (v : Summary) :
    s.OnBus b (t.goodSummary b address v) := by
  have stored : s.OnBus b (t.updateRoster b address (·.goodSummary v t.unit.active.cells[b])) := h.setBus _
  refine State.OnBus.afterExchange (State.OnBus.settle ?_) address
  split
  · exact stored.takeGas address v.gas
  · exact stored

theorem State.OnBus.goodProbe (h : s.OnBus b t) (address : Nat) (x : Probe) : s.OnBus b (t.goodProbe b address x) := by
  have stored := State.OnBus.settle (h.setBus { t.buses[b] with
    roster := updateEntry t.buses[b].roster address (·.goodProbe x t.unit.active.cells[b]) })
  simp only [State.goodProbe]
  split
  · exact stored.toRollCall
  · split
    · exact stored.setBus _
    · exact stored.visitAbove address

theorem State.OnBus.failedExchange (h : s.OnBus b t) (kind : FrameKind) (address : Nat) (why : FailKind) :
    s.OnBus b (t.failedExchange b kind address why) := by
  have failed := h.setBus (t.buses[b].fail why address)
  unfold State.failedExchange
  dsimp only
  split
  · exact failed.nextProbe address
  · exact (State.OnBus.settle (failed.setBus _)).afterExchange address
  · exact failed.afterExchange address
  · exact failed

theorem State.OnBus.judgeExchange (h : s.OnBus b t) (f : Frame) (chars : List BusChar) :
    s.OnBus b (t.judgeExchange b f chars) := by
  simp only [State.judgeExchange]
  split
  · exact h.failedExchange _ f.address _
  · split
    · exact h.goodSummary f.address _
    · exact h
  · split
    · exact State.OnBus.nextProbe (h.setBus _) f.address
    · exact h.goodProbe f.address _
    · exact h
  · exact h

end OnBus

/-! ### At the bus -/

/-- A bus whose roster and record of failures and targets stand. -/
structure Bus.Recalls (x y : Bus) : Prop where
  failure : y.lastFailure = x.lastFailure
  target : y.lastTarget = x.lastTarget
  roster : y.roster = x.roster

theorem Bus.Polls.recalls {x y : Bus} (h : x.Polls y) : x.Recalls y := by
  rw [Bus.Polls] at h
  constructor <;> rw [h]

theorem State.toRollCall_bus (s : State) (b : Fin 8) : (s.toRollCall b).buses[b] = s.buses[b].enterRollCall s.now :=
  State.setBus_bus _ _ _

theorem State.endRound_bus (s : State) (b : Fin 8) : (s.endRound b).buses[b] = { s.buses[b] with
    frame := none
    round := ⟨s.buses[b].round.index, s.buses[b].round.start,
      some (max s.now (s.buses[b].round.start.getD s.now + Config.ms s.unit.active.pollBase /
        (if s.strings[b].band = 3 ∨ s.strings[b].band = 4 then 1
          else if s.strings[b].band = 2 ∨ s.strings[b].band = 5 then 2 else 4))), none⟩ } := by
  rw [State.endRound, State.setBus_bus, pollInterval_eq, max_comm]

theorem State.visitAbove_recalls (s : State) (b : Fin 8) (above : Nat) :
    s.buses[b].Recalls (s.visitAbove b above).buses[b] := (s.visitAbove_polls b above).recalls

theorem State.afterExchange_recalls (s : State) (b : Fin 8) (address : Nat) :
    s.buses[b].Recalls (s.afterExchange b address).buses[b] := by
  rw [State.afterExchange]
  split
  · rw [State.toRollCall_bus]
    exact ⟨rfl, rfl, rfl⟩
  · exact s.visitAbove_recalls b address

theorem State.afterTarget_recalls (s : State) (b : Fin 8) : s.buses[b].Recalls (s.afterTarget b).buses[b] := by
  rw [State.afterTarget]
  split
  · rw [State.toRollCall_bus]
    exact ⟨rfl, rfl, rfl⟩
  · rw [State.endRound_bus]
    exact ⟨rfl, rfl, rfl⟩

/-! ### Failed exchanges -/

theorem State.nextProbe_bus (s : State) (b : Fin 8) {address : Nat} (h : address < 24) :
    (s.nextProbe b address).buses[b] =
      { s.buses[b] with frame := some ⟨.probe, address + 1, s.now, none, none⟩ } := by
  rw [State.nextProbe, if_pos h, State.setBus_bus]
  rfl

theorem State.nextProbe_failure (s : State) (b : Fin 8) (address : Nat) :
    (s.nextProbe b address).buses[b].lastFailure = s.buses[b].lastFailure := by
  rw [State.nextProbe]
  split
  · rw [State.setBus_bus]
    rfl
  · rw [State.completeRollCall_eq, (State.visitAbove_recalls _ b 0).failure, State.firstRound_bus]
    rfl

theorem State.failedExchange_polledProbe {s : State} {b : Fin 8} (h : s.buses[b].state = .polling) (address : Nat)
    (why : FailKind) : s.failedExchange b .probe address why =
      (s.setBus b (s.buses[b].fail why address)).afterExchange b address := by
  unfold State.failedExchange
  dsimp only
  rw [State.fail_state h]

/-- Every failed exchange is recorded as the last failure (R67). -/
theorem State.failedExchange_failure (s : State) (b : Fin 8) (kind : FrameKind) (address : Nat) (why : FailKind) :
    (s.failedExchange b kind address why).buses[b].lastFailure = some ⟨why, address⟩ := by
  have failed : (s.setBus b (s.buses[b].fail why address)).buses[b].lastFailure = some ⟨why, address⟩ := by
    rw [State.setBus_bus]
    rfl
  unfold State.failedExchange
  dsimp only
  split
  · rw [State.nextProbe_failure, failed]
  · rw [(State.afterExchange_recalls _ b address).failure, State.settle_buses, State.updateRoster, State.setBus_bus, failed]
  · rw [(State.afterExchange_recalls _ b address).failure, failed]
  · exact failed

/-- A failed PROBE of a roll call is recorded, and the next address is asked (R88). -/
theorem State.failedExchange_calls {s : State} {b : Fin 8} (hs : s.buses[b].state = .rollcall) {address : Nat}
    (ha : address < 24) (why : FailKind) : (s.failedExchange b .probe address why).buses[b] = { s.buses[b] with
      lastFailure := some ⟨why, address⟩, frame := some ⟨.probe, address + 1, s.now, none, none⟩ } := by
  rw [State.failedExchange_probe hs, State.nextProbe_bus _ b ha, State.setBus_bus]
  rfl

/-- A failed PROBE of a poll round leaves the roster (R95). -/
theorem State.failedExchange_keepsRoster {s : State} {b : Fin 8} (hs : s.buses[b].state = .polling) (address : Nat)
    (why : FailKind) : (s.failedExchange b .probe address why).buses[b].roster = s.buses[b].roster := by
  rw [State.failedExchange_polledProbe hs, (State.afterExchange_recalls _ b address).roster, State.setBus_bus]
  rfl

/-- A failed SUMMARY moves its entry alone (R85). -/
theorem State.failedExchange_moves {s : State} {b : Fin 8} (hs : s.buses[b].state = .polling) (address : Nat)
    (why : FailKind) : (s.failedExchange b .summary address why).buses[b].roster =
      s.buses[b].roster.map fun e => if e.address = address then e.failedSummary else e := by
  rw [State.failedExchange_summary hs, (State.afterExchange_recalls _ b address).roster, State.settle_buses,
    State.updateRoster, State.setBus_bus, State.setBus_bus]
  rfl

end Sys2Proof.Machine
end

section
/-! PROOF. ROLLCALL by bus state (O23), echo errors (O32), and the start and end of a poll round (O35). -/

namespace Sys2Proof.Machine

open Sys2Proof Sys2Proof.Safety Sys2Proof.Claims

/-! ### ROLLCALL -/

section OwnerRollcall

variable {bus : Word} {s : State} {b : Fin 8}

theorem ownerRollcall_field (h : 7 < bus.toNat) : ownerRollcall bus s = (s, refuse .field) := by
  rw [ownerRollcall, stringOf_none h]

theorem ownerRollcall_off (hb : bus.toNat = b.val) (h : s.buses[b].state = .off) :
    ownerRollcall bus s = (s, refuse .scope) := by
  simp only [ownerRollcall, stringOf_eq hb, h]

theorem ownerRollcall_broken (hb : bus.toNat = b.val)
    (h : (∃ l e, s.buses[b].state = .stuck l e) ∨ ∃ p, s.buses[b].state = .failed p) :
    ownerRollcall bus s = (s, refuse .state) := by
  rcases h with ⟨l, e, h⟩ | ⟨p, h⟩ <;> simp only [ownerRollcall, stringOf_eq hb, h]

theorem ownerRollcall_inProgress (hb : bus.toNat = b.val)
    (h : s.buses[b].state = .rollcall ∨ (∃ e, s.buses[b].state = .selftest e) ∨
      ∃ p e, s.buses[b].state = .waking p e) :
    ownerRollcall bus s = (s.setBus b s.buses[b].request, done inProgressWords) := by
  rcases h with h | ⟨e, h⟩ | ⟨p, e, h⟩ <;> simp only [ownerRollcall, stringOf_eq hb, h]

theorem ownerRollcall_polling (hb : bus.toNat = b.val) (h : s.buses[b].state = .polling) : ownerRollcall bus s =
    (((s.setBus b s.buses[b].request).switchToRollCall b).settle, done startedWords) := by
  simp only [ownerRollcall, stringOf_eq hb, h]

end OwnerRollcall

theorem State.OnBus.switchToRollCall {s t : State} {b : Fin 8} (h : s.OnBus b t) :
    s.OnBus b (t.switchToRollCall b) := by
  rw [State.switchToRollCall]
  split
  · exact h.setBus _
  · exact h.toRollCall

/-- A switch to ROLLCALL waits for the end of the frame in progress (R77). -/
theorem State.switchToRollCall_waits {s : State} {b : Fin 8} (h : s.buses[b].frame.isSome = true) :
    s.switchToRollCall b = s.setBus b { s.buses[b] with switchPending := true } := if_pos h

theorem State.switchToRollCall_now {s : State} {b : Fin 8} (h : s.buses[b].frame = none) :
    s.switchToRollCall b = s.toRollCall b := by
  rw [State.switchToRollCall, h]
  rfl

theorem StringRec.evaluate_aggregates (r : StringRec) (p : Profile) (c : Conditions) :
    (r.evaluate p c).onlineCount = r.onlineCount ∧ (r.evaluate p c).voltage = r.voltage := ⟨rfl, rfl⟩

/-- The settling of an event leaves the measured count and voltage of a string. -/
theorem State.settle_aggregates (s : State) (i : Fin 8) :
    s.settle.strings[i].onlineCount = s.strings[i].onlineCount ∧ s.settle.strings[i].voltage = s.strings[i].voltage := by
  rw [State.settle_strings]
  split
  · rw [State.evaluateAll_getElem, State.beforeEvaluation_strings]
    exact StringRec.evaluate_aggregates _ _ _
  · exact ⟨rfl, rfl⟩

theorem State.toRollCall_string (s : State) (b : Fin 8) :
    (s.toRollCall b).strings[b] = { s.strings[b] with onlineCount := 0, voltage := 0 } := getElem_put_self _ _ _

/-- Settles O23: the owner's answer in each bus state, and for POLLING what the switch to ROLLCALL leaves. -/
theorem rollcallByBusState : Obligations.RollcallByBusState := by
  refine fun s bus => ⟨fun h => refused_of_owner rfl (ownerRollcall_field h), fun b hb =>
    ⟨fun h => refused_of_owner rfl (ownerRollcall_off hb h), fun h => refused_of_owner rfl (ownerRollcall_broken hb h),
      fun h => answers_of_owner rfl (ownerRollcall_inProgress hb h) rfl, fun h => ?_⟩⟩
  have hx : (s.setBus b s.buses[b].request).buses[b] = s.buses[b].request := State.setBus_bus _ _ _
  obtain ⟨hmem, hrun, hothers⟩ := (((State.OnBus.refl s b).setBus s.buses[b].request).switchToRollCall).settle
  refine ⟨_, answers_of_owner rfl (ownerRollcall_polling hb h) hrun, ?_, hothers, hmem, hrun, fun hf => ?_, fun hf => ?_⟩
  · rw [State.settle_buses, State.switchToRollCall]
    split
    · rw [State.setBus_bus, hx]
      rfl
    · rw [State.toRollCall_bus, hx]
      rfl
  · rw [State.settle_buses, State.switchToRollCall_waits (by rw [hx]; exact hf), State.setBus_bus, hx]
    exact ⟨h, rfl, rfl⟩
  · rw [State.switchToRollCall_now (by rw [hx]; exact hf)]
    obtain ⟨hcount, hvoltage⟩ := ((s.setBus b s.buses[b].request).toRollCall b).settle_aggregates b
    rw [State.settle_buses, State.toRollCall_bus, hcount, hvoltage, State.toRollCall_string]
    exact ⟨rfl, rfl, rfl, rfl, rfl, rfl, rfl, rfl⟩

/-! ### Echo errors -/

/-- The frame in progress of a bus, where no echo error has abandoned it. -/
theorem Bus.openExchange_eq {x : Bus} {f : Frame} {kinds : List FrameKind} (hf : x.frame = some f)
    (hg : f.gapEnd = none) (hk : f.kind ∈ kinds) : x.openExchange kinds = some f := by
  simp [Bus.openExchange, hf, Option.filter, hg, hk]

theorem exec_echoError {s : State} {b : Fin 8} {f : Frame} {n : Nat} {d : Bool} (r : Samples)
    (hf : s.buses[b].frame = some f) (hg : f.gapEnd = none)
    (hd : (frameBits f.kind f.address (s.targetOfFrame b f))[n]? = some d) :
    exec (.echoError b n r) s = .next (if majority r = d then s else
      s.setBus b { s.buses[b] with frame := some { f with gapEnd := some (s.now + 10 * 3750) } }) := by
  have ho : s.buses[b].openExchange [.summary, .probe, .target] = some f :=
    Bus.openExchange_eq hf hg (by cases f.kind <;> decide)
  show execEchoError b n r s = _
  simp only [execEchoError, ho, State.drivenBit, hd]
  rfl

theorem exec_idleGapEnd {s : State} {b : Fin 8} {f : Frame} (hf : s.buses[b].frame = some f) :
    exec (.idleGapEnd b) s = .next (if f.gapEnd.isSome = true then (s.endGap b f).settle else s) := by
  show execIdleGapEnd b s = _
  cases hg : f.gapEnd.isSome <;> simp only [execIdleGapEnd, hf, Option.filter_some, hg, reduceIte, Bool.false_eq_true]

theorem State.OnBus.endGap {s t : State} {b : Fin 8} (h : s.OnBus b t) (f : Frame) : s.OnBus b (t.endGap b f) := by
  rw [State.endGap]
  split
  · exact h.failedExchange _ _ _
  · exact h.failedExchange _ _ _
  · exact State.OnBus.afterTarget (h.setBus _)

/-- An abandoned TARGET frame counts as not sent (R64). -/
theorem State.endGap_target {s : State} {b : Fin 8} {f : Frame} (hk : f.kind = .target) :
    (s.buses[b].fail .echo 0).Recalls (s.endGap b f).buses[b] := by
  have h := (s.setBus b (s.buses[b].fail .echo 0)).afterTarget_recalls b
  rw [State.setBus_bus] at h
  rwa [State.endGap, hk]

/-- An abandoned SUMMARY or PROBE is a failed exchange (R67). -/
theorem State.endGap_exchange {s : State} {b : Fin 8} {f : Frame} {kind : FrameKind} (hk : f.kind = kind)
    (hne : kind ≠ .target) : s.endGap b f = s.failedExchange b kind f.address .echo := by
  subst hk
  cases h : f.kind with
  | target => exact absurd h hne
  | summary => rw [State.endGap, h]
  | probe => rw [State.endGap, h]

/-- Settles O32: the judgement of a bit, and the end of the idle gap by the kind of frame. -/
theorem echoErrorAbandonsFrame : Obligations.EchoErrorAbandonsFrame := by
  refine fun s b f hf => ⟨fun n r d hg hd => ?_, fun hg => ?_, fun hg => ?_⟩
  · have he := exec_echoError r hf hg hd
    exact ⟨fun hm => he.trans (by rw [if_neg hm]), fun hm => he.trans (by rw [if_pos hm])⟩
  · obtain ⟨hmem, hrun, hothers⟩ := (State.OnBus.refl s b).endGap f |>.settle
    refine ⟨_, (exec_idleGapEnd hf).trans (by rw [if_pos hg]), hmem, hrun, hothers, fun hk => ?_, fun hk hs ha => ?_,
      fun hk hs => ?_, fun hk hs => ?_⟩ <;> rw [State.settle_buses]
    · obtain ⟨hfail, htarget, hroster⟩ := State.endGap_target (s := s) (b := b) hk
      exact ⟨hfail, htarget, hroster⟩
    · rw [State.endGap_exchange hk (by decide), State.failedExchange_calls hs ha]
    · rw [State.endGap_exchange hk (by decide)]
      exact ⟨State.failedExchange_failure _ _ _ _ _, State.failedExchange_keepsRoster hs _ _⟩
    · rw [State.endGap_exchange hk (by decide)]
      exact ⟨State.failedExchange_failure _ _ _ _ _, State.failedExchange_moves hs _ _⟩
  · rw [exec_idleGapEnd hf, hg]
    rfl

/-! ### Poll rounds -/

/-- The bus of a round that has started and visited no entry yet (R93). -/
def Bus.roundStarted (x : Bus) (now : Nat) : Bus :=
  { x with round := ⟨nextIndex x.round.index, some now, none, none⟩ }

theorem State.startRound_eq (s : State) (b : Fin 8) :
    s.startRound b = (s.setBus b (s.buses[b].roundStarted s.now)).visitAbove b 0 := rfl

theorem exec_pollRoundStart {s : State} {b : Fin 8} (hs : s.buses[b].state = .polling)
    (hn : s.buses[b].round.nextStart.isSome = true) : exec (.pollRoundStart b) s = .next (s.startRound b).settle := by
  show execPollRoundStart b s = _
  rw [execPollRoundStart, if_pos]
  rw [(Bus.isPolling_iff _).2 hs, hn, Bool.true_and]

theorem exec_targetFrameEnd {s : State} {b : Fin 8} {f : Frame} (hf : s.buses[b].frame = some f) (hk : f.kind = .target)
    (hg : f.gapEnd = none) : exec (.targetFrameEnd b) s = .next (s.endTarget b f).settle := by
  show execTargetFrameEnd b s = _
  simp only [execTargetFrameEnd, Bus.openExchange_eq hf hg (show f.kind ∈ [.target] by rw [hk]; decide)]

/-- The lowest entry that is due is the first to be visited: one that is not MISSING, or any in a tenth round (R94). -/
theorem Bus.nextVisit_lowest {x : Bus} {e : Entry} (hs : x.roster.Pairwise fun d f => d.address < f.address)
    (he : e ∈ x.roster) (h1 : 1 ≤ e.address) (hdue : e.state ≠ .missing ∨ x.round.index = 10)
    (hl : ∀ d ∈ x.roster, d.state ≠ .missing ∨ x.round.index = 10 → e.address ≤ d.address) :
    x.nextVisit 0 = some e := by
  have hv : ∀ d : Entry, (decide (0 < d.address) && d.visited (x.round.index == 10)) = true ↔
      0 < d.address ∧ (d.state ≠ .missing ∨ x.round.index = 10) := fun d => by simp [Entry.visited]
  exact find?_lowest hs he ((hv e).2 ⟨h1, hdue⟩) fun d hd h => hl d hd ((hv d).1 h).2

/-- What a round's start leaves of its bus (R93). -/
theorem State.startRound_bus (s : State) (b : Fin 8) : (s.startRound b).buses[b].round.index =
      nextIndex s.buses[b].round.index ∧ (s.startRound b).buses[b].round.start = some s.now ∧
    (s.startRound b).buses[b].roster = s.buses[b].roster := by
  have h := (s.setBus b (s.buses[b].roundStarted s.now)).visitAbove_polls b 0
  rw [← State.startRound_eq, State.setBus_bus] at h
  obtain ⟨-, hroster, -, hindex, hstart⟩ := h.fields
  exact ⟨hindex, hstart, hroster⟩

/-- The visit of a round's first entry (R93, R94). -/
theorem State.startRound_visits {s : State} {b : Fin 8} {e : Entry}
    (h : (s.buses[b].roundStarted s.now).nextVisit 0 = some e) : (s.startRound b).buses[b] = { s.buses[b] with
      round := ⟨nextIndex s.buses[b].round.index, some s.now, none, some e.address⟩
      frame := some ⟨if e.state = .missing then .probe else .summary, e.address, s.now, none, none⟩ } := by
  have hx : (s.setBus b (s.buses[b].roundStarted s.now)).buses[b] = s.buses[b].roundStarted s.now := State.setBus_bus _ _ _
  rw [State.startRound_eq, State.visitAbove_some (by rw [hx]; exact h), State.setBus_bus, hx]
  rfl

/-- The bus of a TARGET frame that has been sent (R64). -/
def State.targetSent (s : State) (b : Fin 8) (f : Frame) : Bus :=
  { s.buses[b] with lastTarget := some (s.targetOfFrame b f) }

/-- A TARGET frame that has been sent leaves its values and the roster (R64). -/
theorem State.endTarget_recalls (s : State) (b : Fin 8) (f : Frame) :
    (s.targetSent b f).Recalls (s.endTarget b f).buses[b] := by
  have h := (s.setBus b (s.targetSent b f)).afterTarget_recalls b
  rwa [State.setBus_bus] at h

theorem State.endTarget_ends {s : State} {b : Fin 8} (f : Frame) (h : s.buses[b].switchPending = false) :
    s.endTarget b f = (s.setBus b (s.targetSent b f)).endRound b := by
  refine if_neg ?_
  rw [State.setBus_bus]
  exact Bool.eq_false_iff.1 h

theorem State.endTarget_calls {s : State} {b : Fin 8} (f : Frame) (h : s.buses[b].switchPending = true) :
    s.endTarget b f = (s.setBus b (s.targetSent b f)).toRollCall b := by
  refine if_pos ?_
  rw [State.setBus_bus]
  exact h

/-- Settles O35: the round's first visit, and the end of the TARGET frame with and without a switch to ROLLCALL. -/
theorem roundStartsAndEnds : Obligations.RoundStartsAndEnds := by
  refine fun s b => ⟨fun hs hn => ?_, fun f hf hk hg => ?_⟩
  · obtain ⟨hmem, hrun, hothers⟩ := (State.OnBus.refl s b).startRound.settle
    obtain ⟨hindex, hstart, hroster⟩ := s.startRound_bus b
    refine ⟨_, exec_pollRoundStart hs hn, ?_⟩
    rw [State.settle_buses] at hothers ⊢
    refine ⟨hindex, hstart, hroster, hothers, hmem, hrun, fun e hsorted he h1 hdue hl => ?_⟩
    exact State.startRound_visits (Bus.nextVisit_lowest (List.pairwise_map.1 hsorted) he h1 hdue hl)
  · obtain ⟨hmem, hrun, hothers⟩ := ((State.OnBus.refl s b).setBus (s.targetSent b f)).afterTarget.settle
    obtain ⟨-, htarget, hroster⟩ := s.endTarget_recalls b f
    refine ⟨_, exec_targetFrameEnd hf hk hg, ?_, ?_, hothers, hmem, hrun, fun hp start hstart => ?_, fun hp => ?_⟩ <;>
      rw [State.settle_buses]
    · exact htarget
    · exact hroster
    · rw [State.endTarget_ends f hp, State.endRound_bus, State.setBus_bus]
      have hst : (s.targetSent b f).round.start = some start := hstart
      rw [hst]
      exact ⟨rfl, rfl, rfl, rfl⟩
    · rw [State.endTarget_calls f hp, State.toRollCall_bus]
      exact ⟨rfl, rfl⟩

end Sys2Proof.Machine
end

section
/-! SUPPORT. The rows that end an exchange, and what a good answer leaves of its bus and of the bay's gas list. -/

namespace Sys2Proof.Machine

open Sys2Proof Sys2Proof.Safety Sys2Proof.Claims

/-! ### Rows -/

/-- An answer of the expected length without a framing error is complete (R65). -/
theorem answerComplete_iff (kind : FrameKind) (chars : List BusChar) : answerComplete kind chars = true ↔
    (Machine.answerOf kind chars).length = kind.expected ∧ ∀ x ∈ Machine.answerOf kind chars, x.framing = false := by
  simp only [answerComplete, Bool.and_eq_true, beq_iff_eq, List.all_eq_true, Bool.not_eq_true']

theorem exec_summaryAnswer {s : State} {b : Fin 8} {f : Frame} {chars : List BusChar}
    (hc : answerComplete .summary chars = true) (hf : s.buses[b].frame = some f) (hg : f.gapEnd = none)
    (hk : f.kind = .summary) : exec (.summaryAnswer b chars) s = .next (s.judgeExchange b f chars).settle := by
  show execSummaryAnswer b chars s = _
  rw [execSummaryAnswer, if_pos hc]
  simp only [State.endExchange, Bus.openExchange_eq hf hg (show f.kind ∈ [.summary] by rw [hk]; decide)]

theorem exec_probeAnswer {s : State} {b : Fin 8} {f : Frame} {chars : List BusChar}
    (hc : answerComplete .probe chars = true) (hf : s.buses[b].frame = some f) (hg : f.gapEnd = none)
    (hk : f.kind = .probe) : exec (.probeAnswer b chars) s = .next (s.judgeExchange b f chars).settle := by
  show execProbeAnswer b chars s = _
  rw [execProbeAnswer, if_pos hc]
  simp only [State.endExchange, Bus.openExchange_eq hf hg (show f.kind ∈ [.probe] by rw [hk]; decide)]

/-- An answer judged good is complete, so its exchange may end before its window (R65, R67). -/
theorem answerComplete_of_good {kind : FrameKind} {address : Nat} {chars : List BusChar}
    (h : judgeAnswer kind address (Machine.answerOf kind chars) = none) : answerComplete kind chars = true := by
  have hlen : (Machine.answerOf kind chars).length ≤ kind.expected := by
    rw [Machine.answerOf, List.length_take]
    exact Nat.min_le_left _ _
  rw [judgeAnswer_eq address hlen] at h
  split_ifs at h with hf hn hs
  exact (answerComplete_iff kind chars).2 ⟨by omega, fun x hx => Bool.eq_false_iff.2 fun e => hf ⟨x, hx, e⟩⟩

/-! ### Good answers -/

theorem State.judgeExchange_summary {s : State} {b : Fin 8} {f : Frame} {chars : List BusChar} {v : Summary}
    (hk : f.kind = .summary) (hs : s.buses[b].state = .polling)
    (h : judgeAnswer .summary f.address (Machine.answerOf .summary chars) = none)
    (hv : decodeSummary ((Machine.answerOf .summary chars).map (·.value)).dropLast = some v) :
    s.judgeExchange b f chars = s.goodSummary b f.address v := by
  rw [← hk] at h hv
  unfold State.judgeExchange
  simp only [h, hv, hs]
  rw [hk]

theorem State.judgeExchange_polledProbe {s : State} {b : Fin 8} {f : Frame} {chars : List BusChar} {x : Probe}
    (hk : f.kind = .probe) (hs : s.buses[b].state = .polling)
    (h : judgeAnswer .probe f.address (Machine.answerOf .probe chars) = none)
    (hx : decodeProbe ((Machine.answerOf .probe chars).map (·.value)).dropLast = some x) :
    s.judgeExchange b f chars = s.goodProbe b f.address x := by
  rw [← hk] at h hx
  unfold State.judgeExchange
  simp only [h, hx, hs]
  rw [hk]

/-- The bus of a good SUMMARY, its values stored in its entry (R84). -/
def State.summaryStored (s : State) (b : Fin 8) (address : Nat) (v : Summary) : Bus :=
  { s.buses[b] with roster := s.buses[b].roster.map fun e => if e.address = address then
    { e with
      state := e.state.afterSummary (v.judge s.unit.active.cells[b]), missCount := 0, summary := some v } else e }

/-- The part with a good SUMMARY stored and its gas level handed on, where its entry is ONLINE (R86). -/
def State.gasHanded (s : State) (b : Fin 8) (address : Nat) (v : Summary) : State :=
  let u := s.setBus b (s.summaryStored b address v)
  if (s.summaryStored b address v).onlineAt address = true then u.takeGas b address v.gas else u

theorem State.goodSummary_eq (s : State) (b : Fin 8) (address : Nat) (v : Summary) :
    s.goodSummary b address v = (s.gasHanded b address v).settle.afterExchange b address := by
  have hx : (s.updateRoster b address (·.goodSummary v s.unit.active.cells[b])).buses[b] =
      s.summaryStored b address v := State.setBus_bus _ _ _
  rw [State.goodSummary, hx]
  rfl

theorem State.takeGas_buses (s : State) (i : Fin 8) (address level : Nat) :
    (s.takeGas i address level).buses = s.buses := by
  rw [State.takeGas]
  split <;> rfl

theorem State.gasHanded_buses (s : State) (b : Fin 8) (address : Nat) (v : Summary) :
    (s.gasHanded b address v).buses = put s.buses b (s.summaryStored b address v) := by
  rw [State.gasHanded]
  split
  · rw [State.takeGas_buses, State.setBus_buses]
  · rw [State.setBus_buses]

theorem State.gasHanded_bus (s : State) (b : Fin 8) (address : Nat) (v : Summary) :
    (s.gasHanded b address v).buses[b] = s.summaryStored b address v := by
  rw [State.gasHanded_buses, getElem_put_eq]

/-- A good SUMMARY stores its values in its entry (R84). -/
theorem State.goodSummary_recalls (s : State) (b : Fin 8) (address : Nat) (v : Summary) :
    (s.summaryStored b address v).Recalls (s.goodSummary b address v).buses[b] := by
  have h := (s.gasHanded b address v).settle.afterExchange_recalls b address
  rwa [← State.goodSummary_eq, State.settle_buses, State.gasHanded_bus] at h

/-- A good PROBE of a poll round stores its values in its entry, which a fault moves (R95). -/
theorem State.goodProbe_recalls (s : State) (b : Fin 8) (address : Nat) (x : Probe) :
    Bus.Recalls { s.buses[b] with
      roster := updateEntry s.buses[b].roster address (·.goodProbe x s.unit.active.cells[b]) }
      (s.goodProbe b address x).buses[b] := by
  have hx : ∀ f, (s.updateRoster b address f).settle.buses[b] =
      { s.buses[b] with roster := updateEntry s.buses[b].roster address f } := fun f => by
    rw [State.settle_buses, State.updateRoster, State.setBus_bus]
  simp only [State.goodProbe]
  split
  · rw [State.toRollCall_bus, hx]
    exact ⟨rfl, rfl, rfl⟩
  · split
    · rw [State.setBus_bus, hx]
      exact ⟨rfl, rfl, rfl⟩
    · rw [← hx]
      exact State.visitAbove_recalls _ b address

/-- A good PROBE of a roll call is counted and listed, as extra where it is not expected (R88). -/
theorem RollCall.answer_eq (r : RollCall) (address : Nat) (x : Probe) (expected : Bool) : r.answer address x expected =
    { r with
      found := r.found + 1
      extra := r.extra + (if expected = true then 0 else 1)
      working := r.working ++ [⟨address, x⟩] } := by
  cases expected <;> rfl

/-! ### The gas list -/

/-- The order of a gas list: by string, and by address within a string (R104). -/
def GasItem.Before (x y : GasItem) : Prop := x.string < y.string ∨ (x.string = y.string ∧ x.address < y.address)

theorem insertGas_mem_self (it : GasItem) (l : List GasItem) : it ∈ insertGas it l := by
  induction l with
  | nil => exact List.mem_singleton_self it
  | cons x xs ih =>
    rw [insertGas]
    split_ifs
    · exact List.mem_cons_self
    · exact List.mem_cons_self
    · exact List.mem_cons_of_mem _ ih

/-- A level written leaves the items of every other string or address. -/
theorem insertGas_mem_iff {it y : GasItem} (h : y.string ≠ it.string ∨ y.address ≠ it.address) (l : List GasItem) :
    y ∈ insertGas it l ↔ y ∈ l := by
  have hy : y ≠ it := fun e => h.elim (· (by rw [e])) (· (by rw [e]))
  induction l with
  | nil => simp only [insertGas, List.mem_singleton, hy, List.not_mem_nil]
  | cons x xs ih =>
    rw [insertGas]
    split_ifs with hx
    · have hyx : y ≠ x := fun e => h.elim (· (by rw [e, hx.1])) (· (by rw [e, hx.2]))
      simp only [List.mem_cons, hy, hyx]
    · simp only [List.mem_cons, hy, false_or]
    · rw [List.mem_cons, List.mem_cons]
      exact or_congr_right ih

theorem GasItem.Before.trans {x y z : GasItem} (h : x.Before y) (k : y.Before z) : x.Before z := by
  simp only [GasItem.Before] at *
  omega

/-- Without its place taken or found ahead of an item, a level belongs behind it. -/
theorem GasItem.before_of_not {it x : GasItem} (hne : ¬(x.string = it.string ∧ x.address = it.address))
    (hlt : ¬(it.string < x.string ∨ (it.string = x.string ∧ it.address < x.address))) : x.Before it := by
  simp only [GasItem.Before]
  omega

/-- The items of a list with a level written are that level's and items of the list. -/
theorem insertGas_subset {it y : GasItem} {l : List GasItem} (h : y ∈ insertGas it l) : y = it ∨ y ∈ l := by
  induction l with
  | nil => exact .inl (List.mem_singleton.1 h)
  | cons x xs ih =>
    rw [insertGas] at h
    split_ifs at h
    · exact (List.mem_cons.1 h).imp_right (List.mem_cons_of_mem _)
    · exact List.mem_cons.1 h
    · rcases List.mem_cons.1 h with rfl | h
      · exact .inr List.mem_cons_self
      · exact (ih h).imp_right (List.mem_cons_of_mem _)

/-- A level written keeps the list in its order (R104). -/
theorem insertGas_ordered (it : GasItem) {l : List GasItem} (h : l.Pairwise GasItem.Before) :
    (insertGas it l).Pairwise GasItem.Before := by
  induction l with
  | nil => exact List.pairwise_singleton _ _
  | cons x xs ih =>
    obtain ⟨hx, hxs⟩ := List.pairwise_cons.1 h
    rw [insertGas]
    split_ifs with heq hlt
    · refine List.pairwise_cons.2 ⟨fun y hy => ?_, hxs⟩
      have hb := hx y hy
      rwa [GasItem.Before, heq.1, heq.2] at hb
    · exact List.pairwise_cons.2 ⟨fun y hy => (List.mem_cons.1 hy).elim (fun e => e ▸ hlt)
        fun hy => GasItem.Before.trans hlt (hx y hy), h⟩
    · refine List.pairwise_cons.2 ⟨fun y hy => ?_, ih hxs⟩
      rcases insertGas_subset hy with rfl | hy
      · exact GasItem.before_of_not heq hlt
      · exact hx y hy

/-- A string is complete when its bus is in POLLING and every expected address has an ONLINE entry (R86, log 38). -/
theorem State.stringComplete_iff (s : State) (i : Fin 8) : s.stringComplete i = true ↔
    s.buses[i].state = .polling ∧ s.buses[i].maskChanged = false ∧ s.unit.active.expected[i] ≠ 0 ∧
      ∀ a, s.unit.active.expects i a = true → s.buses[i].onlineAt a = true := by
  simp only [State.stringComplete, Bool.and_eq_true, Bus.isPolling_iff, State.allExpectedOnline_iff, Bool.not_eq_true',
    bne_iff_ne, ne_eq, and_assoc]

theorem State.setFire_self (s : State) (k : Fin 4) : s.setFire k s.fire[k] = s := by
  simp [State.setFire, put]

/-- Whether the level of a good SUMMARY is kept: its entry is ONLINE and its string complete (R86, R104). -/
def State.KeepsGas (s : State) (b : Fin 8) (bus : Bus) (address : Nat) : Prop :=
  bus.onlineAt address = true ∧ s.unit.active.isFitted b = true ∧ bus.maskChanged = false ∧
    s.unit.active.expected[b] ≠ 0 ∧ ∀ a, s.unit.active.expects b a = true → bus.onlineAt a = true

theorem State.gasHanded_kept {s : State} {b : Fin 8} {address : Nat} {v : Summary} (hs : s.buses[b].state = .polling)
    (h : s.KeepsGas b (s.summaryStored b address v) address) : s.gasHanded b address v =
      (s.setBus b (s.summaryStored b address v)).setFire (bayOf b)
        { s.fire[bayOf b] with gasList := insertGas ⟨b, address, v.gas⟩ s.fire[bayOf b].gasList } := by
  obtain ⟨honline, hfitted, hrest⟩ := h
  have hc : (s.setBus b (s.summaryStored b address v)).stringComplete b = true := by
    rw [State.stringComplete_iff, State.setBus_bus]
    exact ⟨hs, hrest⟩
  rw [State.gasHanded, if_pos honline, State.takeGas, if_pos]
  · rfl
  · rw [hc, Bool.and_true]
    exact hfitted

theorem State.gasHanded_lost {s : State} {b : Fin 8} {address : Nat} {v : Summary}
    (h : ¬s.KeepsGas b (s.summaryStored b address v) address) :
    s.gasHanded b address v = s.setBus b (s.summaryStored b address v) := by
  rw [State.gasHanded]
  split
  · next honline =>
    rw [State.takeGas, if_neg]
    rw [Bool.and_eq_true, State.stringComplete_iff, State.setBus_bus]
    exact fun ⟨hfitted, _, hrest⟩ => h ⟨honline, hfitted, hrest⟩
  · rfl

end Sys2Proof.Machine
end

section
/-! PROOF. The end of an exchange by its judgement (O33). -/

namespace Sys2Proof.Machine

open Sys2Proof Sys2Proof.Safety Sys2Proof.Claims

/-- Characters missing or broken leave the frame to the end of its window (R65). -/
theorem exec_answer_incomplete {s : State} {b : Fin 8} {f : Frame} {chars : List BusChar} {c : Instr}
    (hc : ¬answerComplete f.kind chars = true)
    (h : (f.kind = .summary ∧ c = .summaryAnswer b chars) ∨ (f.kind = .probe ∧ c = .probeAnswer b chars)) :
    exec c s = .next s := by
  rcases h with ⟨hk, rfl⟩ | ⟨hk, rfl⟩
  · rw [hk] at hc
    show execSummaryAnswer b chars s = _
    rw [execSummaryAnswer, if_neg hc]
  · rw [hk] at hc
    show execProbeAnswer b chars s = _
    rw [execProbeAnswer, if_neg hc]

/-- Each row that ends an exchange judges it by the characters found (R65, R67). -/
theorem exec_exchangeEnd {s : State} {b : Fin 8} {f : Frame} {chars : List BusChar} {c : Instr}
    (h : (answerComplete f.kind chars = true ∧ f.kind = .summary ∧ c = .summaryAnswer b chars) ∨
      (answerComplete f.kind chars = true ∧ f.kind = .probe ∧ c = .probeAnswer b chars) ∨
      ((f.kind = .summary ∨ f.kind = .probe) ∧ c = .responseWindowEnd b chars))
    (hf : s.buses[b].frame = some f) (hg : f.gapEnd = none) :
    exec c s = .next (s.judgeExchange b f chars).settle := by
  rcases h with ⟨hc, hk, rfl⟩ | ⟨hc, hk, rfl⟩ | ⟨hk, rfl⟩
  · exact exec_summaryAnswer (by rwa [hk] at hc) hf hg hk
  · exact exec_probeAnswer (by rwa [hk] at hc) hf hg hk
  · exact exec_responseWindowEnd chars hf hg hk

/-- The expected characters that an answer holds. -/
theorem answerOf_eq (kind : FrameKind) (h : kind = .summary ∨ kind = .probe) (chars : List BusChar) :
    (chars.filterMap busReceive).take (if kind = .summary then 13 else 3) = Machine.answerOf kind chars := by
  rw [← FrameKind.expected_eq h, Machine.answerOf]

/-- A good SUMMARY of a poll round, no switch to ROLLCALL waiting: its gas level is handed on, the event settles, the round
goes on above its address, and the event settles (R84, R86, log 6). -/
theorem exec_goodSummary {s : State} {b : Fin 8} {f : Frame} {chars : List BusChar} {v : Summary} {c : Instr}
    (hs : s.buses[b].state = .polling) (hf : s.buses[b].frame = some f) (hg : f.gapEnd = none) (hk : f.kind = .summary)
    (hp : s.buses[b].switchPending = false) (hc : c = .responseWindowEnd b chars ∨ c = .summaryAnswer b chars)
    (hgood : judgeAnswer .summary f.address (Machine.answerOf .summary chars) = none)
    (hv : decodeSummary ((Machine.answerOf .summary chars).map (·.value)).dropLast = some v) :
    exec c s = .next (State.settle (State.visitAbove (s.gasHanded b f.address v).settle b f.address)) := by
  have hcomplete : answerComplete f.kind chars = true := by
    rw [hk]
    exact answerComplete_of_good hgood
  rw [exec_exchangeEnd (hc.elim (fun e => .inr (.inr ⟨.inl hk, e⟩)) fun e => .inl ⟨hcomplete, hk, e⟩) hf hg,
    State.judgeExchange_summary hk hs hgood hv, State.goodSummary_eq, State.afterExchange, if_neg]
  rw [State.settle_buses, State.gasHanded_bus]
  exact Bool.eq_false_iff.1 hp

/-- Settles O33: each row ends the exchange by its judgement, which the kind of frame and the state of the bus part; the
last part follows the gas level of a good SUMMARY. -/
theorem exchangeEndsByJudgement : Obligations.ExchangeEndsByJudgement := by
  refine ⟨fun s b f chars c => ?_, fun s b f chars v c hs hf hg hk hp hc => ?_⟩
  · intro answer complete
    have hanswer : f.kind = .summary ∨ f.kind = .probe → answer = Machine.answerOf f.kind chars :=
      fun h => answerOf_eq f.kind h chars
    have hcomplete : f.kind = .summary ∨ f.kind = .probe → (complete ↔ answerComplete f.kind chars = true) := fun h => by
      rw [answerComplete_iff, ← hanswer h, FrameKind.expected_eq h]
    refine ⟨fun hc h => ?_, fun h hf hg => ?_⟩
    · exact exec_answer_incomplete (f := f) ((hcomplete (h.imp And.left And.left)).not.1 hc) h
    · have hk : f.kind = .summary ∨ f.kind = .probe := by
        rcases h with ⟨-, hk, -⟩ | ⟨-, hk, -⟩ | ⟨hk, -⟩
        · exact .inl hk
        · exact .inr hk
        · exact hk
      have hexec := exec_exchangeEnd (h.imp (And.imp_left (hcomplete hk).1) (Or.imp_left (And.imp_left (hcomplete hk).1)))
        hf hg
      rw [hanswer hk]
      intro data bad
      obtain ⟨hmem, hrun, hothers⟩ := ((State.OnBus.refl s b).judgeExchange f chars).settle
      refine ⟨_, hexec, hmem, hrun, hothers, fun why hbad => ?_, fun v hbad hk hs hv => ?_, fun x hbad hk hx => ?_⟩ <;>
        rw [State.settle_buses]
      · rw [State.judgeExchange_failed hbad]
        refine ⟨State.failedExchange_failure _ _ _ _ _, fun hk hs ha => ?_, fun hk hs => ?_, fun hk hs => ?_⟩ <;> rw [hk]
        · exact State.failedExchange_calls hs ha why
        · exact State.failedExchange_keepsRoster hs _ why
        · exact State.failedExchange_moves hs _ why
      · simp only [bad, data, hk] at hbad hv
        rw [State.judgeExchange_summary hk hs hbad hv]
        obtain ⟨hfail, -, hroster⟩ := s.goodSummary_recalls b f.address v
        exact ⟨hfail, hroster⟩
      · simp only [bad, data, hk] at hbad hx
        refine ⟨fun hs ha => ?_, fun hs => ?_⟩
        · rw [State.judgeExchange_probe hk hs hbad hx, State.nextProbe_bus _ b ha, State.setBus_bus, RollCall.answer_eq]
          rfl
        · rw [State.judgeExchange_polledProbe hk hs hbad hx]
          obtain ⟨hfail, -, hroster⟩ := s.goodProbe_recalls b f.address x
          exact ⟨hfail, hroster⟩
  · intro answer hgood hv p bus kept old ordered
    have hkept : kept ↔ s.KeepsGas b (s.summaryStored b f.address v) f.address := Iff.rfl
    have hbus : s.summaryStored b f.address v = bus := rfl
    rw [exec_goodSummary hs hf hg hk hp hc hgood hv]
    by_cases h : kept
    · refine ⟨insertGas ⟨b, f.address, v.gas⟩ old, ?_, fun hn => absurd h hn, fun _ => ⟨insertGas_mem_self _ _,
        fun it hit => insertGas_mem_iff hit old, fun ho => insertGas_ordered _ ho⟩⟩
      rw [State.gasHanded_kept hs (hkept.1 h), hbus]
    · refine ⟨old, ?_, fun _ => rfl, fun hn => absurd hn h⟩
      have hsame : (s.setBus b bus).setFire (bayOf b) { s.fire[bayOf b] with gasList := old } = s.setBus b bus :=
        (s.setBus b bus).setFire_self (bayOf b)
      rw [hsame, State.gasHanded_lost (mt hkept.2 h), hbus]

end Sys2Proof.Machine
end

section
/-! SUPPORT. What the operations of the part do to the invariants of order memory, the attention line, the runner, the
converter link and the rosters: each operation keeps each of them on its own. -/

namespace Sys2Proof.Machine

open Sys2Proof.Safety Sys2Proof.Claims

/-! ### The relation -/

/-- Each of the five invariants that holds of a state holds of another: order memory canonical, the line following the
flags, at most 32 orders executed, the link's buffers within their sizes, and the rosters in order. -/
structure State.KeepsBounds (s t : State) : Prop where
  memory : MemoryCanonical s → MemoryCanonical t
  line : LineFollowsFlags s → LineFollowsFlags t
  run : RunBounded s → RunBounded t
  link : LinkBounded s → LinkBounded t
  rosters : RostersOrdered s → RostersOrdered t

/-- A roster in rising address order, addresses 1 to 24, at most 24 entries (R81). -/
def RosterInOrder (r : List Entry) : Prop :=
  (r.map (·.address)).Pairwise (· < ·) ∧ (∀ e ∈ r, 1 ≤ e.address ∧ e.address ≤ 24) ∧ r.length ≤ 24

theorem rostersOrdered_iff (s : State) : RostersOrdered s ↔ ∀ b : Fin 8, RosterInOrder s.buses[b.val].roster :=
  Iff.rfl

/-- At most four replies and eight characters (R162, R166). -/
def Link.Bounded (l : Link) : Prop := l.queue.length ≤ 4 ∧ l.buffer.length ≤ 8

theorem linkBounded_iff (s : State) : LinkBounded s ↔ s.link.Bounded := Iff.rfl

theorem State.KeepsBounds.refl (s : State) : s.KeepsBounds s := ⟨id, id, id, id, id⟩

theorem State.KeepsBounds.trans {s t u : State} (h : s.KeepsBounds t) (k : t.KeepsBounds u) : s.KeepsBounds u :=
  ⟨k.memory ∘ h.memory, k.line ∘ h.line, k.run ∘ h.run, k.link ∘ h.link, k.rosters ∘ h.rosters⟩

section

variable {s t u : State}

/-! ### One part of the state -/

/-- The fields that the invariants read. -/
def State.boundedFields (s : State) : List Host.Cell × Attention × Runner × Link × Vector Bus 8 :=
  (s.orderMemory, s.attention, s.runner, s.link, s.buses)

/-- A change beside what the invariants read. -/
theorem State.KeepsBounds.beside (h : s.KeepsBounds t) (hu : u.boundedFields = t.boundedFields) : s.KeepsBounds u := by
  simp only [State.boundedFields, Prod.mk.injEq] at hu
  obtain ⟨hm, ha, hr, hl, hb⟩ := hu
  refine h.trans ⟨fun k => ?_, fun k => ?_, fun k => ?_, fun k => ?_, fun k => ?_⟩
  · rwa [MemoryCanonical, hm]
  · rwa [LineFollowsFlags, ha]
  · rwa [RunBounded, hr]
  · rwa [LinkBounded, hl]
  · rwa [RostersOrdered, hb]

/-- Order memory replaced. -/
theorem State.KeepsBounds.setMemory (h : s.KeepsBounds t) {m : List Host.Cell}
    (hm : MemoryCanonical t → MemoryCanonical { t with orderMemory := m }) :
    s.KeepsBounds { t with orderMemory := m } := h.trans ⟨hm, id, id, id, id⟩

/-- The attention record replaced by one whose line is driven (R186). -/
theorem State.KeepsBounds.setAttention (h : s.KeepsBounds t) {a : Attention} (ha : a.Driven) :
    s.KeepsBounds { t with attention := a } := h.trans ⟨id, fun _ => ha, id, id, id⟩

/-- The runner record replaced. -/
theorem State.KeepsBounds.replaceRunner (h : s.KeepsBounds t) {r : Runner}
    (hr : t.runner.executed ≤ 32 → r.executed ≤ 32) : s.KeepsBounds { t with runner := r } :=
  h.trans ⟨id, id, hr, id, id⟩

/-- The link record replaced. -/
theorem State.KeepsBounds.setLink (h : s.KeepsBounds t) {l : Link} (hl : t.link.Bounded → l.Bounded) :
    s.KeepsBounds (t.setLink l) :=
  h.trans ⟨id, id, id, fun k => (linkBounded_iff _).2 (hl ((linkBounded_iff t).1 k)), id⟩

/-- All bus records replaced. -/
theorem State.KeepsBounds.setBuses (h : s.KeepsBounds t) {v : Vector Bus 8}
    (hv : ∀ b : Fin 8, RosterInOrder t.buses[b.val].roster → RosterInOrder v[b.val].roster) :
    s.KeepsBounds { t with buses := v } :=
  h.trans ⟨id, id, id, id, fun k => (rostersOrdered_iff _).2 fun b => hv b ((rostersOrdered_iff t).1 k b)⟩

/-- One bus record replaced. -/
theorem State.KeepsBounds.setBus (h : s.KeepsBounds t) {b : Fin 8} {x : Bus}
    (hx : RosterInOrder t.buses[b.val].roster → RosterInOrder x.roster) : s.KeepsBounds (t.setBus b x) := by
  refine h.setBuses fun j hj => ?_
  rw [getElem_put]
  split
  · next e => subst e; exact hx hj
  · exact hj

/-- One bus record replaced, its roster standing. -/
theorem State.KeepsBounds.moveBus (h : s.KeepsBounds t) {b : Fin 8} {x : Bus}
    (hx : x.roster = t.buses[b.val].roster) : s.KeepsBounds (t.setBus b x) := h.setBus fun k => by rwa [hx]

theorem State.KeepsBounds.raise (h : s.KeepsBounds t) {f : Flag} : s.KeepsBounds (t.raise f) :=
  h.setAttention (t.attention.raise_driven f)

theorem State.KeepsBounds.raiseIf (h : s.KeepsBounds t) {c : Bool} {f : Flag} : s.KeepsBounds (t.raiseIf c f) := by
  cases c
  · exact h
  · exact h.raise

/-! ### Permits and the breaker -/

theorem State.KeepsBounds.setBreaker (h : s.KeepsBounds t) {b : Breaker} : s.KeepsBounds (t.setBreaker b) :=
  .raiseIf (h.beside (by rfl))

theorem State.KeepsBounds.connectGone (h : s.KeepsBounds t) {p : Permit} {fire : Bool} :
    s.KeepsBounds (t.connectGone p fire) := by
  simp only [State.connectGone]
  split
  · split
    · exact .beside (.setBreaker h (b := t.breaker.trip t.now)) rfl
    · exact .beside (.setBreaker h (b := t.breaker.openNormally t.now)) rfl
  · exact h

theorem State.KeepsBounds.retargetSlot (h : s.KeepsBounds t) {src : Source} {i : Fin 48} :
    s.KeepsBounds (t.retargetSlot src i) := by
  simp only [State.retargetSlot]
  split
  · exact h
  · exact .raiseIf (h.beside (by rfl))

theorem State.KeepsBounds.revokeSlot (h : s.KeepsBounds t) {reason : Reason} {byOrder : Bool} {i : Fin 48} :
    s.KeepsBounds (t.revokeSlot reason byOrder i) := by
  simp only [State.revokeSlot]
  split
  · exact h
  · split
    · exact .connectGone (.raiseIf (h.beside (by rfl)))
    · exact h

theorem State.KeepsBounds.revokeWhere (h : s.KeepsBounds t) {f : Permit → Bool} {reason : Reason} :
    s.KeepsBounds (t.revokeWhere f reason) := by
  refine foldl_keeps s.KeepsBounds _ (fun u i hu => ?_) allSlots t h
  split
  · split
    · exact hu.revokeSlot
    · exact hu
  · exact hu

theorem State.KeepsBounds.expiryCheck (h : s.KeepsBounds t) : s.KeepsBounds t.expiryCheck := h.revokeWhere

theorem State.KeepsBounds.retireSlot (h : s.KeepsBounds t) {i : Fin 48} : s.KeepsBounds (t.retireSlot i) := by
  simp only [State.retireSlot]
  split
  · exact h
  · exact .connectGone (h.beside (by rfl))

theorem State.KeepsBounds.suspendConnect (h : s.KeepsBounds t) : s.KeepsBounds t.suspendConnect := by
  refine foldl_keeps s.KeepsBounds _ (fun u i hu => ?_) allSlots t h
  split
  · split
    · exact .raise (hu.beside (by rfl))
    · exact hu
  · exact hu

theorem State.KeepsBounds.resumeConnect (h : s.KeepsBounds t) : s.KeepsBounds t.resumeConnect := by
  refine foldl_keeps s.KeepsBounds _ (fun u i hu => ?_) allSlots t h
  split
  · next p _ =>
    split
    · have resumed : s.KeepsBounds (((u.setPermit i p.gridBack).raise .permit).arm p.autoReclose) :=
        .beside (.raise (t := u.setPermit i p.gridBack) (f := .permit) (hu.beside rfl)) rfl
      dsimp only
      split
      · exact resumed.setBreaker
      · exact resumed
    · exact hu
  · exact hu

/-! ### The settling of an event -/

theorem State.KeepsBounds.setFireTable (h : s.KeepsBounds t) {fire : Vector FireRec 4} :
    s.KeepsBounds (t.setFireTable fire) := .raiseIf (h.beside (by rfl))

theorem State.KeepsBounds.openBay (h : s.KeepsBounds t) {k : Fin 4} : s.KeepsBounds (t.openBay k) := h.beside rfl

theorem State.KeepsBounds.freePath (h : s.KeepsBounds t) : s.KeepsBounds t.freePath := h.beside rfl

theorem State.KeepsBounds.alarmEntry (h : s.KeepsBounds t) {k : Fin 4} : s.KeepsBounds (t.alarmEntry k) :=
  .freePath (.openBay (.setBreaker h.revokeWhere))

theorem State.KeepsBounds.fireAndAlarm (h : s.KeepsBounds t) : s.KeepsBounds t.fireAndAlarm :=
  foldl_keeps s.KeepsBounds _ (fun _ _ hu => hu.alarmEntry) _ _ h.setFireTable

theorem State.KeepsBounds.isolateStage (h : s.KeepsBounds t) {granted : Option (Fin 48)} :
    s.KeepsBounds (t.isolateStage granted) := by
  refine foldl_keeps s.KeepsBounds _ (fun u i hu => ?_) allSlots t h
  split
  · split
    · split
      · exact hu.beside rfl
      · exact .raise (hu.beside (by rfl))
    · exact hu
  · exact hu

theorem State.KeepsBounds.handOff (h : s.KeepsBounds t) {old : Vector StringRec 8} :
    s.KeepsBounds (t.handOff old) := by
  refine foldl_keeps s.KeepsBounds _ (fun u i hu => ?_) allSlots t h
  split
  · split
    · exact hu.retargetSlot
    · exact hu
  · exact hu

theorem State.KeepsBounds.evaluateStage (h : s.KeepsBounds t) : s.KeepsBounds t.evaluateStage := by
  simp only [State.evaluateStage]
  split
  · exact .handOff (h.beside (by rfl))
  · exact h

theorem State.KeepsBounds.checkMatch (h : s.KeepsBounds t) : s.KeepsBounds t.checkMatch :=
  h.beside (by simp [State.boundedFields])

theorem State.KeepsBounds.connectStage (h : s.KeepsBounds t) : s.KeepsBounds t.connectStage :=
  h.beside (by simp [State.boundedFields])

/-- The transmitter takes from the reply queue and puts nothing into it (R167). -/
theorem State.linkStage_bounded (s : State) (h : s.link.Bounded) : s.linkStage.link.Bounded := by
  obtain ⟨hq, hb⟩ := h
  simp only [State.linkStage]
  split
  · split
    · next f rest e =>
      rw [e, List.length_cons] at hq
      exact ⟨Nat.le_of_succ_le hq, hb⟩
    · split
      · split
        · exact ⟨hq, hb⟩
        · exact ⟨hq, hb⟩
      · exact ⟨hq, hb⟩
  · exact ⟨hq, hb⟩

theorem State.KeepsBounds.linkStage (h : s.KeepsBounds t) : s.KeepsBounds t.linkStage :=
  (h.setLink t.linkStage_bounded).beside (by simp [State.boundedFields])

theorem State.KeepsBounds.endStartUp (h : s.KeepsBounds t) {cause : StartEnd} : s.KeepsBounds (t.endStartUp cause) :=
  .raise (h.beside (by rfl))

theorem State.KeepsBounds.startUpStage (h : s.KeepsBounds t) : s.KeepsBounds t.startUpStage := by
  simp only [State.startUpStage]
  split
  · exact h
  · split
    · exact h.endStartUp
    · exact h

/-- The settling of an event keeps each invariant, stage by stage. -/
theorem State.KeepsBounds.settleWith (h : s.KeepsBounds t) {granted : Option (Fin 48)} :
    s.KeepsBounds (t.settleWith granted) := by
  have door : s.KeepsBounds t.doorStage := h.beside rfl
  have cooled : s.KeepsBounds t.doorStage.fireAndAlarm.coolStage := door.fireAndAlarm.beside rfl
  exact cooled.connectStage.isolateStage.evaluateStage.linkStage.startUpStage

theorem State.KeepsBounds.settle (h : s.KeepsBounds t) : s.KeepsBounds t.settle := h.settleWith

end

end Sys2Proof.Machine
end

section
/-! SUPPORT. The events of the sensing buses keep the rosters in order and the other invariants of the family (R81). -/

namespace Sys2Proof.Machine

open Sys2Proof.Safety Sys2Proof.Claims

/-! ### Rosters -/

/-- The order of a roster is that of its addresses. -/
theorem rosterInOrder_iff (r : List Entry) : RosterInOrder r ↔
    (r.map (·.address)).Pairwise (· < ·) ∧ (∀ a ∈ r.map (·.address), 1 ≤ a ∧ a ≤ 24) ∧
      (r.map (·.address)).length ≤ 24 := by
  simp only [RosterInOrder, List.forall_mem_map, List.length_map]

theorem RosterInOrder.of_addresses {r q : List Entry} (h : RosterInOrder r)
    (e : q.map (·.address) = r.map (·.address)) : RosterInOrder q := by
  rw [rosterInOrder_iff] at h ⊢
  rwa [e]

theorem rosterInOrder_nil : RosterInOrder [] := by simp [RosterInOrder]

/-- A roll call lists each address at most once, in rising order (R89). -/
theorem buildRoster_inOrder (p : Profile) (i : Fin 8) (working : List CallItem) :
    RosterInOrder (buildRoster p i working) := by
  refine ⟨List.pairwise_map.2 (buildRoster_sorted p i working), fun e he => ?_, List.length_filterMap_le _ _⟩
  rw [buildRoster_eq, List.mem_filterMap] at he
  obtain ⟨n, hn, hnew⟩ := he
  rw [List.mem_range] at hn
  rw [newEntry_address hnew]
  omega

theorem updateEntry_addresses (r : List Entry) (address : Nat) {f : Entry → Entry}
    (hf : ∀ e, (f e).address = e.address) :
    (updateEntry r address f).map (·.address) = r.map (·.address) := by
  rw [updateEntry, List.map_map]
  refine List.map_congr_left fun e _ => ?_
  simp only [Function.comp_apply]
  split
  · exact hf e
  · rfl

theorem Entry.failedSummary_address (e : Entry) : e.failedSummary.address = e.address := by
  simp only [Entry.failedSummary]
  split
  · split <;> rfl
  · rfl
  · split <;> rfl
  all_goals rfl

theorem Entry.goodProbe_address (e : Entry) (x : Probe) (cells : Nat) : (e.goodProbe x cells).address = e.address := by
  simp only [Entry.goodProbe]
  split <;> rfl

section

variable {s t : State} {b : Fin 8}

theorem State.KeepsBounds.updateRoster (h : s.KeepsBounds t) {address : Nat} {f : Entry → Entry}
    (hf : ∀ e, (f e).address = e.address) : s.KeepsBounds (t.updateRoster b address f) :=
  h.setBus fun k => k.of_addresses (updateEntry_addresses _ _ hf)

/-! ### Poll rounds -/

theorem State.KeepsBounds.noteStartUp (h : s.KeepsBounds t) {f : BusStart → BusStart} :
    s.KeepsBounds (t.noteStartUp b f) := h.beside (by simp [State.boundedFields])

theorem State.KeepsBounds.startFrame (h : s.KeepsBounds t) {kind : FrameKind} {address now : Nat} :
    s.KeepsBounds (t.setBus b (t.buses[b].startFrame kind address now)) := h.moveBus rfl

theorem State.KeepsBounds.toRollCall (h : s.KeepsBounds t) : s.KeepsBounds (t.toRollCall b) :=
  .beside (.moveBus h (b := b) (x := t.buses[b].enterRollCall t.now) rfl) rfl

theorem State.KeepsBounds.endRound (h : s.KeepsBounds t) : s.KeepsBounds (t.endRound b) := h.moveBus rfl

theorem State.KeepsBounds.aggregate (h : s.KeepsBounds t) : s.KeepsBounds (t.aggregate b) := by
  simp only [State.aggregate]
  split
  · exact .raiseIf (h.beside (by rfl))
  · exact .raiseIf (h.beside (by rfl))

theorem State.KeepsBounds.checkMatchOf (h : s.KeepsBounds t) : s.KeepsBounds (t.checkMatchOf b) := by
  simp only [State.checkMatchOf]
  split
  · exact h.checkMatch
  · exact h

theorem State.KeepsBounds.noteFirstRound (h : s.KeepsBounds t) : s.KeepsBounds (t.noteFirstRound b) := by
  simp only [State.noteFirstRound]
  split
  · exact h.noteStartUp
  · exact h

theorem State.KeepsBounds.completeRound (h : s.KeepsBounds t) : s.KeepsBounds (t.completeRound b) := by
  have settled : s.KeepsBounds (t.roundSettled b) :=
    .settle (.noteFirstRound (.checkMatchOf (.aggregate (h.moveBus (by rfl)))))
  rw [State.completeRound_eq, State.afterRound]
  split
  · exact settled.startFrame
  · exact settled.endRound

theorem State.KeepsBounds.visitAbove (h : s.KeepsBounds t) {above : Nat} : s.KeepsBounds (t.visitAbove b above) := by
  simp only [State.visitAbove]
  split
  · exact h.moveBus rfl
  · exact h.completeRound

theorem State.KeepsBounds.startRound (h : s.KeepsBounds t) : s.KeepsBounds (t.startRound b) :=
  .visitAbove (h.moveBus (by rfl))

/-! ### Roll calls -/

/-- The completion of a roll call rebuilds the roster in address order (R89). -/
theorem State.KeepsBounds.completeRollCall (h : s.KeepsBounds t) : s.KeepsBounds (t.completeRollCall b) :=
  .startRound (.noteStartUp (.raiseIf (.setBus h fun _ => buildRoster_inOrder _ _ _)))

theorem State.KeepsBounds.nextProbe (h : s.KeepsBounds t) {address : Nat} : s.KeepsBounds (t.nextProbe b address) := by
  simp only [State.nextProbe]
  split
  · exact h.moveBus rfl
  · exact h.completeRollCall

theorem State.KeepsBounds.switchToRollCall (h : s.KeepsBounds t) : s.KeepsBounds (t.switchToRollCall b) := by
  simp only [State.switchToRollCall]
  split
  · exact h.moveBus rfl
  · exact h.toRollCall

/-! ### Exchanges -/

theorem State.KeepsBounds.afterExchange (h : s.KeepsBounds t) {address : Nat} :
    s.KeepsBounds (t.afterExchange b address) := by
  simp only [State.afterExchange]
  split
  · exact h.toRollCall
  · exact h.visitAbove

theorem State.KeepsBounds.afterTarget (h : s.KeepsBounds t) : s.KeepsBounds (t.afterTarget b) := by
  simp only [State.afterTarget]
  split
  · exact h.toRollCall
  · exact h.endRound

theorem State.KeepsBounds.takeGas (h : s.KeepsBounds t) {address level : Nat} :
    s.KeepsBounds (t.takeGas b address level) := by
  simp only [State.takeGas]
  split
  · exact h.beside rfl
  · exact h

theorem State.KeepsBounds.goodSummary (h : s.KeepsBounds t) {address : Nat} {v : Summary} :
    s.KeepsBounds (t.goodSummary b address v) := by
  have stored : s.KeepsBounds (t.updateRoster b address (·.goodSummary v t.unit.active.cells[b])) :=
    h.updateRoster fun _ => rfl
  refine .afterExchange (.settle ?_)
  split
  · exact stored.takeGas
  · exact stored

theorem State.KeepsBounds.goodProbe (h : s.KeepsBounds t) {address : Nat} {x : Probe} :
    s.KeepsBounds (t.goodProbe b address x) := by
  have stored : s.KeepsBounds (t.updateRoster b address (·.goodProbe x t.unit.active.cells[b])).settle :=
    .settle (h.updateRoster fun e => e.goodProbe_address x _)
  simp only [State.goodProbe]
  split
  · exact stored.toRollCall
  · split
    · exact stored.startFrame
    · exact stored.visitAbove

theorem State.KeepsBounds.failedExchange (h : s.KeepsBounds t) {kind : FrameKind} {address : Nat} {why : FailKind} :
    s.KeepsBounds (t.failedExchange b kind address why) := by
  have failed : s.KeepsBounds (t.setBus b (t.buses[b].fail why address)) := h.moveBus rfl
  unfold State.failedExchange
  dsimp only
  split
  · exact failed.nextProbe
  · exact .afterExchange (.settle (failed.updateRoster Entry.failedSummary_address))
  · exact failed.afterExchange
  · exact failed

theorem State.KeepsBounds.judgeExchange (h : s.KeepsBounds t) {f : Frame} {chars : List BusChar} :
    s.KeepsBounds (t.judgeExchange b f chars) := by
  simp only [State.judgeExchange]
  split
  · exact h.failedExchange
  · split
    · exact h.goodSummary
    · exact h
  · split
    · exact .nextProbe (h.moveBus (by rfl))
    · exact h.goodProbe
    · exact h
  · exact h

theorem State.KeepsBounds.endExchange (h : s.KeepsBounds t) {kinds : List FrameKind} {chars : List BusChar} :
    s.KeepsBounds (t.endExchange b kinds chars) := by
  simp only [State.endExchange]
  split
  · exact .settle h.judgeExchange
  · exact h

theorem State.KeepsBounds.endGap (h : s.KeepsBounds t) {f : Frame} : s.KeepsBounds (t.endGap b f) := by
  simp only [State.endGap]
  split
  · exact h.failedExchange
  · exact h.failedExchange
  · exact .afterTarget (h.moveBus (by rfl))

/-! ### Bus states, profiles and time -/

theorem State.KeepsBounds.endSelfTest (h : s.KeepsBounds t) {back1 back2 : Option BusChar} :
    s.KeepsBounds (t.endSelfTest b back1 back2) := by
  simp only [State.endSelfTest]
  split
  · exact .noteStartUp (h.moveBus (by rfl))
  · exact .noteStartUp (.raise (h.moveBus (by rfl)))

theorem State.KeepsBounds.goStuck (h : s.KeepsBounds t) {level : Level} : s.KeepsBounds (t.goStuck b level) := by
  have stuck : s.KeepsBounds ((t.setBus b (t.buses[b].toStuck level t.now)).raise .bus) :=
    .raise (h.moveBus (by rfl))
  simp only [State.goStuck]
  refine .noteStartUp ?_
  split
  · exact stuck.beside rfl
  · exact stuck

/-- A bus at a commit keeps its roster, or is OFF and has none (R78, R92). -/
theorem State.KeepsBounds.refitBus (h : s.KeepsBounds t) {old new : Profile} :
    s.KeepsBounds (refitBus t old new b) := by
  simp only [Machine.refitBus]
  split
  · exact h
  · exact h.moveBus rfl
  · exact h
  · exact h.setBus fun _ => rosterInOrder_nil
  · split
    · exact h
    · exact .switchToRollCall (h.moveBus (by rfl))
  · exact h

theorem State.KeepsBounds.loadBus (h : s.KeepsBounds t) {p : Profile} : s.KeepsBounds (loadBus p t b) := by
  simp only [Machine.loadBus]
  split
  · exact .noteStartUp (h.moveBus (by rfl))
  · exact h

theorem State.KeepsBounds.tick (h : s.KeepsBounds t) : s.KeepsBounds t.tick := by
  have built : s.KeepsBounds { t with buses := tab8 fun b => t.buses[b].build t.strings[b] (t.now + 1) } := by
    refine h.setBuses fun b hb => ?_
    simp only [getElem_tab8, Bus.build]
    split
    · split <;> exact hb
    · exact hb
  exact built.beside rfl

end

end Sys2Proof.Machine
end

section
/-! SUPPORT. The runner, the window and the converter link keep order memory canonical (R174), the run's bound (R181),
the attention line (R186) and the link's buffers (R162, R166). -/

namespace Sys2Proof.Machine

open Sys2Proof.Safety Sys2Proof.Claims

section

variable {s t : State}

/-! ### The runner -/

/-- The outcome of a slot lies in order memory (R180, 11.1.1). -/
theorem State.KeepsBounds.writeOutcome (h : s.KeepsBounds t) {slot : BitVec 5} {a : Answer} :
    s.KeepsBounds (t.writeOutcome slot a) := by
  refine h.setMemory fun ⟨hwf, hbound⟩ => ⟨Memory.wf_writeWords _ _ _ hwf, ?_⟩
  refine Memory.bound_writeWords _ _ 512 _ ?_ hbound
  rw [List.length_cons, wordResults_length, slotAddress]
  omega

theorem State.KeepsBounds.setRunner (h : s.KeepsBounds t) {st : RunnerState} : s.KeepsBounds (t.setRunner st) :=
  h.replaceRunner id

theorem State.KeepsBounds.endOrder (h : s.KeepsBounds t) {slot : BitVec 5} {x : Snapshot} {stop : Bool} {a : Answer} :
    s.KeepsBounds (t.endOrder slot x stop a).1 := by
  have written : ∀ c, s.KeepsBounds ((t.writeOutcome slot a).raiseIf c .chain) := fun _ => .raiseIf h.writeOutcome
  simp only [State.endOrder]
  split
  · exact .raise (written _).setRunner
  · split
    · exact .raise (written _).setRunner
    · split
      · exact .raise (written _).setRunner
      · exact written _

theorem State.KeepsBounds.chainLong (h : s.KeepsBounds t) {slot : BitVec 5} : s.KeepsBounds (t.chainLong slot) :=
  .raise h.setRunner

theorem State.KeepsBounds.takeSnapshot (h : s.KeepsBounds t) {slot : BitVec 5} (hn : t.runner.executed < 32) :
    s.KeepsBounds (t.takeSnapshot slot) := h.replaceRunner fun _ => hn

/-- A slot is taken only while fewer than 32 orders have been executed (R181). -/
theorem State.KeepsBounds.takeSlot (h : s.KeepsBounds t) {n : Nat} {slot : BitVec 5} :
    s.KeepsBounds (State.takeSlot n slot t) := by
  induction n generalizing slot t with
  | zero => exact h.chainLong
  | succ n ih =>
    simp only [State.takeSlot]
    split
    · exact h.chainLong
    · next hn =>
      have taken : s.KeepsBounds (t.takeSnapshot slot) := h.takeSnapshot (Nat.lt_of_not_le hn)
      split
      · exact taken
      · next r _ =>
        have ended := taken.endOrder (slot := slot) (x := t.snapshotOf slot) (stop := false) (a := refuse r)
        split
        · next u hu => rw [hu] at ended; exact ended
        · next u m hu => rw [hu] at ended; exact ih ended

theorem State.KeepsBounds.answerOrder (h : s.KeepsBounds t) {slot : BitVec 5} {x : Snapshot} {stop : Bool}
    {a : Answer} : s.KeepsBounds (t.answerOrder slot x stop a) := by
  have ended := h.endOrder (slot := slot) (x := x) (stop := stop) (a := a)
  simp only [State.answerOrder]
  split
  · next u hu => rw [hu] at ended; exact ended
  · next u m hu => rw [hu] at ended; exact ended.takeSlot

theorem State.KeepsBounds.deliver (h : s.KeepsBounds t) {a : Answer} {order : Instr} :
    s.KeepsBounds (t.deliver a order) := by
  simp only [State.deliver]
  split
  · split
    · exact h.setRunner
    · exact h.beside rfl
  · exact h.beside rfl

/-- An order keeps what its owner keeps. -/
theorem State.takeOrder_keepsBounds (s : State) (order : Instr) (owner : State → State × Answer)
    (h : s.KeepsBounds (owner s).1) : s.KeepsBounds (s.takeOrder order owner) := by
  rcases State.takeOrder_cases s order owner with ⟨r, -, e⟩ | e
  · rw [e]
    exact .beside (.refl s) (by rfl)
  · rw [e]
    exact h.deliver

theorem State.KeepsBounds.setWaiting (h : s.KeepsBounds t) : s.KeepsBounds t.setWaiting := by
  simp only [State.setWaiting]
  split
  · exact h.setRunner
  · exact h
  · exact h

theorem State.KeepsBounds.answerCommit (h : s.KeepsBounds t) {a : Answer} : s.KeepsBounds (t.answerCommit a) := by
  simp only [State.answerCommit]
  split
  · exact h.answerOrder
  all_goals exact h.beside rfl

/-! ### The window -/

theorem State.KeepsBounds.runCommand (h : s.KeepsBounds t) {slot : BitVec 5} : s.KeepsBounds (t.runCommand slot) := by
  simp only [State.runCommand]
  split
  · exact h.replaceRunner id
  · exact .takeSlot (h.replaceRunner fun _ => Nat.zero_le 32)
  · exact .takeSlot (h.replaceRunner fun _ => Nat.zero_le 32)

theorem State.KeepsBounds.stopCommand (h : s.KeepsBounds t) : s.KeepsBounds t.stopCommand := by
  simp only [State.stopCommand]
  split
  · exact h.setRunner
  · exact h
  · exact h

theorem State.KeepsBounds.wrote (h : s.KeepsBounds t) {a : BitVec 10} : s.KeepsBounds (t.wrote a) := h.beside rfl

/-- A window write by area: a word of order memory, a command, or an attention word (R174). -/
theorem State.KeepsBounds.windowWrite (h : s.KeepsBounds t) {a : BitVec 10} {v : Word} :
    s.KeepsBounds (t.windowWrite a v) := by
  simp only [State.windowWrite]
  split
  · next ha =>
    exact h.setMemory fun ⟨hwf, hbound⟩ => ⟨Memory.wf_writeWord _ _ _ hwf,
      Memory.bound_writeWords t.orderMemory a.toNat 512 [v] ha hbound⟩
  · split
    · split
      · exact h.runCommand
      · split
        · exact h.stopCommand
        · exact h
    · split
      · exact h.setAttention rfl
      · split
        · exact h.setAttention rfl
        · exact h

/-! ### The converter link -/

theorem State.KeepsBounds.linkAlive (h : s.KeepsBounds t) : s.KeepsBounds t.linkAlive := by
  refine .raiseIf (h.setLink ?_)
  exact fun ⟨hq, _⟩ => ⟨hq, Nat.zero_le 8⟩

theorem State.KeepsBounds.overrun (h : s.KeepsBounds t) : s.KeepsBounds t.overrun := by
  refine .raise (h.linkAlive.setLink ?_)
  exact id

theorem State.KeepsBounds.storeDc (h : s.KeepsBounds t) {f : InFrame} : s.KeepsBounds (t.storeDc f) := by
  simp only [State.storeDc]
  split
  · exact .checkMatch (h.setLink id)
  all_goals exact h

theorem State.KeepsBounds.permitFrame (h : s.KeepsBounds t) {kind : InKind} {handle : Handle} {v : Word} :
    s.KeepsBounds (t.permitFrame kind handle v).1 := by
  simp only [State.permitFrame]
  split
  · exact h
  · split
    · exact h
    · split
      · exact .raise h.retireSlot
      · exact h
      · split
        · exact h
        · exact h.beside rfl
      · split
        · exact h
        · simp only [State.takeReduce]
          split
          · exact h
          · split
            · exact h
            · exact .retargetSlot (h.beside (by rfl))

/-- The Permit Manager leaves the link alone. -/
theorem State.permitFrame_link (s : State) (kind : InKind) (handle : Handle) (v : Word) :
    (s.permitFrame kind handle v).1.link = s.link := by
  simp only [State.permitFrame]
  split
  · rfl
  · split
    · rfl
    · split
      · simp
      · rfl
      · split
        · rfl
        · simp
      · split
        · rfl
        · simp only [State.takeReduce]
          split
          · rfl
          · split
            · rfl
            · simp [State.reduceSlot]

theorem State.storeDc_queue (s : State) (f : InFrame) : (s.storeDc f).link.queue = s.link.queue := by
  simp only [State.storeDc]
  split
  · simp
  all_goals rfl

/-- A reply is queued where fewer than four wait (R165, R166). -/
theorem State.KeepsBounds.enqueue (h : s.KeepsBounds t) {r : OutFrame} (hq : t.link.queue.length < 4) :
    s.KeepsBounds (t.enqueue r) := by
  refine h.setLink fun ⟨_, hb⟩ => ⟨?_, hb⟩
  rw [List.length_append]
  exact hq

theorem State.KeepsBounds.takeFrame (h : s.KeepsBounds t) {f : InFrame} : s.KeepsBounds (t.takeFrame f) := by
  simp only [State.takeFrame]
  split
  · exact h
  · split
    · exact .settle h.overrun
    · next hq =>
      refine .settle (.enqueue (.permitFrame h.linkAlive.storeDc) ?_)
      rw [State.permitFrame_link, State.storeDc_queue]
      simpa [State.linkAlive] using hq

theorem State.KeepsBounds.badFrame (h : s.KeepsBounds t) {cause : BadCause} {buffer : List RxChar}
    (hb : buffer.length ≤ 8) : s.KeepsBounds (t.badFrame cause buffer) := by
  refine .raise (h.setLink ?_)
  exact fun ⟨hq, _⟩ => ⟨hq, hb⟩

/-- The buffer grows to eight characters; the ninth completes the frame (R162). -/
theorem State.KeepsBounds.joinFrame (h : s.KeepsBounds t) {c : RxChar} : s.KeepsBounds (t.joinFrame c) := by
  simp only [State.joinFrame]
  split
  · next hn =>
    refine h.setLink fun ⟨hq, _⟩ => ⟨hq, ?_⟩
    rw [List.length_append]
    exact Nat.le_of_lt_succ hn
  · simp only [State.judgeNine]
    split
    · exact h.takeFrame
    · exact h.badFrame (Nat.zero_le 8)

theorem State.KeepsBounds.takeCharacter (h : s.KeepsBounds t) {c : RxChar} : s.KeepsBounds (t.takeCharacter c) := by
  have one : [c].length ≤ 8 := by simp
  simp only [State.takeCharacter]
  split
  · exact h.setLink fun ⟨hq, _⟩ => ⟨hq, one⟩
  · exact h
  · exact h.badFrame one
  · exact h.joinFrame

/-- A broken frame leaves its mark, any other bad frame nothing (R162). -/
theorem badBuffer_length (x : BadEnd) : (badBuffer x).length ≤ 8 := by
  cases x with
  | broken mark =>
    calc (badBuffer (.broken mark)).length
      _ ≤ (linkReceive mark).toList.length := List.length_filter_le _ _
      _ ≤ 8 := by cases linkReceive mark <;> simp
  | framing | noise | check | kind => exact Nat.zero_le 8

end

end Sys2Proof.Machine
end

section
/-! SUPPORT. The orders keep the invariants of order memory, line, runner, link and rosters, each at its owner. -/

namespace Sys2Proof.Machine

open Sys2Proof.Safety Sys2Proof.Claims

/-! ### Read orders -/

theorem ownerLookup_keepsBounds (h : Word) (s : State) : s.KeepsBounds (ownerLookup h s).1 := by
  simp only [ownerLookup]
  split
  · exact .refl s
  · exact .beside (.refl s) (by rfl)

theorem ownerFind_keepsBounds (k j : Word) (s : State) : s.KeepsBounds (ownerFind k j s).1 := by
  simp only [ownerFind]
  split
  · exact .refl s
  · exact .refl s
  · split <;> exact .refl s

theorem ownerNextChanged_keepsBounds (s : State) : s.KeepsBounds (ownerNextChanged s).1 := by
  simp only [ownerNextChanged]
  split
  · exact .refl s
  · split
    · exact .refl s
    · exact .beside (.refl s) (by rfl)

theorem ownerReadString_keepsBounds (x page : Word) (s : State) : s.KeepsBounds (ownerReadString x page s).1 := by
  simp only [ownerReadString]
  split
  · exact .refl s
  · split
    · exact .beside (.refl s) (by rfl)
    · split
      · exact .beside (.refl s) (by rfl)
      · exact .refl s

theorem ownerReadModule_keepsBounds (x a page : Word) (s : State) : s.KeepsBounds (ownerReadModule x a page s).1 := by
  simp only [ownerReadModule]
  split
  · exact .refl s
  · split <;> exact .refl s

theorem ownerReadBay_keepsBounds (x : Word) (s : State) : s.KeepsBounds (ownerReadBay x s).1 := by
  simp only [ownerReadBay]
  split <;> exact .refl s

theorem ownerReadConnection_keepsBounds (x : Word) (s : State) : s.KeepsBounds (ownerReadConnection x s).1 := by
  simp only [ownerReadConnection]
  split
  · exact .refl s
  · split <;> exact .refl s

theorem ownerReadLink_keepsBounds (s : State) : s.KeepsBounds (ownerReadLink s).1 := by
  refine .setLink (.refl s) (l := { s.link with overrun := false }) ?_
  exact id

theorem ownerReadProfile_keepsBounds (x y : Word) (s : State) : s.KeepsBounds (ownerReadProfile x y s).1 := by
  simp only [ownerReadProfile]
  split
  · exact .refl s
  · split <;> exact .refl s

/-! ### Permit orders -/

theorem ownerGrant_keepsBounds (op0 op1 op2 op3 op4 op5 : Word) (s : State) :
    s.KeepsBounds (ownerGrant op0 op1 op2 op3 op4 op5 s).1 := by
  simp only [ownerGrant]
  split
  · split
    · exact .refl s
    · exact .refl s
    · simp only [State.completeGrant]
      split
      · exact .settleWith (.beside (.refl s) (by rfl))
      · exact .settleWith (.beside (.refl s) (by rfl))
  · exact .refl s

theorem ownerAmend_keepsBounds (h change op2 op3 op4 op5 : Word) (s : State) :
    s.KeepsBounds (ownerAmend h change op2 op3 op4 op5 s).1 := by
  simp only [ownerAmend]
  split
  · exact .refl s
  · split
    · exact .refl s
    · dsimp only
      split
      · exact .settle (.retargetSlot (.beside (.refl s) (by rfl)))
      · exact .settle (.beside (.refl s) (by rfl))

theorem ownerRenew_keepsBounds (h : Word) (s : State) : s.KeepsBounds (ownerRenew h s).1 := by
  simp only [ownerRenew]
  split
  · exact .refl s
  · split
    · exact .refl s
    · split
      · exact .refl s
      · split
        · exact .refl s
        · exact .beside (.refl s) (by rfl)

theorem ownerRevoke_keepsBounds (h : Word) (s : State) : s.KeepsBounds (ownerRevoke h s).1 := by
  simp only [ownerRevoke]
  split
  · exact .refl s
  · split
    · exact .refl s
    · dsimp only
      exact .settle (.revokeSlot (.refl s))

theorem ownerRetire_keepsBounds (h : Word) (s : State) : s.KeepsBounds (ownerRetire h s).1 := by
  simp only [ownerRetire]
  split
  · exact .refl s
  · dsimp only
    exact .settle (.retireSlot (.refl s))

/-! ### Plant orders -/

theorem ownerCloseBreaker_keepsBounds (s : State) : s.KeepsBounds (ownerCloseBreaker s).1 := by
  simp only [ownerCloseBreaker]
  split
  · exact .refl s
  · split
    · exact .setBreaker (.refl s)
    · exact .refl s
  all_goals exact .refl s

theorem ownerResetBreaker_keepsBounds (s : State) : s.KeepsBounds (ownerResetBreaker s).1 := by
  simp only [ownerResetBreaker]
  split
  · split
    · exact .refl s
    · exact .setBreaker (.refl s)
  · split
    · exact .refl s
    · exact .setBreaker (.refl s)
  all_goals exact .refl s

theorem ownerClearContactor_keepsBounds (x : Word) (s : State) : s.KeepsBounds (ownerClearContactor x s).1 := by
  simp only [ownerClearContactor]
  split
  · exact .refl s
  · split
    · dsimp only
      exact .settle (.beside (.refl s) (by rfl))
    · exact .refl s

theorem ownerResetBay_keepsBounds (x : Word) (s : State) : s.KeepsBounds (ownerResetBay x s).1 := by
  have quiet : ∀ k, s.KeepsBounds (s.quietBay k).settle := fun _ => .settle (.setFireTable (.refl s))
  simp only [ownerResetBay]
  split
  · exact .refl s
  · split
    · exact .refl s
    · exact .refl s
    · exact .refl s
    all_goals
      split
      · exact .refl s
      · dsimp only
        exact quiet _

theorem ownerReleaseNow_keepsBounds (x : Word) (s : State) : s.KeepsBounds (ownerReleaseNow x s).1 := by
  have released : ∀ k, s.KeepsBounds (s.releaseBay k).settle := fun _ => .settle (.setFireTable (.refl s))
  simp only [ownerReleaseNow]
  split
  · exact .refl s
  · split
    · dsimp only
      exact released _
    · dsimp only
      exact released _
    all_goals exact .refl s

theorem ownerRollcall_keepsBounds (x : Word) (s : State) : s.KeepsBounds (ownerRollcall x s).1 := by
  have requested : ∀ b : Fin 8, s.KeepsBounds (s.setBus b s.buses[b].request) := fun _ => .moveBus (.refl s) (by rfl)
  simp only [ownerRollcall]
  split
  · exact .refl s
  · split
    · dsimp only
      exact .settle (requested _).switchToRollCall
    · exact requested _
    · exact requested _
    · exact requested _
    all_goals exact .refl s

/-! ### Site orders -/

theorem State.takeClock_keepsBounds (s : State) (x : SiteTime) : s.KeepsBounds (s.takeClock x) :=
  .beside (.refl s) rfl

theorem ownerSetClock_keepsBounds (day second high : Word) (s : State) :
    s.KeepsBounds (ownerSetClock day second high s).1 := by
  simp only [ownerSetClock]
  split
  · exact .refl s
  · dsimp only
    exact .settle (.expiryCheck (s.takeClock_keepsBounds _))

theorem State.changeMode_keepsBounds (s : State) (m : Mode) : s.KeepsBounds (s.changeMode m) := by
  simp only [State.changeMode]
  split
  · exact .settle (.revokeWhere (.beside (.refl s) (by rfl)))
  · exact .settle (.beside (.refl s) (by rfl))

theorem ownerSetMode_keepsBounds (x : Word) (s : State) : s.KeepsBounds (ownerSetMode x s).1 := by
  simp only [ownerSetMode]
  split
  · exact .refl s
  · split
    · exact .refl s
    · split
      · exact .refl s
      · dsimp only
        exact s.changeMode_keepsBounds _

theorem ownerWriteProfile_keepsBounds (x y lo hi : Word) (s : State) :
    s.KeepsBounds (ownerWriteProfile x y lo hi s).1 := by
  simp only [ownerWriteProfile]
  split
  · exact .refl s
  · split
    · exact .beside (.refl s) (by rfl)
    · exact .refl s

theorem execCommitProfile_keepsBounds (s t : State) (h : execCommitProfile s = .next t) : s.KeepsBounds t := by
  have begun : s.KeepsBounds s.beginCommit := .beside (.refl s) (by rfl)
  cases h
  split
  · exact begun.setWaiting
  · split
    · exact .beside (.refl s) (by rfl)
    · exact begun

end Sys2Proof.Machine
end

section
/-! SUPPORT. The events of every block but the two resets keep the invariants of order memory, line, runner, link and
rosters. -/

namespace Sys2Proof.Machine

open Sys2Proof.Safety Sys2Proof.Claims

/-! ### Commits, loads and start-up -/

theorem State.KeepsBounds.refitUnit {s t : State} (h : s.KeepsBounds t) {p : Profile} :
    s.KeepsBounds (t.refitUnit p) := by
  have refitted : s.KeepsBounds (t.refitStrings p) := .raiseIf (h.beside (by rfl))
  exact refitted.beside rfl

theorem State.KeepsBounds.refitContactors {s t : State} (h : s.KeepsBounds t) {p : Profile} :
    s.KeepsBounds (t.refitContactors p) := h.beside rfl

theorem State.KeepsBounds.refitCooling {s t : State} (h : s.KeepsBounds t) {p : Profile} :
    s.KeepsBounds (t.refitCooling p) := .raiseIf (h.beside (by rfl))

/-- A new rate discards the buffer (R172). -/
theorem Link.opened_bounded (l : Link) (rate : Option Rate) (h : l.Bounded) :
    Link.Bounded { l with rate := rate, buffer := [] } := by
  obtain ⟨hq, -⟩ := h
  exact ⟨hq, Nat.zero_le 8⟩

theorem Link.refit_bounded (l : Link) (rate : Rate) (h : l.Bounded) : (l.refit rate).Bounded := by
  simp only [Link.refit]
  split
  · exact h
  · exact l.opened_bounded (some rate) h

theorem State.KeepsBounds.handOut {s t : State} (h : s.KeepsBounds t) {p : Profile} : s.KeepsBounds (t.handOut p) := by
  have buses : s.KeepsBounds ((t.refitUnit p).refitBuses t.unit.active p) :=
    foldl_keeps s.KeepsBounds _ (fun _ _ hu => hu.refitBus) allStrings _ h.refitUnit
  exact buses.refitContactors.refitCooling.setLink (Link.refit_bounded _ _)

theorem execCommitComplete_keepsBounds (s t : State) (h : execCommitComplete s = .next t) : s.KeepsBounds t := by
  have ended : s.KeepsBounds s.endCommit := .beside (.refl s) (by rfl)
  cases h
  split
  · exact .refl s
  · exact .answerCommit (.settle ended.handOut)

theorem State.KeepsBounds.handLoaded {s t : State} (h : s.KeepsBounds t) {p : Profile} :
    s.KeepsBounds (t.handLoaded p) := by
  have fitted : s.KeepsBounds { t with strings := tab8 fun i => { t.strings[i] with fitted := p.isFitted i } } :=
    h.beside rfl
  have buses := foldl_keeps s.KeepsBounds (Machine.loadBus p) (fun _ _ hu => .loadBus hu) allStrings _ fitted
  exact (buses.setLink (Link.opened_bounded _ (some p.linkRate))).beside rfl

theorem execStartUpProfileLoad_keepsBounds (s t : State) (h : execStartUpProfileLoad s = .next t) :
    s.KeepsBounds t := by
  cases h
  split
  · exact .refl s
  · exact .settle (.handLoaded (.raiseIf (.beside (.refl s) (by rfl))))

theorem execStartUpTimeLimit_keepsBounds (s t : State) (h : execStartUpTimeLimit s = .next t) : s.KeepsBounds t := by
  cases h
  split
  · exact .endStartUp (.refl s)
  · exact .refl s

theorem execSiteClockAdvance_keepsBounds (s t : State) (h : execSiteClockAdvance s = .next t) : s.KeepsBounds t := by
  rw [execSiteClockAdvance, Host.Outcome.next.injEq] at h
  subst h
  exact .settle (.expiryCheck (s.takeClock_keepsBounds _))

/-! ### Permit timers, key and door -/

theorem execLeaseLapse_keepsBounds (i : Fin 48) (s t : State) (h : execLeaseLapse i s = .next t) :
    s.KeepsBounds t := by
  cases h
  split
  · split
    · exact .settle (.revokeSlot (.refl s))
    · exact .refl s
  · exact .refl s

theorem State.KeepsBounds.endRise {s t : State} (h : s.KeepsBounds t) {i : Fin 48} {p : Permit} {l : Limits}
    {r : Rise} : s.KeepsBounds (t.endRise i p l r) := .retargetSlot (.raise (h.beside (by rfl)))

theorem execRiseHoldEnd_keepsBounds (i : Fin 48) (s t : State) (h : execRiseHoldEnd i s = .next t) :
    s.KeepsBounds t := by
  cases h
  split
  · exact .refl s
  · split
    · exact .refl s
    · split
      · exact .refl s
      · split
        · exact .settle (.endRise (.refl s))
        · exact .refl s

theorem execRevokedHoldEnd_keepsBounds (i : Fin 48) (s t : State) (h : execRevokedHoldEnd i s = .next t) :
    s.KeepsBounds t := by
  cases h
  split
  · split
    · exact .settle (.raise (.retireSlot (.refl s)))
    · exact .refl s
  · exact .refl s

theorem execCrewKeyChange_keepsBounds (x : Bool) (s t : State) (h : execCrewKeyChange x s = .next t) :
    s.KeepsBounds t := by
  cases h
  split
  · exact .refl s
  · split
    · exact .beside (.refl s) (by rfl)
    · exact .settle (.revokeWhere (.beside (.refl s) (by rfl)))

theorem execDoorContactChange_keepsBounds (x : Bool) (s t : State) (h : execDoorContactChange x s = .next t) :
    s.KeepsBounds t := by
  cases h
  split
  · exact .refl s
  · exact .beside (.refl s) (by rfl)

theorem execDoorTaken_keepsBounds (s t : State) (h : execDoorTaken s = .next t) : s.KeepsBounds t := by
  cases h
  split
  · exact .settle (.beside (.refl s) (by rfl))
  · exact .refl s

/-! ### Sensing buses -/

theorem execSelftestEnd_keepsBounds (b : Fin 8) (x y : Option BusChar) (s t : State)
    (h : execSelftestEnd b x y s = .next t) : s.KeepsBounds t := by
  cases h
  split
  · exact .settle (.endSelfTest (.refl s))
  all_goals exact .refl s

theorem execWakePulseEnd_keepsBounds (b : Fin 8) (s t : State) (h : execWakePulseEnd b s = .next t) :
    s.KeepsBounds t := by
  cases h
  split
  · exact .moveBus (.refl s) (by rfl)
  all_goals exact .refl s

theorem execWakeEnd_keepsBounds (b : Fin 8) (s t : State) (h : execWakeEnd b s = .next t) : s.KeepsBounds t := by
  cases h
  split
  · exact .settle (.moveBus (.refl s) (by rfl))
  all_goals exact .refl s

theorem execStuckRetryEnd_keepsBounds (b : Fin 8) (s t : State) (h : execStuckRetryEnd b s = .next t) :
    s.KeepsBounds t := by
  cases h
  split
  · exact .moveBus (.refl s) (by rfl)
  all_goals exact .refl s

theorem execStuckLine_keepsBounds (b : Fin 8) (w : LineWatch) (s t : State) (h : execStuckLine b w s = .next t) :
    s.KeepsBounds t := by
  cases h
  split
  · exact .settle (.goStuck (.refl s))
  · exact .refl s

theorem execEchoError_keepsBounds (b : Fin 8) (n : Nat) (r : Samples) (s t : State)
    (h : execEchoError b n r s = .next t) : s.KeepsBounds t := by
  cases h
  split
  · exact .refl s
  · split
    · exact .refl s
    · split
      · exact .refl s
      · exact .moveBus (.refl s) (by rfl)

theorem execIdleGapEnd_keepsBounds (b : Fin 8) (s t : State) (h : execIdleGapEnd b s = .next t) : s.KeepsBounds t := by
  cases h
  split
  · exact .settle (.endGap (.refl s))
  · exact .refl s

theorem execPollRoundStart_keepsBounds (b : Fin 8) (s t : State) (h : execPollRoundStart b s = .next t) :
    s.KeepsBounds t := by
  cases h
  split
  · exact .settle (.startRound (.refl s))
  · exact .refl s

theorem execSummaryAnswer_keepsBounds (b : Fin 8) (x : List BusChar) (s t : State)
    (h : execSummaryAnswer b x s = .next t) : s.KeepsBounds t := by
  cases h
  split
  · exact .endExchange (.refl s)
  · exact .refl s

theorem execProbeAnswer_keepsBounds (b : Fin 8) (x : List BusChar) (s t : State)
    (h : execProbeAnswer b x s = .next t) : s.KeepsBounds t := by
  cases h
  split
  · exact .endExchange (.refl s)
  · exact .refl s

theorem State.KeepsBounds.endTarget {s t : State} (h : s.KeepsBounds t) {b : Fin 8} {f : Frame} :
    s.KeepsBounds (t.endTarget b f) := .afterTarget (h.moveBus (by rfl))

theorem execTargetFrameEnd_keepsBounds (b : Fin 8) (s t : State) (h : execTargetFrameEnd b s = .next t) :
    s.KeepsBounds t := by
  cases h
  split
  · exact .settle (.endTarget (.refl s))
  · exact .refl s

/-! ### Bays -/

theorem execSmokeLineChange_keepsBounds (k : Fin 4) (l : SmokeId) (x : SmokePair) (s t : State)
    (h : execSmokeLineChange k l x s = .next t) : s.KeepsBounds t := by
  cases h
  dsimp only
  split
  · exact .refl s
  · exact .beside (.refl s) (by rfl)

theorem execSmokeConditionTaken_keepsBounds (k : Fin 4) (l : SmokeId) (s t : State)
    (h : execSmokeConditionTaken k l s = .next t) : s.KeepsBounds t := by
  cases h
  split
  · exact .refl s
  · exact .settle (.beside (.refl s) (by rfl))

theorem execHoldButtonChange_keepsBounds (k : Fin 4) (x : Bool) (s t : State)
    (h : execHoldButtonChange k x s = .next t) : s.KeepsBounds t := by
  cases h
  split
  · exact .refl s
  · exact .beside (.refl s) (by rfl)

theorem execHoldButtonTaken_keepsBounds (k : Fin 4) (s t : State) (h : execHoldButtonTaken k s = .next t) :
    s.KeepsBounds t := by
  cases h
  split
  · exact .settle (.beside (.refl s) (by rfl))
  · exact .refl s

theorem execCountdownEnd_keepsBounds (k : Fin 4) (s t : State) (h : execCountdownEnd k s = .next t) :
    s.KeepsBounds t := by
  have released : s.KeepsBounds (s.releaseBay k) := .setFireTable (.refl s)
  cases h
  split
  · exact released.settle
  all_goals exact .refl s

theorem execReleasePulseEnd_keepsBounds (k : Fin 4) (s t : State) (h : execReleasePulseEnd k s = .next t) :
    s.KeepsBounds t := by
  cases h
  split
  · exact .beside (.refl s) (by rfl)
  all_goals exact .refl s

theorem execRunOnEnd_keepsBounds (k : Fin 4) (s t : State) (h : execRunOnEnd k s = .next t) : s.KeepsBounds t := by
  cases h
  split
  · exact .settle (.beside (.refl s) (by rfl))
  · exact .refl s

theorem execFlowSwitchChange_keepsBounds (k : Fin 4) (x : Bool) (s t : State)
    (h : execFlowSwitchChange k x s = .next t) : s.KeepsBounds t := by
  cases h
  split
  · exact .refl s
  · exact .beside (.refl s) (by rfl)

theorem execFlowTimerEnd_keepsBounds (k : Fin 4) (s t : State) (h : execFlowTimerEnd k s = .next t) :
    s.KeepsBounds t := by
  cases h
  split
  · exact .refl s
  · exact .settle (.raise (.beside (.refl s) (by rfl)))

/-! ### Contactors and breaker -/

theorem State.KeepsBounds.replaceContactor {s t : State} (h : s.KeepsBounds t) {i : Fin 8} {c : Contactor} :
    s.KeepsBounds (t.replaceContactor i c) := .freePath (.raiseIf (h.beside (by rfl)))

theorem execPrechargeTimeout_keepsBounds (i : Fin 8) (s t : State) (h : execPrechargeTimeout i s = .next t) :
    s.KeepsBounds t := by
  cases h
  split
  · exact .settle (.replaceContactor (.refl s))
  all_goals exact .refl s

theorem execPrechargeRetryEnd_keepsBounds (i : Fin 8) (s t : State) (h : execPrechargeRetryEnd i s = .next t) :
    s.KeepsBounds t := by
  cases h
  split
  · exact .settle (.beside (.refl s) (by rfl))
  · exact .refl s

theorem execDrainEnd_keepsBounds (i : Fin 8) (s t : State) (h : execDrainEnd i s = .next t) : s.KeepsBounds t := by
  cases h
  split
  · exact .settle (.beside (.refl s) (by rfl))
  all_goals exact .refl s

theorem execMainFeedbackChange_keepsBounds (i : Fin 8) (x : Bool) (s t : State)
    (h : execMainFeedbackChange i x s = .next t) : s.KeepsBounds t := by
  cases h
  split
  · exact .refl s
  · exact .beside (.refl s) (by rfl)

theorem execContactorFeedbackTimerEnd_keepsBounds (i : Fin 8) (s t : State)
    (h : execContactorFeedbackTimerEnd i s = .next t) : s.KeepsBounds t := by
  cases h
  split
  · exact .settle (.replaceContactor (.refl s))
  · exact .refl s

theorem execBreakerFeedbackChange_keepsBounds (x : Bool) (s t : State)
    (h : execBreakerFeedbackChange x s = .next t) : s.KeepsBounds t := by
  cases h
  split
  · exact .refl s
  · exact .setBreaker (.refl s)

theorem execBreakerWindowEnd_keepsBounds (s t : State) (h : execBreakerWindowEnd s = .next t) : s.KeepsBounds t := by
  cases h
  split
  · exact .setBreaker (.refl s)
  · exact .setBreaker (.refl s)
  all_goals exact .refl s

theorem execBreakerFeedbackTimerEnd_keepsBounds (s t : State) (h : execBreakerFeedbackTimerEnd s = .next t) :
    s.KeepsBounds t := by
  cases h
  split
  · exact .setBreaker (.refl s)
  · exact .refl s

theorem execGridHealthyChange_keepsBounds (x : Bool) (s t : State) (h : execGridHealthyChange x s = .next t) :
    s.KeepsBounds t := by
  cases h
  split
  · exact .refl s
  · exact .beside (.refl s) (by rfl)

theorem State.KeepsBounds.gridFalls {s t : State} (h : s.KeepsBounds t) : s.KeepsBounds t.gridFalls :=
  .suspendConnect (.setBreaker (h.beside (by rfl)))

theorem execGridHealthyTaken_keepsBounds (s t : State) (h : execGridHealthyTaken s = .next t) : s.KeepsBounds t := by
  have taken : s.KeepsBounds (s.setGrid s.breaker.grid.take) := .beside (.refl s) (by rfl)
  cases h
  dsimp only
  split
  · exact .refl s
  · split
    · exact taken
    · split
      · exact taken.beside rfl
      · exact taken.gridFalls.settle

theorem execReconnectDelayEnd_keepsBounds (s t : State) (h : execReconnectDelayEnd s = .next t) :
    s.KeepsBounds t := by
  cases h
  split
  · exact .settle (.resumeConnect (.beside (.refl s) (by rfl)))
  · exact .refl s

/-! ### The converter link -/

theorem execBadFrame_keepsBounds (x : BadEnd) (s t : State) (h : execBadFrame x s = .next t) : s.KeepsBounds t := by
  cases h
  split
  · exact .refl s
  · exact .badFrame (.refl s) (badBuffer_length x)

theorem execLinkCharacterTaken_keepsBounds (x : LinkChar) (s t : State)
    (h : execLinkCharacterTaken x s = .next t) : s.KeepsBounds t := by
  cases h
  split
  · exact .takeCharacter (.refl s)
  · exact .refl s

theorem execLinkTimeout_keepsBounds (s t : State) (h : execLinkTimeout s = .next t) : s.KeepsBounds t := by
  have down : s.KeepsBounds (s.setLink { s.link with state := .down }) := .setLink (.refl s) id
  cases h
  split
  · exact down.raise.settle
  · exact .refl s

theorem execFrameSent_keepsBounds (s t : State) (h : execFrameSent s = .next t) : s.KeepsBounds t := by
  cases h
  split
  · refine .setLink (.refl s) ?_
    exact id
  all_goals exact .refl s

theorem execTransmitGapEnd_keepsBounds (s t : State) (h : execTransmitGapEnd s = .next t) : s.KeepsBounds t := by
  have idle : s.KeepsBounds (s.setLink { s.link with transmitter := .idle }) := .setLink (.refl s) id
  cases h
  split
  · exact idle.linkStage
  all_goals exact .refl s

end Sys2Proof.Machine
end

section
/-! PROOF. Every step keeps order memory canonical, the line following the flags, the run bounded, the link's buffers
within their sizes and the rosters in order (O52). -/

namespace Sys2Proof.Machine

open Sys2Proof.Safety Sys2Proof.Claims

/-- A reset leaves reset values, which meet all five invariants. -/
theorem State.afterReset_keepsBounds (s : State) (clock : SiteTime) (next : Nat) (x : Transaction) :
    s.KeepsBounds { s.afterReset clock next with transaction := x } := by
  obtain ⟨memory, line, -, -, -, -, -, -, -, -, -, -, -, -, -, -, -, -, -, -, run, rosters, -, -, link, -⟩ :=
    resetStateIsSafe
  have reset : s.KeepsBounds State.reset :=
    ⟨fun _ => memory, fun _ => line, fun _ => run, fun _ => link, fun _ => rosters⟩
  exact reset.beside rfl

/-- Every command keeps each of the five invariants. -/
theorem exec_keepsBounds (c : Instr) (s t : State) (h : exec c s = .next t) : s.KeepsBounds t := by
  cases c with
  | powerOn => cases h; exact s.afterReset_keepsBounds _ _ .released
  | resetLine => cases h; exact s.afterReset_keepsBounds _ _ .released
  | startUpProfileLoad => exact execStartUpProfileLoad_keepsBounds s t h
  | startUpTimeLimit => exact execStartUpTimeLimit_keepsBounds s t h
  | siteClockAdvance => exact execSiteClockAdvance_keepsBounds s t h
  | run _ => cases h; exact .wrote (.runCommand (.refl s))
  | stop => cases h; exact .wrote (.stopCommand (.refl s))
  | orderMemoryWrite _ _ _ => cases h; exact .wrote (.windowWrite (.refl s))
  | attentionSummaryWrite _ => cases h; exact .wrote (.windowWrite (.refl s))
  | attentionEnableWrite _ => cases h; exact .wrote (.windowWrite (.refl s))
  | windowWriteOther _ _ => cases h; exact .wrote (.windowWrite (.refl s))
  | lookup _ => cases h; exact s.takeOrder_keepsBounds _ _ (ownerLookup_keepsBounds _ s)
  | find _ _ => cases h; exact s.takeOrder_keepsBounds _ _ (ownerFind_keepsBounds _ _ s)
  | nextChanged => cases h; exact s.takeOrder_keepsBounds _ _ (ownerNextChanged_keepsBounds s)
  | readString _ _ => cases h; exact s.takeOrder_keepsBounds _ _ (ownerReadString_keepsBounds _ _ s)
  | readModule _ _ _ => cases h; exact s.takeOrder_keepsBounds _ _ (ownerReadModule_keepsBounds _ _ _ s)
  | readBay _ => cases h; exact s.takeOrder_keepsBounds _ _ (ownerReadBay_keepsBounds _ s)
  | readConnection _ => cases h; exact s.takeOrder_keepsBounds _ _ (ownerReadConnection_keepsBounds _ s)
  | readLink => cases h; exact s.takeOrder_keepsBounds _ _ (ownerReadLink_keepsBounds s)
  | readClock => cases h; exact s.takeOrder_keepsBounds _ _ (.refl s)
  | readProfile _ _ => cases h; exact s.takeOrder_keepsBounds _ _ (ownerReadProfile_keepsBounds _ _ s)
  | grant _ _ _ _ _ _ => cases h; exact s.takeOrder_keepsBounds _ _ (ownerGrant_keepsBounds _ _ _ _ _ _ s)
  | amend _ _ _ _ _ _ => cases h; exact s.takeOrder_keepsBounds _ _ (ownerAmend_keepsBounds _ _ _ _ _ _ s)
  | renew _ => cases h; exact s.takeOrder_keepsBounds _ _ (ownerRenew_keepsBounds _ s)
  | revoke _ => cases h; exact s.takeOrder_keepsBounds _ _ (ownerRevoke_keepsBounds _ s)
  | retire _ => cases h; exact s.takeOrder_keepsBounds _ _ (ownerRetire_keepsBounds _ s)
  | closeBreaker => cases h; exact s.takeOrder_keepsBounds _ _ (ownerCloseBreaker_keepsBounds s)
  | openBreaker => cases h; exact s.takeOrder_keepsBounds _ _ (.setBreaker (.refl s))
  | resetBreaker => cases h; exact s.takeOrder_keepsBounds _ _ (ownerResetBreaker_keepsBounds s)
  | clearContactor _ => cases h; exact s.takeOrder_keepsBounds _ _ (ownerClearContactor_keepsBounds _ s)
  | resetBay _ => cases h; exact s.takeOrder_keepsBounds _ _ (ownerResetBay_keepsBounds _ s)
  | releaseNow _ => cases h; exact s.takeOrder_keepsBounds _ _ (ownerReleaseNow_keepsBounds _ s)
  | rollcall _ => cases h; exact s.takeOrder_keepsBounds _ _ (ownerRollcall_keepsBounds _ s)
  | setClock _ _ _ => cases h; exact s.takeOrder_keepsBounds _ _ (ownerSetClock_keepsBounds _ _ _ s)
  | setMode _ => cases h; exact s.takeOrder_keepsBounds _ _ (ownerSetMode_keepsBounds _ s)
  | writeProfile _ _ _ _ => cases h; exact s.takeOrder_keepsBounds _ _ (ownerWriteProfile_keepsBounds _ _ _ _ s)
  | commitProfile => exact execCommitProfile_keepsBounds s t h
  | commitComplete => exact execCommitComplete_keepsBounds s t h
  | leaseLapse _ => exact execLeaseLapse_keepsBounds _ s t h
  | riseHoldEnd _ => exact execRiseHoldEnd_keepsBounds _ s t h
  | revokedHoldEnd _ => exact execRevokedHoldEnd_keepsBounds _ s t h
  | crewKeyChange _ => exact execCrewKeyChange_keepsBounds _ s t h
  | doorContactChange _ => exact execDoorContactChange_keepsBounds _ s t h
  | doorTaken => exact execDoorTaken_keepsBounds s t h
  | selftestEnd _ _ _ => exact execSelftestEnd_keepsBounds _ _ _ s t h
  | wakePulseEnd _ => exact execWakePulseEnd_keepsBounds _ s t h
  | wakeEnd _ => exact execWakeEnd_keepsBounds _ s t h
  | stuckRetryEnd _ => exact execStuckRetryEnd_keepsBounds _ s t h
  | stuckLine _ _ => exact execStuckLine_keepsBounds _ _ s t h
  | echoError _ _ _ => exact execEchoError_keepsBounds _ _ _ s t h
  | idleGapEnd _ => exact execIdleGapEnd_keepsBounds _ s t h
  | pollRoundStart _ => exact execPollRoundStart_keepsBounds _ s t h
  | summaryAnswer _ _ => exact execSummaryAnswer_keepsBounds _ _ s t h
  | probeAnswer _ _ => exact execProbeAnswer_keepsBounds _ _ s t h
  | responseWindowEnd _ _ => cases h; exact .endExchange (.refl s)
  | targetFrameEnd _ => exact execTargetFrameEnd_keepsBounds _ s t h
  | smokeLineChange _ _ _ => exact execSmokeLineChange_keepsBounds _ _ _ s t h
  | smokeConditionTaken _ _ => exact execSmokeConditionTaken_keepsBounds _ _ s t h
  | holdButtonChange _ _ => exact execHoldButtonChange_keepsBounds _ _ s t h
  | holdButtonTaken _ => exact execHoldButtonTaken_keepsBounds _ s t h
  | countdownEnd _ => exact execCountdownEnd_keepsBounds _ s t h
  | releasePulseEnd _ => exact execReleasePulseEnd_keepsBounds _ s t h
  | runOnEnd _ => exact execRunOnEnd_keepsBounds _ s t h
  | flowSwitchChange _ _ => exact execFlowSwitchChange_keepsBounds _ _ s t h
  | flowTimerEnd _ => exact execFlowTimerEnd_keepsBounds _ s t h
  | prechargeTimeout _ => exact execPrechargeTimeout_keepsBounds _ s t h
  | prechargeRetryEnd _ => exact execPrechargeRetryEnd_keepsBounds _ s t h
  | drainEnd _ => exact execDrainEnd_keepsBounds _ s t h
  | mainFeedbackChange _ _ => exact execMainFeedbackChange_keepsBounds _ _ s t h
  | contactorFeedbackTimerEnd _ => exact execContactorFeedbackTimerEnd_keepsBounds _ s t h
  | breakerFeedbackChange _ => exact execBreakerFeedbackChange_keepsBounds _ s t h
  | breakerWindowEnd => exact execBreakerWindowEnd_keepsBounds s t h
  | breakerFeedbackTimerEnd => exact execBreakerFeedbackTimerEnd_keepsBounds s t h
  | gridHealthyChange _ => exact execGridHealthyChange_keepsBounds _ s t h
  | gridHealthyTaken => exact execGridHealthyTaken_keepsBounds s t h
  | reconnectDelayEnd => exact execReconnectDelayEnd_keepsBounds s t h
  | renewFrame _ _ _ _ _ => cases h; exact .takeFrame (.refl s)
  | reduceFrame _ _ _ _ => cases h; exact .takeFrame (.refl s)
  | handbackFrame _ _ _ => cases h; exact .takeFrame (.refl s)
  | queryFrame _ _ _ => cases h; exact .takeFrame (.refl s)
  | badFrame _ => exact execBadFrame_keepsBounds _ s t h
  | linkTimeout => exact execLinkTimeout_keepsBounds s t h
  | frameSent => exact execFrameSent_keepsBounds s t h
  | transmitGapEnd => exact execTransmitGapEnd_keepsBounds s t h
  | linkCharacterTaken _ => exact execLinkCharacterTaken_keepsBounds _ s t h

/-- On an empty queue: the runner's write, an order taken by its owner, or time that passes. -/
theorem State.idle_keepsBounds (s t : State) (h : s.idle = .next t) : s.KeepsBounds t := by
  simp only [State.idle] at h
  split at h
  · next u _ hu =>
    cases h
    simp only [State.endAnswered] at hu
    split at hu
    · cases hu
      exact .answerOrder (.refl s)
    · cases hu
  · next c _ _ => exact exec_keepsBounds c s t h
  · cases h
    exact .tick (.refl s)

theorem step_keepsBounds (s t : State) (h : step s = .next t) : s.KeepsBounds t := by
  simp only [step] at h
  split at h
  · next c rest _ =>
    have taken : s.KeepsBounds { s with pending := rest } := .beside (.refl s) (by rfl)
    exact taken.trans (exec_keepsBounds c _ t h)
  · exact s.idle_keepsBounds t h

/-- Settles O52: every operation keeps each invariant, so every command and every step does. -/
theorem stepsKeepBuffersAndLine : Obligations.StepsKeepBuffersAndLine :=
  ⟨fun s t hm h => (step_keepsBounds s t h).memory hm, fun s t hl h => (step_keepsBounds s t h).line hl,
    fun s t hr h => (step_keepsBounds s t h).run hr, fun s t hl h => (step_keepsBounds s t h).link hl,
    fun s t ho h => (step_keepsBounds s t h).rosters ho⟩

end Sys2Proof.Machine
end

section
/-! SUPPORT. What an evaluation decides of a bay: the conditions of its sources, their counts, and its state by counts and
manual causes. -/

namespace Sys2Proof.Machine

open Sys2Proof Sys2Proof.Safety Sys2Proof.Claims

/-! ### Sources -/

/-- The module sources of a bay are available when a string of it is fitted and every fitted one is complete (R103). -/
theorem State.sourcesAvailable_iff (s : State) (k : Fin 4) : s.sourcesAvailable k = true ↔
    (s.unit.active.isFitted (evenOf k) = true ∨ s.unit.active.isFitted (oddOf k) = true) ∧
      (s.unit.active.isFitted (evenOf k) = true → s.stringComplete (evenOf k) = true) ∧
      (s.unit.active.isFitted (oddOf k) = true → s.stringComplete (oddOf k) = true) := by
  simp only [State.sourcesAvailable, Bool.and_eq_true, Bool.or_eq_true, Bool.not_eq_true', ← Bool.not_eq_true,
    ← imp_iff_not_or, and_assoc]

/-- The items that an evaluation keeps (R104). -/
theorem State.mem_keptGas (s : State) (k : Fin 4) (it : GasItem) : it ∈ s.keptGas k ↔
    it ∈ s.fire[k].gasList ∧ s.unit.active.isFitted it.string = true ∧ s.stringComplete it.string = true := by
  rw [State.keptGas, List.mem_filter, Bool.and_eq_true]

theorem gasCondition_ne_unavailable (items : List GasItem) (limit : Nat) :
    gasCondition true items limit ≠ .unavailable := by
  simp only [gasCondition, Bool.not_true, Bool.false_eq_true, if_false]
  split <;> nofun

/-- GAS is ACTIVE by an item at the gas limit or above (R104). -/
theorem gasCondition_active_iff (items : List GasItem) (limit : Nat) :
    gasCondition true items limit = .active ↔ ∃ it ∈ items, limit ≤ it.level := by
  have h : items.any (fun it => decide (limit ≤ it.level)) = true ↔ ∃ it ∈ items, limit ≤ it.level := by
    simp only [List.any_eq_true, decide_eq_true_eq]
  rw [← h, gasCondition]
  cases items.any (fun it => decide (limit ≤ it.level)) <;> simp

theorem heatCondition_ne_unavailable (even odd : Bool) : heatCondition true even odd ≠ .unavailable := by
  cases even <;> cases odd <;> nofun

/-- HEAT is ACTIVE by band 7 of either string (R105). -/
theorem heatCondition_active_iff (even odd : Bool) :
    heatCondition true even odd = .active ↔ even = true ∨ odd = true := by
  cases even <;> cases odd <;> decide

/-! ### Counts -/

theorem SmokeCondition.activeCounts_eq (c : SmokeCondition) : c.activeCounts = if c = .active then 1 else 0 := by
  cases c <;> rfl

theorem SmokeCondition.counts_eq (c : SmokeCondition) : c.counts = if c = .fault then 0 else 1 := by
  cases c <;> rfl

theorem SourceCondition.activeCounts_eq (c : SourceCondition) : c.activeCounts = if c = .active then 1 else 0 := by
  cases c <;> rfl

theorem SourceCondition.counts_eq (c : SourceCondition) : c.counts = if c = .unavailable then 0 else 1 := by
  cases c <;> rfl

/-! ### The state -/

/-- A bay is attended while a manual cause stands (R110). -/
theorem Manual.any_iff (m : Manual) : m.any = true ↔ m.entry = true ∨ m.hold = true ∨ m.profile = true := by
  simp only [Manual.any, Bool.or_eq_true, or_assoc]

theorem alarmClass_attended {m : Manual} (h : m.any = true) (e : Nat) : alarmClass m e = .alarm := if_pos h

theorem alarmClass_unattended {m : Manual} (h : ¬m.any = true) (e : Nat) : alarmClass m e = .countdown e := if_neg h

section Decide

variable {st : FireState} {active : Nat} {degraded : Bool} {m : Manual} {fresh : Nat}

/-- Without an alarm the counts decide (R108). -/
theorem FireState.decide_calm (h : st = .quiet ∨ st = .preAlarm) : st.decide active degraded m fresh =
    if active = 0 then .quiet else if active = 1 ∧ degraded = false then .preAlarm else alarmClass m fresh := by
  rcases h with rfl | rfl <;> rfl

theorem FireState.decide_calm_none (h : st = .quiet ∨ st = .preAlarm) (ha : active = 0) :
    st.decide active degraded m fresh = .quiet := by
  rw [FireState.decide_calm h, if_pos ha]

theorem FireState.decide_calm_one (h : st = .quiet ∨ st = .preAlarm) (ha : active = 1) (hd : degraded = false) :
    st.decide active degraded m fresh = .preAlarm := by
  rw [FireState.decide_calm h, if_neg (by omega), if_pos ⟨ha, hd⟩]

/-- Two active sources, or one of a degraded bay, raise the alarm (R108). -/
theorem FireState.decide_calm_alarm (h : st = .quiet ∨ st = .preAlarm)
    (ha : 2 ≤ active ∨ (active = 1 ∧ degraded = true)) : st.decide active degraded m fresh = alarmClass m fresh := by
  rw [FireState.decide_calm h, if_neg (by omega), if_neg]
  rintro ⟨h1, hd⟩
  rcases ha with h2 | ⟨-, hd'⟩
  · omega
  · rw [hd] at hd'; cases hd'

end Decide

/-! ### The settling of an event -/

/-- The door lock is beside what an evaluation reads. -/
theorem State.doorStage_evaluateBay (s : State) : s.doorStage.evaluateBay = s.evaluateBay := rfl

/-- The Bay Fire Table after the settling of an event (R107, R117). -/
theorem State.settle_fireTable (s : State) : s.settle.fire = contain (tab4 s.evaluateBay) := by
  rw [← State.doorStage_evaluateBay, ← State.fireAndAlarm_fire]
  simp [State.settle, State.settleWith_eq, State.beforeEvaluation]

/-- The record of a bay after the settling of an event. -/
theorem State.settle_bay (s : State) (k : Fin 4) : s.settle.fire[k] =
    { s.evaluateBay k with containment := containmentOf (tab4 s.evaluateBay) k } := by
  rw [Fin.getElem_fin, State.settle_fireTable, contain_getElem, getElem_tab4]

end Sys2Proof.Machine
end

section
/-! PROOF. The evaluation of every bay in the settling of an event (O39). -/

namespace Sys2Proof.Machine

open Sys2Proof Sys2Proof.Safety Sys2Proof.Claims

/-- The end of a countdown that an evaluation starts (R109). -/
def State.freshCountdown (s : State) : Nat := s.now + Config.sec s.unit.active.releaseCountdown

/-- The sources of a bay after an evaluation: UNAVAILABLE together, else by gas limit and band 7 (R103 to R105). -/
theorem State.evaluateBay_sources (s : State) (k : Fin 4) :
    (¬s.sourcesAvailable k = true → (s.evaluateBay k).gas = .unavailable ∧ (s.evaluateBay k).heat = .unavailable) ∧
    (s.sourcesAvailable k = true →
      (s.evaluateBay k).gas ≠ .unavailable ∧
      ((s.evaluateBay k).gas = .active ↔ ∃ it ∈ s.keptGas k, s.unit.active.gasLimit ≤ it.level) ∧
      (s.evaluateBay k).heat ≠ .unavailable ∧
      ((s.evaluateBay k).heat = .active ↔
        (s.unit.active.isFitted (evenOf k) = true ∧ s.strings[evenOf k].band = 7) ∨
          (s.unit.active.isFitted (oddOf k) = true ∧ s.strings[oddOf k].band = 7))) := by
  simp only [State.evaluateBay]
  constructor
  · intro h
    rw [Bool.not_eq_true] at h
    rw [h]
    exact ⟨rfl, rfl⟩
  · intro h
    rw [h]
    refine ⟨gasCondition_ne_unavailable _ _, gasCondition_active_iff _ _, heatCondition_ne_unavailable _ _, ?_⟩
    rw [heatCondition_active_iff, Bool.and_eq_true, Bool.and_eq_true, beq_iff_eq, beq_iff_eq]

/-- The counts of a bay after an evaluation (R106). -/
theorem State.evaluateBay_counts (s : State) (k : Fin 4) :
    (s.evaluateBay k).activeCount =
      (if s.fire[k].smokeA.condition = .active then 1 else 0) + (if s.fire[k].smokeB.condition = .active then 1 else 0) +
        (if (s.evaluateBay k).gas = .active then 1 else 0) + (if (s.evaluateBay k).heat = .active then 1 else 0) ∧
    (s.evaluateBay k).availableCount =
      (if s.fire[k].smokeA.condition = .fault then 0 else 1) + (if s.fire[k].smokeB.condition = .fault then 0 else 1) +
        (if (s.evaluateBay k).gas = .unavailable then 0 else 1) +
        (if (s.evaluateBay k).heat = .unavailable then 0 else 1) ∧
    ((s.evaluateBay k).degraded = true ↔ (s.evaluateBay k).availableCount < 2) := by
  simp only [State.evaluateBay, SmokeCondition.activeCounts_eq, SmokeCondition.counts_eq,
    SourceCondition.activeCounts_eq, SourceCondition.counts_eq, decide_eq_true_eq, and_self]

/-- The manual causes of a bay after an evaluation (R110). -/
theorem State.evaluateBay_manual (s : State) (k : Fin 4) :
    ((s.evaluateBay k).manual.entry = true ↔ ∃ i q, Holds s i q ∧ q.kind = .entry ∧ q.state = .live ∧
      (q.scope.getLsbD (2 * k.val) = true ∨ q.scope.getLsbD (2 * k.val + 1) = true)) ∧
    (s.evaluateBay k).manual.hold = s.fire[k].hold.taken ∧
    ((s.evaluateBay k).manual.profile = true ↔ s.loaded = true ∧ s.unit.active.manualBays.getLsbD k.val = true) := by
  refine ⟨State.entryCovers_iff.trans ?_, rfl, Bool.and_eq_true_iff⟩
  simp only [meetsBay, inScope, evenOf, oddOf, Bool.or_eq_true]

/-- The state of a bay after an evaluation, by the state before, the counts and whether the bay is attended (R108, R109,
R111). -/
theorem State.evaluateBay_state (s : State) (k : Fin 4) :
    let x := s.evaluateBay k
    let attended := x.manual.any = true
    (s.fire[k].state = .quiet ∨ s.fire[k].state = .preAlarm →
      (x.activeCount = 0 → x.state = .quiet) ∧
      (x.activeCount = 1 → x.degraded = false → x.state = .preAlarm) ∧
      (2 ≤ x.activeCount ∨ (x.activeCount = 1 ∧ x.degraded = true) →
        (attended → x.state = .alarm) ∧ (¬attended → x.state = .countdown s.freshCountdown))) ∧
    (s.fire[k].state = .alarm → (attended → x.state = .alarm) ∧ (¬attended → x.state = .countdown s.freshCountdown)) ∧
    (∀ e, s.fire[k].state = .countdown e → (attended → x.state = .alarm) ∧ (¬attended → x.state = .countdown e)) ∧
    ∀ e, s.fire[k].state = .released e → x.state = .released e := by
  intro x attended
  have hstate : x.state = s.fire[k].state.decide x.activeCount x.degraded x.manual s.freshCountdown := rfl
  rw [hstate]
  refine ⟨fun hcalm => ⟨FireState.decide_calm_none hcalm, FireState.decide_calm_one hcalm, fun hact => ?_⟩,
    fun h => ?_, fun e h => ?_, fun e h => by rw [h]; rfl⟩
  · rw [FireState.decide_calm_alarm hcalm hact]
    exact ⟨fun ha => alarmClass_attended ha _, fun ha => alarmClass_unattended ha _⟩
  · rw [h]
    exact ⟨fun ha => alarmClass_attended ha _, fun ha => alarmClass_unattended ha _⟩
  · rw [h]
    exact ⟨fun ha => alarmClass_attended ha _, fun ha => alarmClass_unattended ha _⟩

/-- Settles O39: the record that an evaluation writes, part by part, is what the settling leaves but for the containment
request. -/
theorem bayEvaluationDecidesState : Obligations.BayEvaluationDecidesState := by
  intro s k t ht
  rw [ht]
  intro p r x counts available
  have hx : x = { s.evaluateBay k with containment := containmentOf (tab4 s.evaluateBay) k } := s.settle_bay k
  have hcounts : ∀ i, s.stringComplete i = true ↔ counts i := s.stringComplete_iff
  have havailable : s.sourcesAvailable k = true ↔ available := by
    rw [State.sourcesAvailable_iff, hcounts, hcounts]
  obtain ⟨hun, hav⟩ := s.evaluateBay_sources k
  obtain ⟨hactive, havail, hdegraded⟩ := s.evaluateBay_counts k
  obtain ⟨hentry, hhold, hprofile⟩ := s.evaluateBay_manual k
  have hflag : x.state.code ≠ r.state.code → s.settle.flagged .fire = true :=
    (s.settleWith_announces none).fields.fire k
  have hstate := s.evaluateBay_state k
  simp only [Manual.any_iff] at hstate
  rw [havailable] at hun hav
  have hgas : ∀ it, it ∈ s.keptGas k ↔ it ∈ r.gasList ∧ p.isFitted it.string = true ∧ counts it.string := fun it => by
    rw [State.mem_keptGas, hcounts]
  rw [hx] at hflag ⊢
  exact ⟨hgas, hun, hav, rfl, rfl, rfl, rfl, hactive, havail, hdegraded, hentry, hhold, hprofile, hstate, hflag⟩

end Sys2Proof.Machine
end

section
/-! PROOF. RESET-BAY, RELEASE-NOW and the end of a countdown by bay state (O22). -/

namespace Sys2Proof.Machine

open Sys2Proof Sys2Proof.Safety Sys2Proof.Claims

/-! ### Results -/

theorem FireState.code_lt (x : FireState) : x.code < 8 := by cases x <;> simp [FireState.code]

/-- A result of one field of three bits. -/
theorem pack_three {c : Nat} (h : c < 8) : pack (fld 3 c) = BitVec.ofNat 16 c :: List.replicate 6 0 := by
  have hn : packNat (fld 3 c) 0 = c := by
    simp only [fld, packNat, fieldStart]
    norm_num
    omega
  rw [pack, hn, resultWords_small (by omega), Nat.div_eq_of_lt (by omega)]
  rfl

theorem FireRec.stateWords_eq (r : FireRec) : r.stateWords = BitVec.ofNat 16 r.state.code :: List.replicate 6 0 :=
  pack_three r.state.code_lt

/-- The results of a RESET-BAY refused ACTIVE begin with the active count (R115). -/
theorem FireRec.activeWords_count (r : FireRec) : Shows r.activeWords 0 3 r.activeCount :=
  shows_pack (.head _) (by decide) (by decide)

/-! ### The owner of a bay order -/

section Owner

variable {bay : Word} {s : State} {k : Fin 4}

theorem ownerResetBay_field (h : 3 < bay.toNat) : ownerResetBay bay s = (s, refuse .field) := by
  rw [ownerResetBay, bayOfWord_none h]

theorem ownerResetBay_calm (hb : bay.toNat = k.val) (h : s.fire[k].state = .quiet ∨ s.fire[k].state = .preAlarm) :
    ownerResetBay bay s = (s, done s.fire[k].stateWords) := by
  rcases h with h | h <;> simp only [ownerResetBay, bayOfWord_eq hb, h]

theorem ownerResetBay_pulse (hb : bay.toNat = k.val) (h : ∃ e, s.fire[k].state = .released (some e)) :
    ownerResetBay bay s = (s, refuse .busy) := by
  obtain ⟨e, h⟩ := h
  simp only [ownerResetBay, bayOfWord_eq hb, h]

theorem ownerResetBay_alarm (hb : bay.toNat = k.val)
    (h : s.fire[k].state = .alarm ∨ (∃ e, s.fire[k].state = .countdown e) ∨ s.fire[k].state = .released none) :
    ownerResetBay bay s = if 1 ≤ s.fire[k].activeCount then (s, refuseWith .active s.fire[k].activeWords)
      else ((s.quietBay k).settle, done (s.quietBay k).settle.fire[k].stateWords) := by
  rcases h with h | ⟨e, h⟩ | h <;> simp only [ownerResetBay, bayOfWord_eq hb, h]

theorem ownerReleaseNow_field (h : 3 < bay.toNat) : ownerReleaseNow bay s = (s, refuse .field) := by
  rw [ownerReleaseNow, bayOfWord_none h]

theorem ownerReleaseNow_calm (hb : bay.toNat = k.val) (h : s.fire[k].state = .quiet ∨ s.fire[k].state = .preAlarm) :
    ownerReleaseNow bay s = (s, refuseWith .state s.fire[k].stateWords) := by
  rcases h with h | h <;> simp only [ownerReleaseNow, bayOfWord_eq hb, h]

theorem ownerReleaseNow_released (hb : bay.toNat = k.val) (h : ∃ e, s.fire[k].state = .released e) :
    ownerReleaseNow bay s = (s, done s.fire[k].stateWords) := by
  obtain ⟨e, h⟩ := h
  simp only [ownerReleaseNow, bayOfWord_eq hb, h]

theorem ownerReleaseNow_alarm (hb : bay.toNat = k.val)
    (h : s.fire[k].state = .alarm ∨ ∃ e, s.fire[k].state = .countdown e) :
    ownerReleaseNow bay s = ((s.releaseBay k).settle, done (s.releaseBay k).settle.fire[k].stateWords) := by
  rcases h with h | ⟨e, h⟩ <;> simp only [ownerReleaseNow, bayOfWord_eq hb, h]

end Owner

/-! ### The Bay Fire Table replaced -/

/-- A Bay Fire Table put in place changes fire records and attention alone. -/
theorem State.setFireTable_eq (s : State) (fire : Vector FireRec 4) : s.setFireTable fire =
    { s with fire := (s.setFireTable fire).fire, attention := (s.setFireTable fire).attention } := by
  obtain ⟨_, _, h⟩ := s.setFireTable_frame fire
  rw [h]

theorem State.setFireTable_settledFrom (s : State) (fire : Vector FireRec 4) :
    SettledFrom s (s.setFireTable fire) := by
  rw [s.setFireTable_eq fire]
  exact ⟨rfl, rfl, rfl, rfl, rfl, rfl, rfl, rfl, rfl, rfl, rfl, rfl⟩

/-- One bay's record put in place, the others standing, and containment recomputed (R117). -/
theorem State.setFireTable_put (s : State) (k j : Fin 4) (r : FireRec) :
    (s.setFireTable (put s.fire k r)).fire[j] =
      { if j = k then r else s.fire[j] with containment := containmentOf (put s.fire k r) j } := by
  rw [State.setFireTable_fire, Fin.getElem_fin, contain_getElem, getElem_put, Fin.getElem_fin]

/-- A bay put into another state sets the FIRE flag (R118). -/
theorem State.setFireTable_put_flagged {s : State} {k : Fin 4} {r : FireRec} (h : r.state.code ≠ s.fire[k].state.code) :
    (s.setFireTable (put s.fire k r)).flagged .fire = true := by
  refine (s.setFireTable_announces _).fields.fire k ?_
  rw [← Fin.getElem_fin, State.setFireTable_put, if_pos rfl]
  exact h

/-- One bay in COUNTDOWN or RELEASED closes the container for every bay (R117). -/
theorem containmentOf_closed {fire : Vector FireRec 4} {k : Fin 4} (h : fire[k].state.closesContainer = true)
    (j : Fin 4) : containmentOf fire j = .container :=
  if_pos (List.any_eq_true.2 ⟨k, mem_allBays k, h⟩)

/-! ### A bay returned to QUIET, and a bay released -/

theorem State.quietBay_state (s : State) (k : Fin 4) :
    (s.quietBay k).fire[k].state = .quiet ∧ ∀ j, j ≠ k → (s.quietBay k).fire[j].state = s.fire[j].state := by
  refine ⟨?_, fun j hj => ?_⟩
  · rw [State.quietBay, State.setFireTable_put, if_pos rfl]
  · rw [State.quietBay, State.setFireTable_put, if_neg hj]

theorem State.releaseBay_bay (s : State) (k : Fin 4) :
    (s.releaseBay k).fire[k].state = .released (some (s.now + Config.sec 2)) ∧
      (s.releaseBay k).fire[k].releaseOutput = true ∧
      ∀ j, j ≠ k → (s.releaseBay k).fire[j] = { s.fire[j] with containment := .container } := by
  refine ⟨?_, ?_, fun j hj => ?_⟩
  · rw [State.releaseBay, State.setFireTable_put, if_pos rfl]
    rfl
  · rw [State.releaseBay, State.setFireTable_put, if_pos rfl]
    rfl
  · have hk : (put s.fire k (s.fire[k].release s.now))[k].state.closesContainer = true := by
      rw [Fin.getElem_fin, getElem_put_self]
      rfl
    rw [State.releaseBay, State.setFireTable_put, if_neg hj, containmentOf_closed hk]

/-- A RELEASED bay stays so in the settling of an event, and every bay keeps its release output (R113). -/
theorem State.settle_released {s : State} {k : Fin 4} {e : Option Nat} (h : s.fire[k].state = .released e) :
    s.settle.fire[k].state = .released e ∧ s.settle.fire[k].releaseOutput = s.fire[k].releaseOutput := by
  rw [State.settle_bay]
  exact ⟨(FireState.decide_released _ _ _ _ _ _).2 h, rfl⟩

/-- RESET-BAY in the alarm class without an active source (R115). -/
theorem resetBay_quiets {s : State} {bay : Word} {k : Fin 4} (hb : bay.toNat = k.val)
    (h : s.fire[k].state = .alarm ∨ (∃ e, s.fire[k].state = .countdown e) ∨ s.fire[k].state = .released none)
    (hact : s.fire[k].activeCount = 0) : Answers (.resetBay bay) s (s.quietBay k).settle
      ⟨none, BitVec.ofNat 16 (s.quietBay k).settle.fire[k].state.code :: List.replicate 6 0⟩ := by
  have ho := ownerResetBay_alarm hb h
  rw [if_neg (by omega), FireRec.stateWords_eq] at ho
  exact answers_of_owner rfl ho (by simp [State.quietBay])

/-- RELEASE-NOW in ALARM and COUNTDOWN (R114). -/
theorem releaseNow_releases {s : State} {bay : Word} {k : Fin 4} (hb : bay.toNat = k.val)
    (h : s.fire[k].state = .alarm ∨ ∃ e, s.fire[k].state = .countdown e) :
    Answers (.releaseNow bay) s (s.releaseBay k).settle ⟨none, 4 :: List.replicate 6 0⟩ := by
  have ho := ownerReleaseNow_alarm hb h
  obtain ⟨hst, -⟩ := State.settle_released (s.releaseBay_bay k).1
  rw [FireRec.stateWords_eq, hst] at ho
  exact answers_of_owner rfl ho (by simp [State.releaseBay])

theorem countdownEnd_releases {s : State} {k : Fin 4} (h : ∃ e, s.fire[k].state = .countdown e) :
    exec (.countdownEnd k) s = .next (s.releaseBay k).settle := by
  obtain ⟨e, h⟩ := h
  show execCountdownEnd k s = _
  simp only [execCountdownEnd, h]

/-- Settles O22: the owner's answer in each bay state, and what the bay put into QUIET or RELEASED leaves of the table. -/
theorem bayOrdersByState : Obligations.BayOrdersByState := by
  refine ⟨fun s bay => ⟨fun h => refused_of_owner rfl (ownerResetBay_field h), fun k hb => ⟨fun h => ?_,
    fun h => refused_of_owner rfl (ownerResetBay_pulse hb h), fun h => ⟨fun hact => ?_, fun hact => ?_⟩⟩⟩,
    fun s bay k => ⟨fun h => refused_of_owner rfl (ownerReleaseNow_field h), fun hb h => ?_, fun hb h => ?_, fun h => ?_⟩⟩
  · rw [← FireRec.stateWords_eq]
    exact answers_of_owner rfl (ownerResetBay_calm hb h) rfl
  · have ho := ownerResetBay_alarm hb h
    rw [if_pos hact] at ho
    exact ⟨_, answers_of_owner rfl ho rfl, s.fire[k].activeWords_count⟩
  · obtain ⟨hquiet, hothers⟩ := s.quietBay_state k
    have hcode : FireState.quiet.code ≠ s.fire[k].state.code := by
      rcases h with h | ⟨e, h⟩ | h <;> rw [h] <;> simp [FireState.code]
    exact ⟨s.quietBay k, _, s.setFireTable_eq _, State.setFireTable_put_flagged hcode, hquiet, hothers, rfl,
      settledFrom_settle (s.setFireTable_settledFrom _), resetBay_quiets hb h hact⟩
  · rw [← FireRec.stateWords_eq]
    exact answers_of_owner rfl (ownerReleaseNow_calm hb h) rfl
  · have ho := ownerReleaseNow_released hb h
    obtain ⟨e, h⟩ := h
    rw [FireRec.stateWords_eq, h] at ho
    exact answers_of_owner rfl ho rfl
  · obtain ⟨hstate, hout, hothers⟩ := s.releaseBay_bay k
    obtain ⟨hstays, hkeeps⟩ := State.settle_released hstate
    have hcode : (s.fire[k].release s.now).state.code ≠ s.fire[k].state.code := by
      rcases h with h | ⟨e, h⟩ <;> rw [h] <;> simp [FireState.code, FireRec.release]
    exact ⟨s.releaseBay k, _, s.setFireTable_eq _, hstate, hout, State.setFireTable_put_flagged hcode, hothers, rfl,
      settledFrom_settle (s.setFireTable_settledFrom _), hstays.trans hstate.symm, hkeeps.trans hout,
      fun hb => releaseNow_releases hb h, countdownEnd_releases⟩

end Sys2Proof.Machine
end

section
/-! PROOF. The smoke lines, the hold button and the release pulse of a bay (O38). -/

namespace Sys2Proof.Machine

open Sys2Proof Sys2Proof.Safety Sys2Proof.Claims

/-- NORMAL is the pair with the normal contact alone (R102). -/
theorem SmokePair.condition_normal_iff (p : SmokePair) : SmokePair.condition p = .normal ↔ p = ⟨true, false⟩ := by
  obtain ⟨n, a⟩ := p
  cases n <;> cases a <;> simp [SmokePair.condition]

/-- ACTIVE is the pair with the active contact alone (R102). -/
theorem SmokePair.condition_active_iff (p : SmokePair) : SmokePair.condition p = .active ↔ p = ⟨false, true⟩ := by
  obtain ⟨n, a⟩ := p
  cases n <;> cases a <;> simp [SmokePair.condition]

section Lines

variable {s : State} {k : Fin 4} {l : SmokeId}

/-- A changed pair becomes the line's candidate (R102). -/
theorem smokeLineChange_eq {p : SmokePair} (h : p ≠ (s.fire[k].line l).level) : exec (.smokeLineChange k l p) s =
    .next (s.setFire k (s.fire[k].setLine l { s.fire[k].line l with candidate := some ⟨p, s.now⟩ })) := by
  show execSmokeLineChange k l p s = _
  simp only [execSmokeLineChange, if_neg h]

/-- The line's candidate taken, with the condition that it gives (R102, log 45). -/
theorem smokeConditionTaken_settles {x : Candidate SmokePair} (h : (s.fire[k].line l).candidate = some x) :
    Settles (.smokeConditionTaken k l) s
      (s.setFire k (s.fire[k].setLine l ⟨SmokePair.condition x.level, x.level, none⟩)) := by
  refine settles_of_exec ?_
  show execSmokeConditionTaken k l s = _
  simp only [execSmokeConditionTaken, h]

/-- A changed level of the hold button becomes its candidate (R110). -/
theorem holdButtonChange_eq {x : Bool} (h : x ≠ s.fire[k].hold.level) : exec (.holdButtonChange k x) s =
    .next (s.setFire k { s.fire[k] with hold := ⟨s.fire[k].hold.taken, some ⟨x, s.now⟩⟩ }) := by
  show execHoldButtonChange k x s = _
  rw [execHoldButtonChange, if_neg h]
  rfl

/-- The hold button's candidate taken (R110, log 45). -/
theorem holdButtonTaken_settles {x : Candidate Bool} (h : s.fire[k].hold.candidate = some x) :
    Settles (.holdButtonTaken k) s (s.setFire k { s.fire[k] with hold := ⟨x.level, none⟩ }) := by
  refine settles_of_exec ?_
  show execHoldButtonTaken k s = _
  simp only [execHoldButtonTaken, Conditioned.take, Conditioned.level, h, Option.isSome_some, if_true]

/-- The end of the release pulse (R113). -/
theorem releasePulseEnd_eq {e : Nat} (h : s.fire[k].state = .released (some e)) : exec (.releasePulseEnd k) s =
    .next (s.setFire k { s.fire[k] with state := .released none, releaseOutput := false }) := by
  show execReleasePulseEnd k s = _
  simp only [execReleasePulseEnd, h]

end Lines

/-- Settles O38: each event at its bay, both smoke lines alike. -/
theorem fireLinesAndPulse : Obligations.FireLinesAndPulse := fun _ _ =>
  ⟨fun _ => ⟨smokeLineChange_eq (l := .a), smokeLineChange_eq (l := .b)⟩,
    fun _ h => ⟨_, smokeConditionTaken_settles (l := .a) h, SmokePair.condition_normal_iff _,
      SmokePair.condition_active_iff _⟩,
    fun _ h => ⟨_, smokeConditionTaken_settles (l := .b) h, SmokePair.condition_normal_iff _,
      SmokePair.condition_active_iff _⟩,
    fun _ => holdButtonChange_eq, fun _ => holdButtonTaken_settles, fun _ => releasePulseEnd_eq⟩

end Sys2Proof.Machine
end

section
/-! PROOF. The words of READ-BAY and READ-CONNECTION, field by field (O14). -/

namespace Sys2Proof.Machine

open Sys2Proof Sys2Proof.Safety Sys2Proof.Claims

/-! ### Parts of a field -/

/-- The bits of a set of manual causes. -/
theorem Manual.bits_flags (x : Manual) : x.bits / 2 ^ 0 % 2 ^ 1 = x.entry.toNat % 2 ^ 1 ∧
    x.bits / 2 ^ 1 % 2 ^ 1 = x.hold.toNat % 2 ^ 1 ∧ x.bits / 2 ^ 2 % 2 ^ 1 = x.profile.toNat % 2 ^ 1 := by
  obtain ⟨entry, hold, profile⟩ := x
  revert entry hold profile
  decide

/-- The bits of a set of unmet conditions. -/
theorem Unmet.bits_flags (x : Unmet) : x.bits / 2 ^ 0 % 2 ^ 1 = x.fitted.toNat % 2 ^ 1 ∧
    x.bits / 2 ^ 1 % 2 ^ 1 = x.isolate.toNat % 2 ^ 1 ∧ x.bits / 2 ^ 2 % 2 ^ 1 = x.fire.toNat % 2 ^ 1 ∧
    x.bits / 2 ^ 3 % 2 ^ 1 = x.modules.toNat % 2 ^ 1 ∧ x.bits / 2 ^ 4 % 2 ^ 1 = x.band.toNat % 2 ^ 1 ∧
    x.bits / 2 ^ 5 % 2 ^ 1 = x.link.toNat % 2 ^ 1 ∧ x.bits / 2 ^ 6 % 2 ^ 1 = x.mode.toNat % 2 ^ 1 := by
  obtain ⟨fitted, isolate, fire, modules, band, link, mode⟩ := x
  revert fitted isolate fire modules band link mode
  decide

section Parts

variable {r : List Word} {pos m n i a b v : Nat}

/-- The number of a field of results. -/
theorem shows_iff : Shows r pos n v ↔ (r.getD (pos / 16) 0).toNat / 2 ^ (pos % 16) % 2 ^ n = v % 2 ^ n := by
  rw [Shows, BitVec.extractLsb'_toNat, Nat.shiftRight_eq_div_pow]

/-- Where a later bit of the same word stands. -/
theorem later_bit (h : pos % 16 + m < 16) : (pos + m) / 16 = pos / 16 ∧ (pos + m) % 16 = pos % 16 + m := by omega

/-- One bit of a field within a word. -/
theorem shows_bit (h : Shows r pos n v) (hi : i < n) (hw : pos % 16 + n ≤ 16) : Shows r (pos + i) 1 (v / 2 ^ i) := by
  obtain ⟨hword, hbit⟩ := later_bit (pos := pos) (m := i) (by omega)
  obtain ⟨d, rfl⟩ := Nat.exists_eq_add_of_lt hi
  have hpart : ∀ x, x % 2 ^ (i + d + 1) / 2 ^ i % 2 ^ 1 = x / 2 ^ i % 2 ^ 1 := fun x => by
    rw [add_assoc, pow_add, Nat.mod_mul_right_div_self, Nat.mod_mod_of_dvd _ (pow_dvd_pow 2 (by omega))]
  rw [shows_iff] at h ⊢
  rw [hword, hbit, pow_add, ← Nat.div_div_eq_div_mul, ← hpart, h, hpart]

/-- Two fields side by side within a word are one field. -/
theorem shows_join (ha : Shows r pos m a) (hb : Shows r (pos + m) n b) (hm : pos % 16 + m < 16) :
    Shows r pos (m + n) (a % 2 ^ m + 2 ^ m * b) := by
  obtain ⟨hword, hbit⟩ := later_bit hm
  rw [shows_iff] at ha hb ⊢
  rw [hword, hbit, pow_add, ← Nat.div_div_eq_div_mul] at hb
  rw [pow_add, Nat.mod_mul, ha, hb, Nat.mod_mul, Nat.add_mul_mod_self_left, Nat.mod_mod,
    Nat.add_mul_div_left _ _ (by positivity), Nat.div_eq_of_lt (Nat.mod_lt _ (by positivity)), zero_add]

/-- A field holds a value up to its width: values that agree there show alike. -/
theorem shows_congr (h : Shows r pos n v) (hv : v % 2 ^ n = a % 2 ^ n) : Shows r pos n a := h.trans hv

/-- A flag reads 1 exactly when it is set. -/
theorem shows_one_iff {x : Bool} (h : Shows r pos 1 x.toNat) : Shows r pos 1 1 ↔ x = true := by
  rw [Shows] at h ⊢
  rw [h]
  cases x <;> decide

/-- The set of manual causes, cause by cause (R100). -/
theorem shows_manual {x : Manual} (h : Shows r pos 3 x.bits) (hw : pos % 16 + 3 ≤ 16) :
    Shows r pos 1 x.entry.toNat ∧ Shows r (pos + 1) 1 x.hold.toNat ∧ Shows r (pos + 2) 1 x.profile.toNat := by
  have hbit := fun i (hi : i < 3) => shows_bit h hi hw
  obtain ⟨hentry, hhold, hprofile⟩ := x.bits_flags
  exact ⟨shows_congr (hbit 0 (by decide)) hentry, shows_congr (hbit 1 (by decide)) hhold,
    shows_congr (hbit 2 (by decide)) hprofile⟩

/-- The set of unmet conditions, condition by condition (R139). -/
theorem shows_unmet {x : Unmet} (h : Shows r pos 7 x.bits) (hw : pos % 16 + 7 ≤ 16) :
    Shows r pos 1 x.fitted.toNat ∧ Shows r (pos + 1) 1 x.isolate.toNat ∧ Shows r (pos + 2) 1 x.fire.toNat ∧
      Shows r (pos + 3) 1 x.modules.toNat ∧ Shows r (pos + 4) 1 x.band.toNat ∧ Shows r (pos + 5) 1 x.link.toNat ∧
      Shows r (pos + 6) 1 x.mode.toNat := by
  have hbit := fun i (hi : i < 7) => shows_bit h hi hw
  obtain ⟨hfitted, hisolate, hfire, hmodules, hband, hlink, hmode⟩ := x.bits_flags
  exact ⟨shows_congr (hbit 0 (by decide)) hfitted, shows_congr (hbit 1 (by decide)) hisolate,
    shows_congr (hbit 2 (by decide)) hfire, shows_congr (hbit 3 (by decide)) hmodules,
    shows_congr (hbit 4 (by decide)) hband, shows_congr (hbit 5 (by decide)) hlink,
    shows_congr (hbit 6 (by decide)) hmode⟩

end Parts

/-! ### Records as fields -/

theorem gasFields_eq (x : Option GasItem) : gasFields x =
    [⟨1, x.isSome.toNat⟩, ⟨8, (x.map (·.level)).getD 0⟩, ⟨3, (x.map (·.string.val)).getD 0⟩,
      ⟨5, (x.map (·.address)).getD 0⟩] := by
  cases x <;> rfl

theorem flowFields_eq (x : Option FlowTimer) (now : Nat) : flowFields x now =
    [⟨1, (x.map (·.goal.code)).isSome.toNat⟩, ⟨1, (x.map (·.goal.code)).getD 0⟩,
      ⟨5, (x.map fun g => secondsLeft now g.endsAt).getD 0⟩] := by
  cases x with
  | none => rfl
  | some g =>
    rw [Option.map_some, Option.map_some, Option.isSome_some, Option.getD_some, Option.getD_some]
    rfl

/-- The item reported is one of the list. -/
theorem highestGas_mem {l : List GasItem} {it : GasItem} (h : highestGas l = some it) : it ∈ l := by
  induction l with
  | nil => cases h
  | cons x xs ih =>
    rw [highestGas] at h
    split at h
    · cases h; exact .head _
    · next y hy =>
      split at h
      · cases h; exact .tail _ (ih hy)
      · cases h; exact .head _

/-- The first item of the highest level is the one that is reported (R121). -/
theorem highestGas_first {before after : List GasItem} {it : GasItem} (hb : ∀ x ∈ before, x.level < it.level)
    (ha : ∀ x ∈ after, x.level ≤ it.level) : highestGas (before ++ it :: after) = some it := by
  induction before with
  | nil =>
    rw [List.nil_append, highestGas]
    split
    · rfl
    · next y hy => exact if_neg (not_lt_of_ge (ha y (highestGas_mem hy)))
  | cons x xs ih =>
    rw [List.forall_mem_cons] at hb
    obtain ⟨hx, hxs⟩ := hb
    rw [List.cons_append, highestGas, ih hxs]
    exact if_pos hx

/-- The number of a handle word (11.1.3). -/
theorem Handle.word_toNat (h : Handle) : h.word.toNat = h.slot.toNat + 256 * h.generation.toNat := by
  have hs : h.slot.toNat < 2 ^ 8 := h.slot.isLt
  calc h.word.toNat = h.generation.toNat <<< 8 ||| h.slot.toNat := BitVec.toNat_append _ _
    _ = h.generation.toNat <<< 8 + h.slot.toNat := (Nat.shiftLeft_add_eq_or_of_lt hs _).symm
    _ = h.slot.toNat + 256 * h.generation.toNat := by rw [Nat.shiftLeft_eq]; omega

theorem secondsLeft_eq_timeLeft : secondsLeft = timeLeft 72000000 := by
  funext now e
  simp only [secondsLeft, timeLeft, Config.sec, one_mul]

theorem millisLeft_eq_timeLeft : millisLeft = timeLeft 72000 := by
  funext now e
  simp only [millisLeft, timeLeft, Config.ms, one_mul]

theorem ageUnits_eq (now arrival : Nat) : ageUnits now arrival = min 65535 ((now - arrival + 719999) / 720000) := by
  simp only [ageUnits, Config.ms, Nat.reduceMul, Nat.reduceSub]

theorem Unmet.isEmpty_iff (u : Unmet) : u.isEmpty = true ↔ u = ⟨false, false, false, false, false, false, false⟩ := by
  obtain ⟨fitted, isolate, fire, modules, band, link, mode⟩ := u
  simp [Unmet.isEmpty, and_assoc]

/-! ### READ-BAY -/

/-- READ-BAY, field by field: the fire record (R121), then the cooling record (R137). -/
theorem bayWords_lay (f : FireRec) (c : CoolRec) (now : Nat) :
    Lays (pack (f.fields now ++ c.fields now))
      [(0, ⟨3, f.state.code⟩), (3, ⟨2, f.smokeA.condition.code⟩), (5, ⟨2, f.smokeB.condition.code⟩),
        (7, ⟨2, f.gas.code⟩), (9, ⟨2, f.heat.code⟩), (11, ⟨3, f.activeCount⟩), (16, ⟨3, f.availableCount⟩),
        (19, ⟨1, f.degraded.toNat⟩), (20, ⟨3, f.manual.bits⟩),
        (23, ⟨1, (f.state.countdownEnd.map (secondsLeft now)).isSome.toNat⟩),
        (24, ⟨6, (f.state.countdownEnd.map (secondsLeft now)).getD 0⟩),
        (30, ⟨1, (f.state.pulseEnd.map (secondsLeft now)).isSome.toNat⟩),
        (32, ⟨2, (f.state.pulseEnd.map (secondsLeft now)).getD 0⟩), (34, ⟨1, f.releaseOutput.toNat⟩),
        (35, ⟨2, f.containment.code⟩), (37, ⟨6, f.gasList.length⟩), (43, ⟨1, (highestGas f.gasList).isSome.toNat⟩),
        (48, ⟨8, ((highestGas f.gasList).map (·.level)).getD 0⟩),
        (56, ⟨3, ((highestGas f.gasList).map (·.string.val)).getD 0⟩),
        (59, ⟨5, ((highestGas f.gasList).map (·.address)).getD 0⟩)] ∧
    Lays (pack (f.fields now ++ c.fields now))
      [(64, ⟨2, c.demand⟩), (66, ⟨1, c.heaterDemand.toNat⟩), (67, ⟨2, c.running⟩),
        (69, ⟨1, (c.runOnEnd.map (secondsLeft now)).isSome.toNat⟩),
        (70, ⟨10, (c.runOnEnd.map (secondsLeft now)).getD 0⟩), (80, ⟨1, (!c.flow).toNat⟩),
        (81, ⟨1, c.flowFault.toNat⟩), (82, ⟨1, (c.flowTimer.map (·.goal.code)).isSome.toNat⟩),
        (83, ⟨1, (c.flowTimer.map (·.goal.code)).getD 0⟩),
        (84, ⟨5, (c.flowTimer.map fun g => secondsLeft now g.endsAt).getD 0⟩), (89, ⟨1, c.outputs.fanLow.toNat⟩),
        (90, ⟨1, c.outputs.fanHigh.toNat⟩), (91, ⟨1, c.outputs.pump.toNat⟩), (92, ⟨1, c.outputs.chiller.toNat⟩),
        (93, ⟨1, c.outputs.heater.toNat⟩), (94, ⟨1, c.outputs.damper.toNat⟩), (95, ⟨1, c.even.complete.toNat⟩),
        (96, ⟨1, c.odd.complete.toNat⟩)] := by
  rw [FireRec.fields, CoolRec.fields, opt_eq, opt_eq, opt_eq, gasFields_eq, flowFields_eq]
  exact List.forall_mem_append.1 (lays_pack (by simp [placed, fieldStart, fld, bit]) (by simp [layoutFits]))

/-- What READ-BAY shows as the highest gas level is the first item of that level, and 0 throughout without one (R121). -/
theorem bayWords_gas {r : List Word} {l : List GasItem}
    (hflag : Shows r 43 1 (highestGas l).isSome.toNat) (hlevel : Shows r 48 8 (((highestGas l).map (·.level)).getD 0))
    (hstring : Shows r 56 3 (((highestGas l).map (·.string.val)).getD 0))
    (haddress : Shows r 59 5 (((highestGas l).map (·.address)).getD 0)) :
    (l = [] → Shows r 43 1 0 ∧ Shows r 48 16 0) ∧
    ∀ before it after, l = before ++ it :: after → (∀ x ∈ before, x.level < it.level) →
      (∀ x ∈ after, x.level ≤ it.level) →
      Shows r 43 1 1 ∧ Shows r 48 8 it.level ∧ Shows r 56 3 it.string.val ∧ Shows r 59 5 it.address := by
  refine ⟨fun hl => ?_, fun before it after hl hb ha => ?_⟩
  · subst hl
    exact ⟨hflag, shows_join hlevel (shows_join hstring haddress (by decide)) (by decide)⟩
  · subst hl
    rw [highestGas_first hb ha] at hflag hlevel hstring haddress
    exact ⟨hflag, hlevel, hstring, haddress⟩

/-- READ-BAY at its owner (R121, R137). -/
theorem readBay_answers (s : State) {bay : Word} {k : Fin 4} (hb : bay.toNat = k.val) :
    Answers (.readBay bay) s s ⟨none, pack (s.fire[k].fields s.now ++ s.cooling[k].fields s.now)⟩ :=
  answers_of_owner rfl (by rw [ownerReadBay, bayOfWord_eq hb]; rfl) rfl

/-! ### READ-CONNECTION -/

/-- READ-CONNECTION of a string, field by field (R159). -/
theorem Contactor.words_lay (c : Contactor) (now : Nat) : Lays (c.words now)
    [(0, ⟨1, c.fitted.toNat⟩), (1, ⟨3, c.state.code⟩), (4, ⟨1, c.state.failCode.isSome.toNat⟩),
      (5, ⟨1, c.state.failCode.getD 0⟩), (6, ⟨2, c.failures⟩),
      (8, ⟨1, (c.state.prechargeEnd.map (secondsLeft now)).isSome.toNat⟩),
      (9, ⟨4, (c.state.prechargeEnd.map (secondsLeft now)).getD 0⟩),
      (13, ⟨1, (c.state.drainEnd.map (secondsLeft now)).isSome.toNat⟩),
      (16, ⟨4, (c.state.drainEnd.map (secondsLeft now)).getD 0⟩),
      (20, ⟨1, (c.retryEnd.map (secondsLeft now)).isSome.toNat⟩),
      (21, ⟨5, (c.retryEnd.map (secondsLeft now)).getD 0⟩), (26, ⟨1, c.unmet.isEmpty.toNat⟩), (32, ⟨7, c.unmet.bits⟩),
      (39, ⟨1, (c.isolating.map (·.word.toNat)).isSome.toNat⟩), (48, ⟨16, (c.isolating.map (·.word.toNat)).getD 0⟩),
      (64, ⟨1, c.mainClosed.toNat⟩), (65, ⟨1, c.prechargeClosed.toNat⟩), (66, ⟨1, c.feedback.toNat⟩),
      (67, ⟨1, (c.feedbackTimer.map (millisLeft now)).isSome.toNat⟩),
      (68, ⟨8, (c.feedbackTimer.map (millisLeft now)).getD 0⟩)] := by
  simp only [Contactor.words, opt_eq]
  exact lays_pack (by simp [placed, fieldStart, fld, bit]) (by simp [layoutFits])

/-- READ-CONNECTION of breaker and precharge path, field by field (R159). -/
theorem State.breakerWords_lay (s : State) : Lays s.breakerWords
    [(0, ⟨3, s.breaker.state.code⟩), (3, ⟨1, s.breaker.state.openingCode.isSome.toNat⟩),
      (4, ⟨1, s.breaker.state.openingCode.getD 0⟩), (5, ⟨1, s.breaker.state.failCode.isSome.toNat⟩),
      (6, ⟨2, s.breaker.state.failCode.getD 0⟩),
      (8, ⟨1, (s.breaker.state.windowEnd.map (millisLeft s.now)).isSome.toNat⟩),
      (16, ⟨9, (s.breaker.state.windowEnd.map (millisLeft s.now)).getD 0⟩),
      (25, ⟨1, (s.breaker.feedbackTimer.map (millisLeft s.now)).isSome.toNat⟩),
      (32, ⟨9, (s.breaker.feedbackTimer.map (millisLeft s.now)).getD 0⟩), (41, ⟨1, s.breaker.commandedClosed.toNat⟩),
      (42, ⟨1, s.breaker.feedback.toNat⟩), (43, ⟨1, (!s.breaker.grid.taken).toNat⟩),
      (44, ⟨1, s.breaker.gridAvailable.toNat⟩),
      (45, ⟨1, (s.breaker.reconnectEnd.map (secondsLeft s.now)).isSome.toNat⟩),
      (48, ⟨10, (s.breaker.reconnectEnd.map (secondsLeft s.now)).getD 0⟩), (58, ⟨1, s.breaker.armed.toNat⟩),
      (59, ⟨1, s.serving.isSome.toNat⟩), (60, ⟨1, (s.serving.map (·.val)).isSome.toNat⟩),
      (61, ⟨3, (s.serving.map (·.val)).getD 0⟩), (64, ⟨1, (s.link.dc.map (·.voltage)).isSome.toNat⟩),
      (80, ⟨16, (s.link.dc.map (·.voltage)).getD 0⟩),
      (96, ⟨16, (s.link.dc.map fun d => ageUnits s.now d.arrival).getD 0⟩)] := by
  simp only [State.breakerWords, opt_eq]
  cases s.link.dc with
  | none => exact lays_pack (by simp [placed, fieldStart, fld, bit]) (by simp [layoutFits])
  | some d =>
    rw [Option.map_some, Option.map_some, Option.isSome_some, Option.getD_some, Option.getD_some]
    exact lays_pack (by simp [placed, fieldStart, fld, bit]) (by simp [layoutFits])

theorem readConnection_string (s : State) {string : Word} {i : Fin 8} (hi : string.toNat = i.val) :
    Answers (.readConnection string) s s ⟨none, s.contactors[i].words s.now⟩ := by
  have hlt := i.isLt
  have h8 : string ≠ 8 := by
    rintro rfl
    rw [← hi] at hlt
    exact absurd hlt (by decide)
  exact answers_of_owner rfl (by rw [ownerReadConnection, if_neg h8, stringOf_eq hi]; rfl) rfl

theorem readConnection_breaker (s : State) : Answers (.readConnection 8) s s ⟨none, s.breakerWords⟩ :=
  answers_of_owner rfl (if_pos rfl) rfl

/-! ### The orders together -/

/-- Settles O14: each order's words are laid out field by field. -/
theorem readBayAndConnectionWords : Obligations.ReadBayAndConnectionWords := by
  refine ⟨fun s bay k hb => ?_, fun s string i hi => ?_, fun s => ?_⟩
  · intro f c smoke source
    have hsmoke : ∀ x, x.code = smoke x := fun x => by cases x <;> rfl
    have hsource : ∀ x, x.code = source x := fun x => by cases x <;> rfl
    obtain ⟨hfire, hcool⟩ := bayWords_lay f c s.now
    simp only [lays_cons, lays_nil, and_true, secondsLeft_eq_timeLeft] at hfire hcool
    obtain ⟨hstate, hsmokeA, hsmokeB, hgas, hheat, hactive, havailable, hdegraded, hmanual, hcountf, hcount, hpulsef,
      hpulse, houtput, hcontain, hlength, hhighf, hlevel, hstring, haddress⟩ := hfire
    obtain ⟨hdemand, hheater, hrunning, hrunf, hrun, hflow, hfault, hgoalf, hgoal, hleft, houtputs⟩ := hcool
    obtain ⟨hentry, hhold, hprofile⟩ := shows_manual hmanual (by decide)
    obtain ⟨hnogas, hhighest⟩ := bayWords_gas hhighf hlevel hstring haddress
    refine ⟨_, rfl, readBay_answers s hb, shows_of_eq hstate ?_, shows_of_eq hsmokeA (hsmoke _),
      shows_of_eq hsmokeB (hsmoke _), shows_of_eq hgas (hsource _), shows_of_eq hheat (hsource _), hactive, havailable,
      hdegraded, hentry, hhold, hprofile, showsOpt_of_eq (And.intro hcountf hcount) ?_,
      showsOpt_of_eq (And.intro hpulsef hpulse) ?_, houtput, shows_of_eq hcontain ?_, hlength, hnogas, hhighest, hdemand,
      hheater, hrunning, And.intro hrunf hrun, hflow, hfault, showsOpt_of_eq (And.intro hgoalf hgoal) ?_, hleft, houtputs⟩
    · cases f.state <;> rfl
    · cases f.state <;> rfl
    · cases f.state with
      | released e => cases e <;> rfl
      | _ => rfl
    · cases f.containment <;> rfl
    · exact congrArg (fun g => c.flowTimer.map g) (funext fun g => by cases g.goal <;> rfl)
  · intro c
    have h := c.words_lay s.now
    simp only [lays_cons, lays_nil, and_true, secondsLeft_eq_timeLeft, millisLeft_eq_timeLeft] at h
    obtain ⟨hfitted, hstate, hfailf, hfail, hfailures, hpref, hpre, hdrainf, hdrain, hretryf, hretry, hready, hunmet,
      hisof, hiso, hmain, hprecharge, hfeedback, htimerf, htimer⟩ := h
    obtain ⟨hufitted, huisolate, hufire, humodules, huband, hulink, humode⟩ := shows_unmet hunmet (by decide)
    refine ⟨_, rfl, readConnection_string s hi, hfitted, shows_of_eq hstate ?_,
      showsOpt_of_eq (And.intro hfailf hfail) ?_, hfailures, showsOpt_of_eq (And.intro hpref hpre) ?_,
      showsOpt_of_eq (And.intro hdrainf hdrain) ?_, And.intro hretryf hretry,
      (shows_one_iff hready).trans c.unmet.isEmpty_iff, hufitted, huisolate, hufire, humodules, huband, hulink, humode,
      showsOpt_of_eq (And.intro hisof hiso) ?_, hmain, hprecharge, hfeedback, And.intro htimerf htimer⟩
    · cases c.state <;> rfl
    · cases c.state with
      | failed r => cases r <;> rfl
      | _ => rfl
    · cases c.state <;> rfl
    · cases c.state <;> rfl
    · exact congrArg (fun g => c.isolating.map g) (funext Handle.word_toNat)
  · intro b
    have h := s.breakerWords_lay
    simp only [lays_cons, lays_nil, and_true, secondsLeft_eq_timeLeft, millisLeft_eq_timeLeft, ageUnits_eq] at h
    obtain ⟨hstate, hopenf, hopen, hfailf, hfail, hwindowf, hwindow, htimerf, htimer, hcommand, hfeedback, hgrid, havail,
      hreconf, hrecon, harmed, hbusy, hservef, hserve, hdcf, hdc, hage⟩ := h
    refine ⟨_, rfl, readConnection_breaker s, shows_of_eq hstate ?_, showsOpt_of_eq (And.intro hopenf hopen) ?_,
      showsOpt_of_eq (And.intro hfailf hfail) ?_, showsOpt_of_eq (And.intro hwindowf hwindow) ?_,
      And.intro htimerf htimer, hcommand, hfeedback, hgrid, havail, And.intro hreconf hrecon, harmed, hbusy,
      And.intro hservef hserve, And.intro hdcf hdc, hage⟩
    · cases b.state <;> rfl
    · cases b.state with
      | opening k e => cases k <;> rfl
      | _ => rfl
    · cases b.state with
      | failed r => cases r <;> rfl
      | _ => rfl
    · cases b.state <;> rfl

end Sys2Proof.Machine
end

section
/-! PROOF. Demand, running stage and outputs of a bay in the settling of an event, and its run-on, flow switch and flow timer
(O40). -/

namespace Sys2Proof.Machine

open Sys2Proof Sys2Proof.Safety Sys2Proof.Claims

/-! ### The demand -/

/-- The band of a fitted string that no fitted string exceeds is the highest band (R125). -/
theorem highestBand_eq_some {e o : StringInput} {b : Fin 8}
    (hb : (e.fitted = true ∧ e.band = b) ∨ (o.fitted = true ∧ o.band = b))
    (he : e.fitted = true → e.band ≤ b) (ho : o.fitted = true → o.band ≤ b) : highestBand e o = some b := by
  cases hef : e.fitted <;> cases hof : o.fitted <;> simp only [hef, hof, highestBand] at hb he ho ⊢
  case false.false => simp at hb
  case false.true => simpa using hb
  case true.false => simpa using hb
  case true.true =>
    have hmax : max e.band o.band = b := by
      rcases hb with ⟨-, h⟩ | ⟨-, h⟩
      · exact h ▸ max_eq_left (h.symm ▸ ho trivial)
      · exact h ▸ max_eq_right (h.symm ▸ he trivial)
    rw [hmax]

/-- No string fitted, no demand (R125). -/
theorem demandOf_unfitted {e o : StringInput} (he : e.fitted = false) (ho : o.fitted = false) :
    demandOf e o = (0, false) := by
  simp only [demandOf, highestBand, he, ho]

/-- The demand by the highest band, raised to stage 1 by a fitted string that is not complete (R125). -/
theorem demandOf_of_highestBand {e o : StringInput} {b : Fin 8} (h : highestBand e o = some b) :
    (demandOf e o).1 = (if (bandDemand b).1 = 0 ∧
      ((e.fitted = true ∧ e.complete = false) ∨ (o.fitted = true ∧ o.complete = false)) then 1 else (bandDemand b).1) ∧
    (demandOf e o).2 = (bandDemand b).2 := by
  simp only [demandOf, h, Bool.and_eq_true, Bool.or_eq_true, Bool.not_eq_true', beq_iff_eq, and_true]
  simp only [and_comm]

/-- The heater demand stands in bands 0 and 1 (R125). -/
theorem bandDemand_heater_iff (b : Fin 8) : (bandDemand b).2 = true ↔ b = 0 ∨ b = 1 := by
  revert b
  decide

/-! ### The running stage -/

/-- The fields beside running stage and run-on after a computation of the demand. -/
theorem CoolRec.follow_spec (r : CoolRec) (demand now runOn : Nat) :
    (r.follow demand now runOn).demand = demand ∧ (r.follow demand now runOn).even = r.even ∧
      (r.follow demand now runOn).odd = r.odd ∧ (r.follow demand now runOn).heaterDemand = r.heaterDemand ∧
      (r.follow demand now runOn).flow = r.flow := by
  simp only [CoolRec.follow]
  split
  · exact ⟨rfl, rfl, rfl, rfl, rfl⟩
  · split <;> exact ⟨rfl, rfl, rfl, rfl, rfl⟩

/-- A demand above the running stage is taken at once, an equal one ends the run-on, and a lower one starts it or lets it run
(R127). -/
theorem CoolRec.follow_stage (r : CoolRec) (demand now runOn : Nat) :
    (r.running < demand →
      (r.follow demand now runOn).running = demand ∧ (r.follow demand now runOn).runOnEnd = none) ∧
    (r.running = demand →
      (r.follow demand now runOn).running = r.running ∧ (r.follow demand now runOn).runOnEnd = none) ∧
    (demand < r.running → (r.follow demand now runOn).running = r.running ∧
      (r.follow demand now runOn).runOnEnd = some (r.runOnEnd.getD (now + Config.sec runOn))) := by
  simp only [CoolRec.follow]
  refine ⟨fun h => ?_, fun h => ?_, fun h => ?_⟩
  · simp only [if_pos h, and_self]
  · simp only [if_neg h.not_lt, if_pos h, and_self]
  · simp only [if_neg h.le.not_gt, if_neg h.ne', and_self]

/-! ### The outputs -/

/-- Each output by running stage, heater demand and containment (R130, R131). -/
theorem outputsOf_iff (running : Nat) (heater : Bool) (c : Containment) :
    ((outputsOf running heater c).fanLow = true ↔ c = .none ∧ running = 1) ∧
    ((outputsOf running heater c).fanHigh = true ↔ c = .none ∧ 2 ≤ running) ∧
    ((outputsOf running heater c).pump = true ↔ 1 ≤ running ∨ (c = .none ∧ heater = true)) ∧
    ((outputsOf running heater c).chiller = true ↔ running = 3) ∧
    ((outputsOf running heater c).heater = true ↔ c = .none ∧ heater = true) ∧
    ((outputsOf running heater c).damper = true ↔ c = .none ∧ 1 ≤ running) := by
  cases c <;> simp [outputsOf]

/-- A record that follows a demand and is driven takes the demand, and its outputs follow (R127, R130). -/
theorem CoolRec.follow_drive_spec (r : CoolRec) (demand now runOn : Nat) :
    let x := (r.follow demand now runOn).drive now
    x.even = r.even ∧ x.odd = r.odd ∧ x.flow = r.flow ∧ x.flowFault = r.flowFault ∧ x.containment = r.containment ∧
      x.demand = demand ∧ x.heaterDemand = r.heaterDemand ∧
      x.outputs = outputsOf x.running x.heaterDemand x.containment := by
  obtain ⟨hdemand, heven, hodd, hheater, hflow⟩ := r.follow_spec demand now runOn
  exact ⟨heven, hodd, hflow, r.follow_flowFault demand now runOn, r.follow_containment demand now runOn, hdemand, hheater,
    rfl⟩

/-! ### The settling of an event -/

/-- The inputs of a bay read the profile, the strings and the buses alone. -/
theorem State.coolInput_congr {s t : State} (hunit : t.unit = s.unit) (hstrings : t.strings = s.strings)
    (hbuses : t.buses = s.buses) (i : Fin 8) : t.coolInput i = s.coolInput i := by
  have hcomplete : t.stringComplete i = s.stringComplete i := by
    rw [Bool.eq_iff_iff, State.stringComplete_iff, State.stringComplete_iff, hunit, hbuses]
  rw [State.coolInput, State.coolInput, hcomplete, hunit, hstrings]

/-- The demand stage and the heater demand of a bay (R124, R125). -/
def State.bayDemand (s : State) (k : Fin 4) : Nat × Bool :=
  demandOf (s.coolInput (evenOf k)) (s.coolInput (oddOf k))

/-- The cooling record of a bay with the inputs of an event and a containment request taken (R124, R126). -/
def State.coolTaken (s : State) (k : Fin 4) (c : Containment) : CoolRec :=
  { s.cooling[k] with
    even := s.coolInput (evenOf k)
    odd := s.coolInput (oddOf k)
    heaterDemand := (s.bayDemand k).2
    containment := c }

theorem State.coolTaken_containment (s : State) (k : Fin 4) (c : Containment) : (s.coolTaken k c).containment = c := rfl

/-- The cooling record of a bay after the settling of an event, from the state before it and the bay's containment request
after it (R126, R131). -/
theorem State.settle_bayCooling (s : State) (k : Fin 4) : s.settle.cooling[k] =
    ((s.coolTaken k s.settle.fire[k].containment).follow (s.bayDemand k).1 s.now s.unit.active.runOn).drive s.now := by
  have hcool : s.settle.cooling = tab4 (s.doorStage.fireAndAlarm).coolBay := by simp [State.settle, State.settleWith]
  have hfire : s.settle.fire = (s.doorStage.fireAndAlarm).fire := by simp [State.settle, State.settleWith]
  have hinput : ∀ i, (s.doorStage.fireAndAlarm).coolInput i = s.coolInput i :=
    State.coolInput_congr (by simp) (by simp) (by simp)
  rw [Fin.getElem_fin, hcool, getElem_tab4, State.coolBay, hfire, hinput, hinput]
  simp [State.coolTaken, State.bayDemand]

/-- Inputs, demand and outputs of a bay after the settling of an event (R124, R125, R130). -/
theorem State.settle_cooling_spec (s : State) (k : Fin 4) :
    let x := s.settle.cooling[k]
    x.even = s.coolInput (evenOf k) ∧ x.odd = s.coolInput (oddOf k) ∧ x.flow = s.cooling[k].flow ∧
      x.flowFault = s.cooling[k].flowFault ∧ x.containment = s.settle.fire[k].containment ∧
      x.demand = (s.bayDemand k).1 ∧ x.heaterDemand = (s.bayDemand k).2 ∧
      x.outputs = outputsOf x.running x.heaterDemand x.containment := by
  have h := CoolRec.follow_drive_spec (s.coolTaken k s.settle.fire[k].containment) (s.bayDemand k).1 s.now
    s.unit.active.runOn
  rwa [← State.settle_bayCooling, State.coolTaken_containment] at h

/-- Running stage and run-on of a bay after the settling of an event (R127). -/
theorem State.settle_cooling_stage (s : State) (k : Fin 4) :
    let r := s.cooling[k]
    let x := s.settle.cooling[k]
    (r.running < x.demand → x.running = x.demand ∧ x.runOnEnd = none) ∧
      (r.running = x.demand → x.running = r.running ∧ x.runOnEnd = none) ∧
      (x.demand < r.running → x.running = r.running ∧
        x.runOnEnd = some (r.runOnEnd.getD (s.now + Config.sec s.unit.active.runOn))) := by
  intro r x
  obtain ⟨-, -, -, -, -, hdemand, -⟩ := s.settle_cooling_spec k
  have hstage := CoolRec.follow_stage
    (s.coolTaken k s.settle.fire[k].containment) (s.bayDemand k).1 s.now s.unit.active.runOn
  have hx : x = _ := s.settle_bayCooling k
  rw [show x.demand = _ from hdemand, hx]
  exact hstage

/-! ### The flow timer -/

/-- Without the pump, or with the flow that the fault asks for, no goal stands (R132). -/
theorem flowGoal_eq_none {pump fault flow : Bool} (h : pump = false ∨ flow ≠ fault) :
    flowGoal pump fault flow = none := by
  rcases h with rfl | h
  · rfl
  · obtain rfl : flow = !fault := Bool.eq_not_of_ne h
    cases pump <;> cases fault <;> rfl

/-- The flow timer ends where no goal stands (R132). -/
theorem CoolRec.drive_flowTimer_none (r : CoolRec) (now : Nat)
    (h : (r.drive now).outputs.pump = false ∨ r.flow ≠ r.flowFault) : (r.drive now).flowTimer = none :=
  congrArg (nextFlowTimer r.flowTimer · now) (flowGoal_eq_none h)

/-- The flow timer starts, towards CLEAR with a flow and towards FAULT without one (R132). -/
theorem CoolRec.drive_flowTimer_starts (r : CoolRec) (now : Nat) (hpump : (r.drive now).outputs.pump = true)
    (hflow : r.flow = r.flowFault) (ht : r.flowTimer = none) : (r.drive now).flowTimer =
      some (if r.flow then ⟨.clear, now + Config.sec 30⟩ else ⟨.fault, now + Config.sec 10⟩) := by
  have hgoal : flowGoal (r.drive now).outputs.pump r.flowFault r.flow = some (if r.flow then .clear else .fault) := by
    rw [hpump, ← hflow]
    cases r.flow <;> rfl
  calc (r.drive now).flowTimer
      = nextFlowTimer none (some (if r.flow then .clear else .fault)) now := by rw [← hgoal, ← ht]; rfl
    _ = _ := by cases r.flow <;> rfl

/-- The fault that a flow timer leaves (R133). -/
theorem FlowGoal.leaves_iff (g : FlowGoal) : g.leaves = true ↔ g = .fault := by
  cases g <;> decide

/-- A flow timer that ends with the flow it waited for leaves the fault that the flow switch agrees with (R133). -/
theorem FlowGoal.leaves_ne {g : FlowGoal} {flow : Bool} (h : flow = true ↔ g = .clear) : flow ≠ g.leaves := by
  cases g
  case fault => exact fun hf => nomatch h.1 hf
  case clear => exact h.2 rfl ▸ nofun

/-! ### The events of a bay -/

section Events

variable {s : State} {k : Fin 4}

/-- A change of the cooling record of one bay leaves the others. -/
theorem State.setCooling_ne (r : CoolRec) (j : Fin 4) (h : j ≠ k) : (s.setCooling k r).cooling[j] = s.cooling[j] :=
  getElem_put_ne _ _ _ _ h

/-- The running stage one lower, a further run-on while the demand is below it, and the outputs of that stage (R128). -/
theorem runOnEnd_settles (h : s.cooling[k].runOnEnd.isSome = true) : Settles (.runOnEnd k) s
    (s.setCooling k ((s.cooling[k].stepDown s.now s.unit.active.runOn).drive s.now)) := by
  refine settles_of_exec ?_
  show execRunOnEnd k s = _
  rw [execRunOnEnd, if_pos h]

/-- The outputs and the flow timer after a change of the flow switch (R132). -/
theorem flowSwitchChange_eq {x : Bool} (h : x ≠ s.cooling[k].flow) : exec (.flowSwitchChange k x) s =
    .next (s.setCooling k (CoolRec.drive { s.cooling[k] with flow := x } s.now)) := by
  show execFlowSwitchChange k x s = _
  rw [execFlowSwitchChange, if_neg h]

/-- The flow fault that a flow timer leaves, announced with the COOLING flag (R133, R135). -/
theorem flowTimerEnd_settles {g : FlowTimer} (h : s.cooling[k].flowTimer = some g) : Settles (.flowTimerEnd k) s
    ((s.setCooling k (CoolRec.drive { s.cooling[k] with flowFault := g.goal.leaves } s.now)).raise .cooling) := by
  refine settles_of_exec ?_
  show execFlowTimerEnd k s = _
  simp only [execFlowTimerEnd, h]

end Events

/-- Settles O40: the settled record is that of the inputs taken, followed by running stage and outputs; each event of a bay
replaces its record by one driven again. -/
theorem coolingFollowsDemandAndTimers : Obligations.CoolingFollowsDemandAndTimers := by
  refine ⟨fun s k t ht => ?_, fun s k => ⟨fun h => ?_, fun x h => ?_, fun g h => ?_⟩⟩
  · rw [ht]
    intro p r x input e o base
    obtain ⟨heven, hodd, hflow, hfault, hcontainment, hdemand, hheater, houtputs⟩ := s.settle_cooling_spec k
    obtain ⟨habove, hequal, hbelow⟩ := s.settle_cooling_stage k
    have hbase : ∀ b, (bandDemand b).1 = base b := fun b => by fin_cases b <;> rfl
    have hunfitted : e.fitted = false → o.fitted = false → x.demand = 0 ∧ x.heaterDemand = false := fun he ho =>
      have hnone : s.bayDemand k = (0, false) := demandOf_unfitted he ho
      ⟨hdemand.trans (congrArg Prod.fst hnone), hheater.trans (congrArg Prod.snd hnone)⟩
    have hout := outputsOf_iff x.running x.heaterDemand x.containment
    rw [← show x.outputs = _ from houtputs] at hout
    refine ⟨heven, hodd, hflow, hfault, hcontainment, hunfitted, fun b hb he ho => ?_, habove, hequal, hbelow, hout⟩
    obtain ⟨hstage, hband⟩ := demandOf_of_highestBand (highestBand_eq_some hb he ho)
    rw [hbase] at hstage
    exact ⟨by rw [← bandDemand_heater_iff, ← hband]; exact iff_of_eq (congrArg (· = true) hheater), hdemand.trans hstage⟩
  · refine ⟨_, runOnEnd_settles h, rfl, State.setCooling_ne _, ?_⟩
    rw [Fin.getElem_fin, State.setCooling_cooling, getElem_put_self]
    rfl
  · exact ⟨_, flowSwitchChange_eq h, rfl, rfl, CoolRec.drive_flowTimer_none _ _, CoolRec.drive_flowTimer_starts _ _⟩
  · have hself := getElem_put_self s.cooling k (CoolRec.drive { s.cooling[k] with flowFault := g.goal.leaves } s.now)
    refine ⟨_, flowTimerEnd_settles h, rfl, State.setCooling_ne _, State.raise_flagged_self _ _, ?_, ?_, fun hg => ?_⟩
    · exact (iff_of_eq (congrArg (·.flowFault = true) hself)).trans g.goal.leaves_iff
    · exact (congrArg CoolRec.running hself).trans rfl
    · exact (congrArg CoolRec.flowTimer hself).trans (CoolRec.drive_flowTimer_none _ _ (.inr (FlowGoal.leaves_ne hg)))

end Sys2Proof.Machine
end

section
/-! SUPPORT. What the operations of the part do to the precharge path and to unfitted strings: the strings in PRECHARGING are
exactly the one that the path serves (R141), and an unfitted string is OPEN and not supervised (R138, R147, R150). -/

namespace Sys2Proof.Machine

open Sys2Proof.Safety Sys2Proof.Claims

/-! ### The path and the strings in PRECHARGING -/

/-- Every string in PRECHARGING is the one that the path serves; the path may serve a string that has left PRECHARGING, till
it is freed (R141). -/
def State.PathHeld (s : State) : Prop :=
  ∀ i : Fin 8, s.contactors[i.val].state.isPrecharging = true → s.serving = some i

theorem pathServesOne_iff (s : State) : PathServesOne s ↔
    ∀ i : Fin 8, s.contactors[i.val].state.isPrecharging = true ↔ s.serving = some i := Iff.rfl

theorem held_of_pathServesOne {s : State} (h : PathServesOne s) : s.PathHeld := fun i => (h i).1

/-- Strings that leave PRECHARGING, the path standing. -/
theorem State.PathHeld.leave {s t : State} (h : s.PathHeld) (hs : t.serving = s.serving)
    (hc : ∀ i : Fin 8, t.contactors[i.val].state.isPrecharging = true → s.contactors[i.val].state.isPrecharging = true) :
    t.PathHeld := fun i hi => hs.trans (h i (hc i hi))

/-- The path is freed where its string has left PRECHARGING (R141). -/
theorem State.PathHeld.freed {s : State} (h : s.PathHeld) : PathServesOne s.freePath := by
  intro i
  rw [State.freePath_serving, servingAfter, State.freePath_contactors, Option.filter_eq_some_iff]
  exact ⟨fun hi => ⟨h i hi, hi⟩, And.right⟩

/-- No string is in PRECHARGING while the path is free. -/
theorem not_precharging_of_free {s : State} (h : PathServesOne s) (hs : s.serving = none) (i : Fin 8) :
    s.contactors[i.val].state.isPrecharging = false := by
  rw [← Bool.not_eq_true]
  intro hi
  rw [(pathServesOne_iff s).1 h i, hs] at hi
  cases hi

/-! ### Contactors -/

theorem Contactor.openNow_precharging (c : Contactor) (now : Nat) : (c.openNow now).state.isPrecharging = false :=
  atRest_not_precharging (c.openNow_atRest now)

/-- A gain or loss of service-readiness takes no string to PRECHARGING (R144). -/
theorem Contactor.follow_precharging {c : Contactor} {now drainTime : Nat}
    (h : (c.follow now drainTime).state.isPrecharging = true) : c.state.isPrecharging = true := by
  have entered : ∀ st : ContactorState, (c.enter st now).state = st := fun st => (c.enter_spec st now).1
  simp only [Contactor.follow] at h
  split at h
  · rw [entered] at h; cases h
  · rw [entered] at h; cases h
  · rw [entered] at h; cases h
  · rw [entered] at h; cases h
  · split at h
    · rw [entered] at h; cases h
    · exact h
  · exact h

/-- A fitted bit takes no string to PRECHARGING (R150). -/
theorem Contactor.refit_precharging {c : Contactor} {fitted : Bool} {now : Nat}
    (h : (c.refit fitted now).state.isPrecharging = true) : c.state.isPrecharging = true := by
  simp only [Contactor.refit] at h
  split at h
  · exact h
  · split at h
    · simpa using h
    · cases h

theorem Contactor.Move.precharging {c d : Contactor} (h : c.Move d) (hd : d.state.isPrecharging = true) :
    c.state.isPrecharging = true := by
  rcases h.state with e | e
  · rwa [← e]
  · rw [atRest_not_precharging e] at hd; cases hd

/-- One contactor replaced by one that is in PRECHARGING only where it was. -/
theorem State.PathHeld.setContactor {s : State} (h : s.PathHeld) (i : Fin 8) (c : Contactor)
    (hc : c.state.isPrecharging = true → s.contactors[i.val].state.isPrecharging = true) :
    (s.setContactor i c).PathHeld := by
  refine h.leave rfl fun j hj => ?_
  rw [State.setContactor_contactors, getElem_put] at hj
  split at hj
  · next e => subst e; exact hc hj
  · exact hj

/-! ### Unfitted strings -/

/-- An unfitted string's contactor is OPEN and not supervised. -/
def Contactor.RestsUnfitted (c : Contactor) : Prop := c.fitted = false → c.state = .opened ∧ c.feedbackTimer = none

theorem unfittedOpen_iff (s : State) : UnfittedOpen s ↔ ∀ i : Fin 8, (s.contactors[i.val]).RestsUnfitted := Iff.rfl

/-- A string in another state than OPEN is fitted. -/
theorem Contactor.RestsUnfitted.fitted {c : Contactor} (h : c.RestsUnfitted) (hs : c.state ≠ .opened) :
    c.fitted = true := by
  rw [← Bool.not_eq_false]
  exact fun hf => hs (h hf).1

theorem Contactor.restsUnfitted_of_fitted {c : Contactor} (h : c.fitted = true) : c.RestsUnfitted := fun hf => by
  rw [h] at hf; cases hf

/-- Supervision begins no timer of an unfitted string (R147). -/
theorem Contactor.supervise_restsUnfitted {c : Contactor} {now : Nat} (h : c.fitted = false → c.state = .opened) :
    (c.supervise now).RestsUnfitted := by
  intro hf
  rw [Contactor.supervise_fitted] at hf
  exact ⟨by rw [Contactor.supervise_state, h hf], by simp [Contactor.supervise, hf]⟩

theorem Contactor.enter_restsUnfitted {c : Contactor} {st : ContactorState} {now : Nat}
    (h : c.fitted = false → st = .opened) : (c.enter st now).RestsUnfitted :=
  Contactor.supervise_restsUnfitted h

theorem Contactor.enter_fitted_restsUnfitted {c : Contactor} {st : ContactorState} {now : Nat} (h : c.fitted = true) :
    (c.enter st now).RestsUnfitted :=
  Contactor.enter_restsUnfitted fun hf => by rw [h] at hf; cases hf

theorem Contactor.RestsUnfitted.openNow {c : Contactor} (h : c.RestsUnfitted) (now : Nat) :
    (c.openNow now).RestsUnfitted := by
  have entered : (c.enter .opened now).RestsUnfitted := Contactor.enter_restsUnfitted fun _ => rfl
  simp only [Contactor.openNow]
  split
  · exact entered
  · exact entered
  · exact entered
  · exact entered
  · exact h
  · exact h

theorem Contactor.RestsUnfitted.refit {c : Contactor} (h : c.RestsUnfitted) (fitted : Bool) (now : Nat) :
    (c.refit fitted now).RestsUnfitted := by
  simp only [Contactor.refit]
  split
  · exact h
  · split
    · exact Contactor.supervise_restsUnfitted nofun
    · exact fun _ => ⟨rfl, rfl⟩

/-- An unfitted string is not service-ready, so nothing takes it out of OPEN (R139). -/
theorem Contactor.RestsUnfitted.follow {c : Contactor} (h : c.RestsUnfitted)
    (hu : c.fitted = false → c.unmet.isEmpty = false) (now drainTime : Nat) : (c.follow now drainTime).RestsUnfitted := by
  cases hf : c.fitted with
  | false =>
    have e : c.follow now drainTime = c := by
      simp only [Contactor.follow, (h hf).1, hu hf]
    rwa [e]
  | true =>
    have hs := c.follow_sameService now drainTime
    exact Contactor.restsUnfitted_of_fitted (hs.1.trans hf)

/-! ### The relation -/

/-- A change under which the path goes on serving the one string in PRECHARGING, and unfitted strings stay OPEN and not
supervised. -/
structure State.KeepsConnection (s t : State) : Prop where
  path : PathServesOne s → PathServesOne t
  unfitted : UnfittedOpen s → UnfittedOpen t

/-- The contactors and the string that the path serves. -/
def State.connection (s : State) : Vector Contactor 8 × Option (Fin 8) := (s.contactors, s.serving)

theorem State.KeepsConnection.refl (s : State) : s.KeepsConnection s := ⟨id, id⟩

section

variable {s t u : State}

theorem State.KeepsConnection.trans (h : s.KeepsConnection t) (k : t.KeepsConnection u) : s.KeepsConnection u :=
  ⟨k.path ∘ h.path, k.unfitted ∘ h.unfitted⟩

/-- A change beside contactors and path. -/
theorem State.KeepsConnection.beside (h : s.KeepsConnection t) (hu : u.connection = t.connection) :
    s.KeepsConnection u := by
  simp only [State.connection, Prod.mk.injEq] at hu
  obtain ⟨hc, hs⟩ := hu
  refine h.trans ⟨fun k => ?_, fun k => ?_⟩
  · rwa [PathServesOne, hc, hs]
  · rwa [UnfittedOpen, hc]

theorem UnfittedOpen.setContactor (h : UnfittedOpen t) {i : Fin 8} {c : Contactor} (hc : c.RestsUnfitted) :
    UnfittedOpen (t.setContactor i c) := (unfittedOpen_iff _).2 fun j => by
  rw [State.setContactor_contactors, getElem_put]
  split
  · exact hc
  · exact h j

/-- One contactor replaced by one that is in PRECHARGING exactly where it was. -/
theorem State.KeepsConnection.setContactor (h : s.KeepsConnection t) {i : Fin 8} {c : Contactor}
    (hp : c.state.isPrecharging = t.contactors[i.val].state.isPrecharging)
    (hu : (t.contactors[i.val]).RestsUnfitted → c.RestsUnfitted) : s.KeepsConnection (t.setContactor i c) := by
  refine h.trans ⟨fun k => (pathServesOne_iff _).2 fun j => ?_, fun k => UnfittedOpen.setContactor k (hu (k i))⟩
  rw [State.setContactor_contactors, getElem_put]
  split
  · next e => subst e; rw [hp]; exact (pathServesOne_iff t).1 k j
  · exact (pathServesOne_iff t).1 k j

/-- A contactor replaced and the path freed where it left PRECHARGING (R141, R147). -/
theorem State.KeepsConnection.replaceContactor (h : s.KeepsConnection t) {i : Fin 8} {c : Contactor}
    (hc : (t.contactors[i.val]).Move c) (hu : (t.contactors[i.val]).RestsUnfitted → c.RestsUnfitted) :
    s.KeepsConnection (t.replaceContactor i c) := by
  refine h.trans ⟨fun k => ?_, fun k => ?_⟩
  · have held : (t.setContactor i c).PathHeld := (held_of_pathServesOne k).setContactor i c hc.precharging
    exact (held.leave (by simp) (fun j hj => by simpa using hj)).freed
  · have e : (t.replaceContactor i c).contactors = (t.setContactor i c).contactors := by simp [State.replaceContactor]
    rw [UnfittedOpen, e]
    exact UnfittedOpen.setContactor k (hu (k i))

/-- The contactors under a profile, and the path freed where its string is no longer PRECHARGING (R150). -/
theorem State.KeepsConnection.refitContactors (h : s.KeepsConnection t) {p : Profile} :
    s.KeepsConnection (t.refitContactors p) := by
  refine h.trans ⟨fun k => ?_, fun k => (unfittedOpen_iff _).2 fun i => ?_⟩
  · have held : State.PathHeld { t with contactors := tab8 fun i => t.contactors[i].refit (p.isFitted i) t.now } := by
      refine (held_of_pathServesOne k).leave rfl fun i hi => ?_
      rw [getElem_tab8] at hi
      exact Contactor.refit_precharging hi
    exact held.freed
  · simp only [State.refitContactors, State.freePath_contactors, getElem_tab8]
    exact ((unfittedOpen_iff t).1 k i).refit _ _

/-! ### The stages of the settling -/

/-- An alarm entry opens contactors and frees the path (R141, R146). -/
theorem State.PathHeld.alarmEntry (h : t.PathHeld) (k : Fin 4) : PathServesOne (t.alarmEntry k) := by
  refine (h.leave ?_ fun i hi => ?_).freed
  · simp
  · rw [State.openBay_getElem] at hi
    split at hi
    · rw [Contactor.openNow_precharging] at hi; cases hi
    · simpa using hi

theorem State.PathHeld.fireAndAlarm (h : t.PathHeld) : t.fireAndAlarm.PathHeld :=
  foldl_keeps State.PathHeld State.alarmEntry (fun _ k hu => held_of_pathServesOne (hu.alarmEntry k)) _ t.fireStage
    (h.leave (by simp) fun i hi => by simpa using hi)

theorem unfittedOpen_fireAndAlarm (h : UnfittedOpen t) : UnfittedOpen t.fireAndAlarm :=
  (unfittedOpen_iff _).2 fun i => by
    rw [State.fireAndAlarm_contactor]
    split
    · exact ((unfittedOpen_iff t).1 h i).openNow _
    · exact h i

/-- The match closes the string being served and frees the path (R142). -/
theorem State.KeepsConnection.checkMatch (h : s.KeepsConnection t) : s.KeepsConnection t.checkMatch := by
  simp only [State.checkMatch]
  split
  · exact h
  · next i hi =>
    split
    · next hm =>
      rw [Bool.and_eq_true, Fin.getElem_fin] at hm
      refine h.trans ⟨fun k => (pathServesOne_iff _).2 fun j => ?_, fun k => (unfittedOpen_iff _).2 fun j => ?_⟩
      · simp only [State.setContactor_contactors, getElem_put, reduceCtorEq, iff_false, Bool.not_eq_true]
        split
        · rw [(Contactor.enter_spec _ _ _).1]; rfl
        · next hj =>
          rw [← Bool.not_eq_true, (pathServesOne_iff t).1 k j, hi]
          exact fun e => hj (Option.some.inj e).symm
      · refine UnfittedOpen.setContactor k (Contactor.restsUnfitted_of_fitted ?_) j
        refine (Contactor.enter_spec _ _ _).2.2.2.1.trans (((unfittedOpen_iff t).1 k i).fitted fun e => ?_)
        rw [e] at hm
        exact nomatch hm.1
    · exact h

/-- A free path given to a QUEUED string (R141). -/
theorem State.KeepsConnection.startPrecharge (h : s.KeepsConnection t) (hs : t.serving = none) {i : Fin 8}
    (hq : t.contactors[i.val].state = .queued) : s.KeepsConnection (t.startPrecharge i) := by
  refine .checkMatch (h.trans ⟨fun k => (pathServesOne_iff _).2 fun j => ?_, fun k => ?_⟩)
  · simp only [State.setContactor_contactors, getElem_put, Option.some.injEq]
    split
    · next e => simp [(Contactor.enter_spec _ _ _).1, e, ContactorState.isPrecharging, ContactorState.precharge]
    · next hj => simp [not_precharging_of_free k hs j, Ne.symm hj]
  · refine UnfittedOpen.setContactor k (Contactor.enter_fitted_restsUnfitted ?_)
    exact ((unfittedOpen_iff t).1 k i).fitted (by rw [hq]; simp)

theorem State.nextQueued_queued {i : Fin 8} (h : t.nextQueued = some i) : t.contactors[i.val].state = .queued := by
  simpa using List.find?_some h

theorem State.KeepsConnection.arbitrate (h : s.KeepsConnection t) (n : Nat) :
    s.KeepsConnection (State.arbitrate n t) := by
  induction n generalizing t with
  | zero => exact h
  | succ n ih =>
    rcases t.arbitrate_succ n with e | ⟨i, hs, hq, e⟩
    · rw [e]; exact h
    · rw [e]; exact ih (h.startPrecharge hs (State.nextQueued_queued hq))

/-- The Connection Sequencer frees the path of the strings that it takes out of PRECHARGING, and gives it on (R141). -/
theorem State.PathHeld.connectStage (h : t.PathHeld) : PathServesOne t.connectStage := by
  refine (State.KeepsConnection.arbitrate (.refl _) 8).path (State.PathHeld.freed (h.leave rfl fun i hi => ?_))
  rw [getElem_tab8] at hi
  exact Contactor.follow_precharging (c := { t.contactors[i] with
    unmet := t.unmetOf i, isolating := if t.contactors[i].fitted then t.isolatingOf i else none }) hi

theorem unfittedOpen_connectStage (h : UnfittedOpen t) : UnfittedOpen t.connectStage := by
  refine (State.KeepsConnection.arbitrate (.refl _) 8).unfitted ((unfittedOpen_iff _).2 fun i => ?_)
  rw [State.freePath_contactors, getElem_tab8]
  refine Contactor.RestsUnfitted.follow ?_ (fun hf => ?_) _ _
  · exact (unfittedOpen_iff t).1 h i
  · simp only [Fin.getElem_fin] at hf
    simp [Unmet.isEmpty, State.unmetOf, hf]

theorem State.settleWith_connection (g : Option (Fin 48)) :
    (t.settleWith g).connection = t.doorStage.fireAndAlarm.coolStage.connectStage.connection := by
  simp [State.connection, State.settleWith]

theorem State.PathHeld.settleWith (h : t.PathHeld) (g : Option (Fin 48)) : PathServesOne (t.settleWith g) := by
  have fired : t.doorStage.fireAndAlarm.PathHeld := State.PathHeld.fireAndAlarm h
  have connected : PathServesOne t.doorStage.fireAndAlarm.coolStage.connectStage :=
    State.PathHeld.connectStage (fired.leave rfl fun _ => id)
  exact (State.KeepsConnection.beside (.refl _) (State.settleWith_connection g)).path connected

theorem unfittedOpen_settleWith (h : UnfittedOpen t) (g : Option (Fin 48)) : UnfittedOpen (t.settleWith g) :=
  (State.KeepsConnection.beside (.refl _) (State.settleWith_connection g)).unfitted
    (unfittedOpen_connectStage (t := t.doorStage.fireAndAlarm.coolStage)
      (unfittedOpen_fireAndAlarm (t := t.doorStage) h))

/-- The settling of an event. -/
theorem State.KeepsConnection.settleWith (h : s.KeepsConnection t) {g : Option (Fin 48)} :
    s.KeepsConnection (t.settleWith g) :=
  h.trans ⟨fun k => (held_of_pathServesOne k).settleWith g, fun k => unfittedOpen_settleWith k g⟩

theorem State.KeepsConnection.settle (h : s.KeepsConnection t) : s.KeepsConnection t.settle := h.settleWith

/-! ### Buses -/

theorem State.KeepsConnection.toRollCall (h : s.KeepsConnection t) {b : Fin 8} :
    s.KeepsConnection (t.toRollCall b) := h.beside rfl

theorem State.KeepsConnection.noteStartUp (h : s.KeepsConnection t) {b : Fin 8} {f : BusStart → BusStart} :
    s.KeepsConnection (t.noteStartUp b f) := h.beside (by simp [State.connection])

theorem State.KeepsConnection.completeRound (h : s.KeepsConnection t) {b : Fin 8} :
    s.KeepsConnection (t.completeRound b) := by
  have aggregated : s.KeepsConnection ((t.setBus b { t.buses[b] with
      frame := none, round := { t.buses[b].round with position := none } }).aggregate b) :=
    h.beside (by simp [State.connection])
  have matched : s.KeepsConnection (State.checkMatchOf ((t.setBus b { t.buses[b] with
      frame := none, round := { t.buses[b].round with position := none } }).aggregate b) b) := by
    simp only [State.checkMatchOf]
    split
    · exact aggregated.checkMatch
    · exact aggregated
  have noted : s.KeepsConnection (t.roundSettled b) := by
    refine .settle ?_
    simp only [State.noteFirstRound]
    split
    · exact matched.noteStartUp
    · exact matched
  rw [State.completeRound_eq, State.afterRound]
  split
  · exact noted.beside (by simp [State.connection])
  · exact noted.beside (by simp [State.connection, State.endRound])

theorem State.KeepsConnection.visitAbove (h : s.KeepsConnection t) {b : Fin 8} {above : Nat} :
    s.KeepsConnection (t.visitAbove b above) := by
  simp only [State.visitAbove]
  split
  · exact h.beside rfl
  · exact h.completeRound

theorem State.KeepsConnection.startRound (h : s.KeepsConnection t) {b : Fin 8} : s.KeepsConnection (t.startRound b) :=
  .visitAbove (h.beside (by rfl))

theorem State.KeepsConnection.nextProbe (h : s.KeepsConnection t) {b : Fin 8} {address : Nat} :
    s.KeepsConnection (t.nextProbe b address) := by
  simp only [State.nextProbe]
  split
  · exact h.beside rfl
  · exact .startRound (.noteStartUp (h.beside (by simp [State.connection])))

theorem State.KeepsConnection.afterExchange (h : s.KeepsConnection t) {b : Fin 8} {address : Nat} :
    s.KeepsConnection (t.afterExchange b address) := by
  simp only [State.afterExchange]
  split
  · exact h.toRollCall
  · exact h.visitAbove

theorem State.KeepsConnection.afterTarget (h : s.KeepsConnection t) {b : Fin 8} :
    s.KeepsConnection (t.afterTarget b) := by
  simp only [State.afterTarget]
  split
  · exact h.toRollCall
  · exact h.beside rfl

theorem State.KeepsConnection.goodSummary (h : s.KeepsConnection t) {b : Fin 8} {address : Nat} {v : Summary} :
    s.KeepsConnection (t.goodSummary b address v) := by
  refine .afterExchange (.settle ?_)
  split
  · simp only [State.takeGas]
    split
    · exact h.beside rfl
    · exact h.beside rfl
  · exact h.beside rfl

theorem State.KeepsConnection.goodProbe (h : s.KeepsConnection t) {b : Fin 8} {address : Nat} {x : Probe} :
    s.KeepsConnection (t.goodProbe b address x) := by
  have stored : s.KeepsConnection (t.updateRoster b address (·.goodProbe x t.unit.active.cells[b])).settle :=
    .settle (h.beside (by rfl))
  simp only [State.goodProbe]
  split
  · exact stored.toRollCall
  · split
    · exact stored.beside (by simp [State.connection])
    · exact stored.visitAbove

theorem State.KeepsConnection.failedExchange (h : s.KeepsConnection t) {b : Fin 8} {kind : FrameKind} {address : Nat}
    {why : FailKind} : s.KeepsConnection (t.failedExchange b kind address why) := by
  have failed : s.KeepsConnection (t.setBus b (t.buses[b].fail why address)) := h.beside rfl
  unfold State.failedExchange
  dsimp only
  split
  · exact failed.nextProbe
  · exact .afterExchange (.settle (failed.beside (by rfl)))
  · exact failed.afterExchange
  · exact failed

theorem State.KeepsConnection.endExchange (h :
    s.KeepsConnection t) {b : Fin 8} {kinds : List FrameKind} {chars : List BusChar} :
    s.KeepsConnection (t.endExchange b kinds chars) := by
  simp only [State.endExchange]
  split
  · refine .settle ?_
    simp only [State.judgeExchange]
    split
    · exact h.failedExchange
    · split
      · exact h.goodSummary
      · exact h
    · split
      · exact .nextProbe (h.beside (by rfl))
      · exact h.goodProbe
      · exact h
    · exact h
  · exact h

theorem State.KeepsConnection.endGap (h : s.KeepsConnection t) {b : Fin 8} {f : Frame} :
    s.KeepsConnection (t.endGap b f) := by
  simp only [State.endGap]
  split
  · exact h.failedExchange
  · exact h.failedExchange
  · exact .afterTarget (h.beside (by rfl))

theorem State.KeepsConnection.endSelfTest (h : s.KeepsConnection t) {b : Fin 8} {x y : Option BusChar} :
    s.KeepsConnection (t.endSelfTest b x y) := by
  simp only [State.endSelfTest]
  split
  · exact .noteStartUp (h.beside (by rfl))
  · exact .noteStartUp (h.beside (by rfl))

theorem State.KeepsConnection.goStuck (h : s.KeepsConnection t) {b : Fin 8} {level : Level} :
    s.KeepsConnection (t.goStuck b level) := by
  simp only [State.goStuck]
  refine .noteStartUp ?_
  split
  · exact h.beside rfl
  · exact h.beside rfl

theorem State.KeepsConnection.switchToRollCall (h : s.KeepsConnection t) {b : Fin 8} :
    s.KeepsConnection (t.switchToRollCall b) := by
  simp only [State.switchToRollCall]
  split
  · exact h.beside rfl
  · exact h.toRollCall

theorem State.KeepsConnection.refitBus (h : s.KeepsConnection t) {old new : Profile} {b : Fin 8} :
    s.KeepsConnection (Machine.refitBus t old new b) := by
  simp only [Machine.refitBus]
  split
  · exact h
  · exact h.beside rfl
  · exact h
  · exact h.beside rfl
  · split
    · exact h
    · exact .switchToRollCall (h.beside (by rfl))
  · exact h

theorem State.KeepsConnection.handOut (h : s.KeepsConnection t) {p : Profile} : s.KeepsConnection (t.handOut p) := by
  have refitted : s.KeepsConnection (t.refitUnit p) := h.beside (by simp [State.connection, State.refitUnit, State.refitStrings])
  have buses : s.KeepsConnection ((t.refitUnit p).refitBuses t.unit.active p) :=
    foldl_keeps s.KeepsConnection _ (fun _ _ hu => hu.refitBus) allStrings _ refitted
  have cooled : s.KeepsConnection ((((t.refitUnit p).refitBuses t.unit.active p).refitContactors p).refitCooling p) :=
    (buses.refitContactors (p := p)).beside (by simp [State.connection, State.refitCooling])
  exact cooled.beside rfl

/-- The buses of a start-up load. -/
theorem State.KeepsConnection.loadBuses (h : s.KeepsConnection t) {p : Profile} :
    s.KeepsConnection (allStrings.foldl (loadBus p) t) := by
  refine foldl_keeps s.KeepsConnection _ (fun u b hu => ?_) allStrings _ h
  simp only [Machine.loadBus]
  split
  · exact .noteStartUp (hu.beside (by rfl))
  · exact hu

/-- The start-up load takes no string to PRECHARGING, and the path of one that it finds unfitted is freed by the settling
(R141, R150). -/
theorem State.KeepsConnection.handLoaded_settle (h : s.KeepsConnection t) {p : Profile} :
    s.KeepsConnection (t.handLoaded p).settle := by
  have fitted : s.KeepsConnection { t with strings := tab8 fun i => { t.strings[i] with fitted := p.isFitted i } } :=
    h.beside rfl
  have buses := fitted.loadBuses (p := p)
  refine ⟨fun k => State.PathHeld.settleWith ?_ none, fun k => unfittedOpen_settleWith ((unfittedOpen_iff _).2 ?_) none⟩
  · simp only [State.handLoaded]
    refine (held_of_pathServesOne (buses.path k)).leave (by dsimp only) fun i hi => ?_
    rw [getElem_tab8] at hi
    exact Contactor.refit_precharging hi
  · intro i
    simp only [State.handLoaded, getElem_tab8]
    exact ((unfittedOpen_iff _).1 (buses.unfitted k) i).refit _ _

/-! ### The converter link -/

theorem State.KeepsConnection.takeFrame (h : s.KeepsConnection t) {f : InFrame} :
    s.KeepsConnection (t.takeFrame f) := by
  have alive : s.KeepsConnection t.linkAlive := h.beside (by simp [State.connection, State.linkAlive])
  have stored : s.KeepsConnection (t.linkAlive.storeDc f) := by
    simp only [State.storeDc]
    split
    · exact .checkMatch (alive.beside (by rfl))
    all_goals exact alive
  have permitted : ∀ u : State, ∀ kind handle v, (u.permitFrame kind handle v).1.connection = u.connection := by
    intro u kind handle v
    simp only [State.permitFrame]
    split
    · rfl
    · split
      · rfl
      · split
        · simp [State.connection]
        · rfl
        · split <;> simp [State.connection]
        · split
          · rfl
          · simp only [State.takeReduce]
            split
            · rfl
            · split <;> simp [State.connection, State.reduceSlot]
  simp only [State.takeFrame]
  split
  · exact h
  · split
    · exact .settle (alive.beside (by rfl))
    · exact .settle (.beside (stored.beside (permitted _ f.kind f.handle f.valueA)) (by rfl))

theorem State.KeepsConnection.takeCharacter (h : s.KeepsConnection t) {c : RxChar} :
    s.KeepsConnection (t.takeCharacter c) := by
  simp only [State.takeCharacter]
  split
  · exact h.beside rfl
  · exact h
  · exact h.beside rfl
  · simp only [State.joinFrame]
    split
    · exact h.beside rfl
    · simp only [State.judgeNine]
      split
      · exact h.takeFrame
      · exact h.beside rfl

end

end Sys2Proof.Machine
end

section
/-! SUPPORT. Every order at its owner, and every command, keeps the path serving the one string in PRECHARGING (R141) and
unfitted strings OPEN (R150). -/

namespace Sys2Proof.Machine

open Sys2Proof.Safety Sys2Proof.Claims

/-! ### Orders -/

/-- An order keeps the path where its owner does: the runner and the answer stand beside it. -/
theorem State.takeOrder_keepsConnection (s : State) (order : Instr) (owner : State → State × Answer)
    (h : s.KeepsConnection (owner s).1) : s.KeepsConnection (s.takeOrder order owner) := by
  rcases State.takeOrder_cases s order owner with ⟨r, -, e⟩ | e
  · rw [e]
    exact .beside (.refl s) (by rfl)
  · rw [e]
    exact h.beside (by simp [State.connection])

section Owners

variable (s : State)

theorem ownerLookup_keepsConnection (h : Word) : s.KeepsConnection (ownerLookup h s).1 := by
  simp only [ownerLookup]
  split
  · exact .refl s
  · exact .beside (.refl s) (by rfl)

theorem ownerFind_keepsConnection (k j : Word) : s.KeepsConnection (ownerFind k j s).1 := by
  simp only [ownerFind]
  split
  · exact .refl s
  · exact .refl s
  · split <;> exact .refl s

theorem ownerNextChanged_keepsConnection : s.KeepsConnection (ownerNextChanged s).1 := by
  simp only [ownerNextChanged]
  split
  · exact .refl s
  · split
    · exact .refl s
    · exact .beside (.refl s) (by rfl)

theorem ownerReadString_keepsConnection (x page : Word) : s.KeepsConnection (ownerReadString x page s).1 := by
  simp only [ownerReadString]
  split
  · exact .refl s
  · split
    · exact .beside (.refl s) (by rfl)
    · split
      · exact .beside (.refl s) (by rfl)
      · exact .refl s

theorem ownerReadModule_keepsConnection (x a page : Word) : s.KeepsConnection (ownerReadModule x a page s).1 := by
  simp only [ownerReadModule]
  split
  · exact .refl s
  · split <;> exact .refl s

theorem ownerReadBay_keepsConnection (x : Word) : s.KeepsConnection (ownerReadBay x s).1 := by
  simp only [ownerReadBay]
  split <;> exact .refl s

theorem ownerReadConnection_keepsConnection (x : Word) : s.KeepsConnection (ownerReadConnection x s).1 := by
  simp only [ownerReadConnection]
  split
  · exact .refl s
  · split <;> exact .refl s

theorem ownerReadProfile_keepsConnection (x y : Word) : s.KeepsConnection (ownerReadProfile x y s).1 := by
  simp only [ownerReadProfile]
  split
  · exact .refl s
  · split <;> exact .refl s

theorem ownerGrant_keepsConnection (op0 op1 op2 op3 op4 op5 : Word) :
    s.KeepsConnection (ownerGrant op0 op1 op2 op3 op4 op5 s).1 := by
  simp only [ownerGrant]
  split
  · split
    · exact .refl s
    · exact .refl s
    · simp only [State.completeGrant]
      split
      · exact .settleWith (.beside (.refl s) (by rfl))
      · exact .settleWith (.beside (.refl s) (by rfl))
  · exact .refl s

theorem ownerAmend_keepsConnection (h change op2 op3 op4 op5 : Word) :
    s.KeepsConnection (ownerAmend h change op2 op3 op4 op5 s).1 := by
  simp only [ownerAmend]
  split
  · exact .refl s
  · split
    · exact .refl s
    · dsimp only
      split
      · exact .settle (.beside (.refl s) (by simp [State.connection]))
      · exact .settle (.beside (.refl s) (by rfl))

theorem ownerRenew_keepsConnection (h : Word) : s.KeepsConnection (ownerRenew h s).1 := by
  simp only [ownerRenew]
  split
  · exact .refl s
  · split
    · exact .refl s
    · split
      · exact .refl s
      · split
        · exact .refl s
        · exact .beside (.refl s) (by rfl)

theorem ownerRevoke_keepsConnection (h : Word) : s.KeepsConnection (ownerRevoke h s).1 := by
  simp only [ownerRevoke]
  split
  · exact .refl s
  · split
    · exact .refl s
    · dsimp only
      exact .settle (.beside (.refl s) (by simp [State.connection]))

theorem ownerRetire_keepsConnection (h : Word) : s.KeepsConnection (ownerRetire h s).1 := by
  simp only [ownerRetire]
  split
  · exact .refl s
  · dsimp only
    exact .settle (.beside (.refl s) (by simp [State.connection]))

theorem setBreaker_keepsConnection (b : Breaker) : s.KeepsConnection (s.setBreaker b) :=
  .beside (.refl s) (by simp [State.connection])

theorem ownerCloseBreaker_keepsConnection : s.KeepsConnection (ownerCloseBreaker s).1 := by
  simp only [ownerCloseBreaker]
  split
  · exact .refl s
  · split
    · exact setBreaker_keepsConnection s _
    · exact .refl s
  all_goals exact .refl s

theorem ownerResetBreaker_keepsConnection : s.KeepsConnection (ownerResetBreaker s).1 := by
  simp only [ownerResetBreaker]
  split
  · split
    · exact .refl s
    · exact setBreaker_keepsConnection s _
  · split
    · exact .refl s
    · exact setBreaker_keepsConnection s _
  all_goals exact .refl s

/-- A contactor that enters OPEN is not in PRECHARGING. -/
theorem Contactor.enter_opened_precharging (c : Contactor) (now : Nat) :
    (c.enter .opened now).state.isPrecharging = false := by
  rw [(Contactor.enter_spec _ _ _).1]
  rfl

/-- CLEAR-CONTACTOR opens a FAILED contactor, which the path does not serve (R148). -/
theorem ownerClearContactor_keepsConnection (x : Word) : s.KeepsConnection (ownerClearContactor x s).1 := by
  simp only [ownerClearContactor]
  split
  · exact .refl s
  · next i _ =>
    split
    · next hf =>
      dsimp only
      refine .settle (.setContactor (.refl s) ?_ fun _ => Contactor.enter_restsUnfitted fun _ => rfl)
      rw [Contactor.cleared, Contactor.enter_opened_precharging]
      cases e : s.contactors[i].state with
      | failed => rfl
      | opened | queued | precharging | closed | draining =>
        rw [e] at hf
        simp [ContactorState.isFailed] at hf
    · exact .refl s

theorem setFireTable_keepsConnection (fire : Vector FireRec 4) : s.KeepsConnection (s.setFireTable fire) :=
  .beside (.refl s) (by simp [State.connection])

theorem ownerResetBay_keepsConnection (x : Word) : s.KeepsConnection (ownerResetBay x s).1 := by
  simp only [ownerResetBay]
  split
  · exact .refl s
  · split
    · exact .refl s
    · exact .refl s
    · exact .refl s
    all_goals
      split
      · exact .refl s
      · dsimp only
        exact .settle (setFireTable_keepsConnection s _)

theorem ownerReleaseNow_keepsConnection (x : Word) : s.KeepsConnection (ownerReleaseNow x s).1 := by
  simp only [ownerReleaseNow]
  split
  · exact .refl s
  · split
    · dsimp only
      exact .settle (setFireTable_keepsConnection s _)
    · dsimp only
      exact .settle (setFireTable_keepsConnection s _)
    all_goals exact .refl s

theorem ownerRollcall_keepsConnection (x : Word) : s.KeepsConnection (ownerRollcall x s).1 := by
  have requested : ∀ b : Fin 8, s.KeepsConnection (s.setBus b s.buses[b].request) := fun _ => .beside (.refl s) (by rfl)
  simp only [ownerRollcall]
  split
  · exact .refl s
  · split
    · dsimp only
      exact .settle (requested _).switchToRollCall
    · exact requested _
    · exact requested _
    · exact requested _
    all_goals exact .refl s

theorem ownerSetClock_keepsConnection (day second high : Word) :
    s.KeepsConnection (ownerSetClock day second high s).1 := by
  simp only [ownerSetClock]
  split
  · exact .refl s
  · dsimp only
    exact .settle (.beside (.refl s) (by simp [State.connection, State.expiryCheck, State.takeClock]))

theorem ownerSetMode_keepsConnection (x : Word) : s.KeepsConnection (ownerSetMode x s).1 := by
  simp only [ownerSetMode]
  split
  · exact .refl s
  · split
    · exact .refl s
    · split
      · exact .refl s
      · simp only [State.changeMode]
        refine .settle (.beside (.refl s) ?_)
        split <;> simp [State.connection]

theorem ownerWriteProfile_keepsConnection (x y lo hi : Word) : s.KeepsConnection (ownerWriteProfile x y lo hi s).1 := by
  simp only [ownerWriteProfile]
  split
  · exact .refl s
  · split
    · exact .beside (.refl s) (by rfl)
    · exact .refl s

end Owners

/-! ### Commits, loads, timers and lines -/

section Commands

variable (s t : State)

theorem execCommitProfile_keepsConnection (h : execCommitProfile s = .next t) : s.KeepsConnection t := by
  cases h
  split
  · refine .beside (.refl s) ?_
    simp only [State.setWaiting]
    split <;> rfl
  · split
    · exact .beside (.refl s) (by rfl)
    · exact .beside (.refl s) (by rfl)

theorem execCommitComplete_keepsConnection (h : execCommitComplete s = .next t) : s.KeepsConnection t := by
  have ended : s.KeepsConnection s.endCommit := .beside (.refl s) (by rfl)
  cases h
  split
  · exact .refl s
  · refine .beside (.settle (ended.handOut (p := s.unit.working))) ?_
    simp only [State.answerCommit]
    split
    · simp [State.connection]
    all_goals simp only [State.connection]

theorem execStartUpProfileLoad_keepsConnection (h : execStartUpProfileLoad s = .next t) : s.KeepsConnection t := by
  have loaded : s.KeepsConnection ((s.setUnit s.unit.load).raiseIf (!s.unit.stored.agrees) .profile) :=
    .beside (.refl s) (by simp [State.connection])
  cases h
  split
  · exact .refl s
  · exact loaded.handLoaded_settle

theorem execStartUpTimeLimit_keepsConnection (h : execStartUpTimeLimit s = .next t) : s.KeepsConnection t := by
  cases h
  split
  · exact .beside (.refl s) (by rfl)
  · exact .refl s

theorem execSiteClockAdvance_keepsConnection (h : execSiteClockAdvance s = .next t) : s.KeepsConnection t := by
  rw [execSiteClockAdvance, Host.Outcome.next.injEq] at h
  subst h
  exact .settle (.beside (.refl s) (by simp [State.connection, State.expiryCheck, State.takeClock]))

theorem execLeaseLapse_keepsConnection (i : Fin 48) (h : execLeaseLapse i s = .next t) : s.KeepsConnection t := by
  cases h
  split
  · split
    · exact .settle (.beside (.refl s) (by simp [State.connection]))
    · exact .refl s
  · exact .refl s

theorem execRiseHoldEnd_keepsConnection (i : Fin 48) (h : execRiseHoldEnd i s = .next t) : s.KeepsConnection t := by
  cases h
  split
  · exact .refl s
  · split
    · exact .refl s
    · split
      · exact .refl s
      · split
        · exact .settle (.beside (.refl s) (by simp [State.connection, State.endRise]))
        · exact .refl s

theorem execRevokedHoldEnd_keepsConnection (i : Fin 48) (h : execRevokedHoldEnd i s = .next t) :
    s.KeepsConnection t := by
  cases h
  split
  · split
    · exact .settle (.beside (.refl s) (by simp [State.connection]))
    · exact .refl s
  · exact .refl s

theorem execCrewKeyChange_keepsConnection (x : Bool) (h : execCrewKeyChange x s = .next t) : s.KeepsConnection t := by
  cases h
  split
  · exact .refl s
  · split
    · exact .beside (.refl s) (by rfl)
    · exact .settle (.beside (.refl s) (by simp [State.connection]))

theorem execDoorContactChange_keepsConnection (x : Bool) (h : execDoorContactChange x s = .next t) :
    s.KeepsConnection t := by
  cases h
  split
  · exact .refl s
  · exact .beside (.refl s) (by rfl)

theorem execDoorTaken_keepsConnection (h : execDoorTaken s = .next t) : s.KeepsConnection t := by
  cases h
  split
  · exact .settle (.beside (.refl s) (by rfl))
  · exact .refl s

/-! ### Sensing buses -/

theorem execSelftestEnd_keepsConnection (b : Fin 8) (x y : Option BusChar) (h : execSelftestEnd b x y s = .next t) :
    s.KeepsConnection t := by
  cases h
  split
  · exact .settle (.endSelfTest (.refl s))
  all_goals exact .refl s

theorem execWakePulseEnd_keepsConnection (b : Fin 8) (h : execWakePulseEnd b s = .next t) : s.KeepsConnection t := by
  cases h
  split
  · exact .beside (.refl s) (by rfl)
  all_goals exact .refl s

theorem execWakeEnd_keepsConnection (b : Fin 8) (h : execWakeEnd b s = .next t) : s.KeepsConnection t := by
  cases h
  split
  · exact .settle (.beside (.refl s) (by rfl))
  all_goals exact .refl s

theorem execStuckRetryEnd_keepsConnection (b : Fin 8) (h : execStuckRetryEnd b s = .next t) : s.KeepsConnection t := by
  cases h
  split
  · exact .beside (.refl s) (by rfl)
  all_goals exact .refl s

theorem execStuckLine_keepsConnection (b : Fin 8) (w : LineWatch) (h : execStuckLine b w s = .next t) :
    s.KeepsConnection t := by
  cases h
  split
  · exact .settle (.goStuck (.refl s))
  · exact .refl s

theorem execEchoError_keepsConnection (b : Fin 8) (n : Nat) (r : Samples) (h : execEchoError b n r s = .next t) :
    s.KeepsConnection t := by
  cases h
  split
  · exact .refl s
  · split
    · exact .refl s
    · split
      · exact .refl s
      · exact .beside (.refl s) (by rfl)

theorem execIdleGapEnd_keepsConnection (b : Fin 8) (h : execIdleGapEnd b s = .next t) : s.KeepsConnection t := by
  cases h
  split
  · exact .settle (.endGap (.refl s))
  · exact .refl s

theorem execPollRoundStart_keepsConnection (b : Fin 8) (h : execPollRoundStart b s = .next t) :
    s.KeepsConnection t := by
  cases h
  split
  · exact .settle (.startRound (.refl s))
  · exact .refl s

theorem execSummaryAnswer_keepsConnection (b : Fin 8) (x : List BusChar) (h : execSummaryAnswer b x s = .next t) :
    s.KeepsConnection t := by
  cases h
  split
  · exact .endExchange (.refl s)
  · exact .refl s

theorem execProbeAnswer_keepsConnection (b : Fin 8) (x : List BusChar) (h : execProbeAnswer b x s = .next t) :
    s.KeepsConnection t := by
  cases h
  split
  · exact .endExchange (.refl s)
  · exact .refl s

theorem execTargetFrameEnd_keepsConnection (b : Fin 8) (h : execTargetFrameEnd b s = .next t) :
    s.KeepsConnection t := by
  cases h
  split
  · exact .settle (.afterTarget (.beside (.refl s) (by rfl)))
  · exact .refl s

/-! ### Bays -/

theorem execSmokeLineChange_keepsConnection (k : Fin 4) (l : SmokeId) (x : SmokePair)
    (h : execSmokeLineChange k l x s = .next t) : s.KeepsConnection t := by
  cases h
  dsimp only
  split
  · exact .refl s
  · exact .beside (.refl s) (by rfl)

theorem execSmokeConditionTaken_keepsConnection (k : Fin 4) (l : SmokeId) (h :
    execSmokeConditionTaken k l s = .next t) :
    s.KeepsConnection t := by
  cases h
  split
  · exact .refl s
  · exact .settle (.beside (.refl s) (by rfl))

theorem execHoldButtonChange_keepsConnection (k : Fin 4) (x : Bool) (h : execHoldButtonChange k x s = .next t) :
    s.KeepsConnection t := by
  cases h
  split
  · exact .refl s
  · exact .beside (.refl s) (by rfl)

theorem execHoldButtonTaken_keepsConnection (k : Fin 4) (h : execHoldButtonTaken k s = .next t) :
    s.KeepsConnection t := by
  cases h
  split
  · exact .settle (.beside (.refl s) (by rfl))
  · exact .refl s

theorem execCountdownEnd_keepsConnection (k : Fin 4) (h : execCountdownEnd k s = .next t) : s.KeepsConnection t := by
  cases h
  split
  · exact .settle (setFireTable_keepsConnection s _)
  all_goals exact .refl s

theorem execReleasePulseEnd_keepsConnection (k : Fin 4) (h : execReleasePulseEnd k s = .next t) :
    s.KeepsConnection t := by
  cases h
  split
  · exact .beside (.refl s) (by rfl)
  all_goals exact .refl s

theorem execRunOnEnd_keepsConnection (k : Fin 4) (h : execRunOnEnd k s = .next t) : s.KeepsConnection t := by
  cases h
  split
  · exact .settle (.beside (.refl s) (by rfl))
  · exact .refl s

theorem execFlowSwitchChange_keepsConnection (k : Fin 4) (x : Bool) (h : execFlowSwitchChange k x s = .next t) :
    s.KeepsConnection t := by
  cases h
  split
  · exact .refl s
  · exact .beside (.refl s) (by rfl)

theorem execFlowTimerEnd_keepsConnection (k : Fin 4) (h : execFlowTimerEnd k s = .next t) : s.KeepsConnection t := by
  cases h
  split
  · exact .refl s
  · exact .settle (.beside (.refl s) (by rfl))

/-! ### Contactors and breaker -/

theorem execPrechargeTimeout_keepsConnection (i : Fin 8) (h : execPrechargeTimeout i s = .next t) :
    s.KeepsConnection t := by
  cases h
  split
  · next e he =>
    rw [Fin.getElem_fin] at he
    refine .settle (.replaceContactor (.refl s) (Contactor.timeOut_move _ _) fun k => ?_)
    refine Contactor.restsUnfitted_of_fitted ((Contactor.timeOut_move _ _).fitted.trans (k.fitted ?_))
    rw [he]
    simp
  all_goals exact .refl s

theorem execPrechargeRetryEnd_keepsConnection (i : Fin 8) (h : execPrechargeRetryEnd i s = .next t) :
    s.KeepsConnection t := by
  cases h
  split
  · exact .settle (.setContactor (.refl s) rfl id)
  · exact .refl s

theorem execDrainEnd_keepsConnection (i : Fin 8) (h : execDrainEnd i s = .next t) : s.KeepsConnection t := by
  cases h
  split
  · next e he =>
    refine .settle (.setContactor (.refl s) ?_ fun _ => Contactor.enter_restsUnfitted fun _ => rfl)
    rw [Fin.getElem_fin] at he
    rw [Contactor.enter_opened_precharging, he]
    rfl
  all_goals exact .refl s

theorem execMainFeedbackChange_keepsConnection (i : Fin 8) (x : Bool) (h : execMainFeedbackChange i x s = .next t) :
    s.KeepsConnection t := by
  cases h
  split
  · exact .refl s
  · exact .setContactor (.refl s) (by simp) fun k => Contactor.supervise_restsUnfitted fun hf => (k hf).1

theorem execContactorFeedbackTimerEnd_keepsConnection (i : Fin 8) (h : execContactorFeedbackTimerEnd i s = .next t) :
    s.KeepsConnection t := by
  cases h
  split
  · next ht =>
    rw [Fin.getElem_fin] at ht
    refine .settle (.replaceContactor (.refl s) (Contactor.enter_move _ _ _ _ rfl (.inr ⟨_, rfl⟩)) fun k => ?_)
    refine Contactor.enter_restsUnfitted fun hf => ?_
    rw [(k hf).2] at ht
    cases ht
  · exact .refl s

theorem execBreakerFeedbackChange_keepsConnection (x : Bool) (h : execBreakerFeedbackChange x s = .next t) :
    s.KeepsConnection t := by
  cases h
  split
  · exact .refl s
  · exact setBreaker_keepsConnection s _

theorem execBreakerWindowEnd_keepsConnection (h : execBreakerWindowEnd s = .next t) : s.KeepsConnection t := by
  cases h
  split
  · exact setBreaker_keepsConnection s _
  · exact setBreaker_keepsConnection s _
  all_goals exact .refl s

theorem execBreakerFeedbackTimerEnd_keepsConnection (h : execBreakerFeedbackTimerEnd s = .next t) :
    s.KeepsConnection t := by
  cases h
  split
  · exact setBreaker_keepsConnection s _
  · exact .refl s

theorem execGridHealthyChange_keepsConnection (x : Bool) (h : execGridHealthyChange x s = .next t) :
    s.KeepsConnection t := by
  cases h
  split
  · exact .refl s
  · exact .beside (.refl s) (by rfl)

theorem execGridHealthyTaken_keepsConnection (h : execGridHealthyTaken s = .next t) : s.KeepsConnection t := by
  cases h
  dsimp only
  split
  · exact .refl s
  · split
    · exact .beside (.refl s) (by rfl)
    · split
      · exact .beside (.refl s) (by rfl)
      · exact .settle (.beside (.refl s) (by simp [State.connection, State.gridFalls, State.openBreaker]))

theorem execReconnectDelayEnd_keepsConnection (h : execReconnectDelayEnd s = .next t) : s.KeepsConnection t := by
  cases h
  split
  · exact .settle (.beside (.refl s) (by simp [State.connection]))
  · exact .refl s

/-! ### The converter link -/

theorem execBadFrame_keepsConnection (x : BadEnd) (h : execBadFrame x s = .next t) : s.KeepsConnection t := by
  cases h
  split
  · exact .refl s
  · exact .beside (.refl s) (by rfl)

theorem execLinkCharacterTaken_keepsConnection (x : LinkChar) (h : execLinkCharacterTaken x s = .next t) :
    s.KeepsConnection t := by
  cases h
  split
  · exact .takeCharacter (.refl s)
  · exact .refl s

theorem execLinkTimeout_keepsConnection (h : execLinkTimeout s = .next t) : s.KeepsConnection t := by
  cases h
  split
  · exact .settle (.beside (.refl s) (by rfl))
  · exact .refl s

theorem execFrameSent_keepsConnection (h : execFrameSent s = .next t) : s.KeepsConnection t := by
  cases h
  split
  · exact .beside (.refl s) (by rfl)
  all_goals exact .refl s

theorem execTransmitGapEnd_keepsConnection (h : execTransmitGapEnd s = .next t) : s.KeepsConnection t := by
  cases h
  split
  · exact .beside (.refl s) (by simp [State.connection])
  all_goals exact .refl s

/-! ### The window -/

theorem windowWrite_keepsConnection (a b : BitVec 10) (v : Word) : s.KeepsConnection ((s.windowWrite a v).wrote b) := by
  obtain ⟨m, r, x, e, -⟩ := s.windowWrite_frame a v
  rw [e]
  exact .beside (.refl s) (by rfl)

/-- After a reset every string is OPEN and not supervised, and the path is free (R138, R141). -/
theorem afterReset_keepsConnection (clock : SiteTime) (next : Nat) (x : Transaction) :
    s.KeepsConnection { s.afterReset clock next with transaction := x } := by
  refine ⟨fun _ => (pathServesOne_iff _).2 fun i => ?_, fun _ => (unfittedOpen_iff _).2 fun i => ?_⟩
  · simp [State.afterReset, State.reset, Contactor.atReset, ContactorState.isPrecharging, ContactorState.precharge]
  · simp [State.afterReset, Contactor.atReset, Contactor.RestsUnfitted]

/-- Every command keeps the path serving the one string in PRECHARGING. -/
theorem exec_keepsConnection (c : Instr) (h : exec c s = .next t) : s.KeepsConnection t := by
  cases c with
  | powerOn => cases h; exact afterReset_keepsConnection s _ _ _
  | resetLine => cases h; exact afterReset_keepsConnection s _ _ _
  | startUpProfileLoad => exact execStartUpProfileLoad_keepsConnection s t h
  | startUpTimeLimit => exact execStartUpTimeLimit_keepsConnection s t h
  | siteClockAdvance => exact execSiteClockAdvance_keepsConnection s t h
  | run _ => cases h; exact .beside (.refl s) (by simp [State.connection])
  | stop => cases h; exact .beside (.refl s) (by simp [State.connection])
  | orderMemoryWrite _ _ _ => cases h; exact windowWrite_keepsConnection s _ _ _
  | attentionSummaryWrite _ => cases h; exact windowWrite_keepsConnection s _ _ _
  | attentionEnableWrite _ => cases h; exact windowWrite_keepsConnection s _ _ _
  | windowWriteOther _ _ => cases h; exact windowWrite_keepsConnection s _ _ _
  | lookup _ => cases h; exact s.takeOrder_keepsConnection _ _ (ownerLookup_keepsConnection s _)
  | find _ _ => cases h; exact s.takeOrder_keepsConnection _ _ (ownerFind_keepsConnection s _ _)
  | nextChanged => cases h; exact s.takeOrder_keepsConnection _ _ (ownerNextChanged_keepsConnection s)
  | readString _ _ => cases h; exact s.takeOrder_keepsConnection _ _ (ownerReadString_keepsConnection s _ _)
  | readModule _ _ _ => cases h; exact s.takeOrder_keepsConnection _ _ (ownerReadModule_keepsConnection s _ _ _)
  | readBay _ => cases h; exact s.takeOrder_keepsConnection _ _ (ownerReadBay_keepsConnection s _)
  | readConnection _ => cases h; exact s.takeOrder_keepsConnection _ _ (ownerReadConnection_keepsConnection s _)
  | readLink => cases h; exact s.takeOrder_keepsConnection _ _ (.beside (.refl s) (by rfl))
  | readClock => cases h; exact s.takeOrder_keepsConnection _ _ (.refl s)
  | readProfile _ _ => cases h; exact s.takeOrder_keepsConnection _ _ (ownerReadProfile_keepsConnection s _ _)
  | grant _ _ _ _ _ _ => cases h; exact s.takeOrder_keepsConnection _ _ (ownerGrant_keepsConnection s _ _ _ _ _ _)
  | amend _ _ _ _ _ _ => cases h; exact s.takeOrder_keepsConnection _ _ (ownerAmend_keepsConnection s _ _ _ _ _ _)
  | renew _ => cases h; exact s.takeOrder_keepsConnection _ _ (ownerRenew_keepsConnection s _)
  | revoke _ => cases h; exact s.takeOrder_keepsConnection _ _ (ownerRevoke_keepsConnection s _)
  | retire _ => cases h; exact s.takeOrder_keepsConnection _ _ (ownerRetire_keepsConnection s _)
  | closeBreaker => cases h; exact s.takeOrder_keepsConnection _ _ (ownerCloseBreaker_keepsConnection s)
  | openBreaker => cases h; exact s.takeOrder_keepsConnection _ _ (setBreaker_keepsConnection s _)
  | resetBreaker => cases h; exact s.takeOrder_keepsConnection _ _ (ownerResetBreaker_keepsConnection s)
  | clearContactor _ => cases h; exact s.takeOrder_keepsConnection _ _ (ownerClearContactor_keepsConnection s _)
  | resetBay _ => cases h; exact s.takeOrder_keepsConnection _ _ (ownerResetBay_keepsConnection s _)
  | releaseNow _ => cases h; exact s.takeOrder_keepsConnection _ _ (ownerReleaseNow_keepsConnection s _)
  | rollcall _ => cases h; exact s.takeOrder_keepsConnection _ _ (ownerRollcall_keepsConnection s _)
  | setClock _ _ _ => cases h; exact s.takeOrder_keepsConnection _ _ (ownerSetClock_keepsConnection s _ _ _)
  | setMode _ => cases h; exact s.takeOrder_keepsConnection _ _ (ownerSetMode_keepsConnection s _)
  | writeProfile _ _ _ _ => cases h; exact s.takeOrder_keepsConnection _ _ (ownerWriteProfile_keepsConnection s _ _ _ _)
  | commitProfile => exact execCommitProfile_keepsConnection s t h
  | commitComplete => exact execCommitComplete_keepsConnection s t h
  | leaseLapse _ => exact execLeaseLapse_keepsConnection s t _ h
  | riseHoldEnd _ => exact execRiseHoldEnd_keepsConnection s t _ h
  | revokedHoldEnd _ => exact execRevokedHoldEnd_keepsConnection s t _ h
  | crewKeyChange _ => exact execCrewKeyChange_keepsConnection s t _ h
  | doorContactChange _ => exact execDoorContactChange_keepsConnection s t _ h
  | doorTaken => exact execDoorTaken_keepsConnection s t h
  | selftestEnd _ _ _ => exact execSelftestEnd_keepsConnection s t _ _ _ h
  | wakePulseEnd _ => exact execWakePulseEnd_keepsConnection s t _ h
  | wakeEnd _ => exact execWakeEnd_keepsConnection s t _ h
  | stuckRetryEnd _ => exact execStuckRetryEnd_keepsConnection s t _ h
  | stuckLine _ _ => exact execStuckLine_keepsConnection s t _ _ h
  | echoError _ _ _ => exact execEchoError_keepsConnection s t _ _ _ h
  | idleGapEnd _ => exact execIdleGapEnd_keepsConnection s t _ h
  | pollRoundStart _ => exact execPollRoundStart_keepsConnection s t _ h
  | summaryAnswer _ _ => exact execSummaryAnswer_keepsConnection s t _ _ h
  | probeAnswer _ _ => exact execProbeAnswer_keepsConnection s t _ _ h
  | responseWindowEnd _ _ => cases h; exact .endExchange (.refl s)
  | targetFrameEnd _ => exact execTargetFrameEnd_keepsConnection s t _ h
  | smokeLineChange _ _ _ => exact execSmokeLineChange_keepsConnection s t _ _ _ h
  | smokeConditionTaken _ _ => exact execSmokeConditionTaken_keepsConnection s t _ _ h
  | holdButtonChange _ _ => exact execHoldButtonChange_keepsConnection s t _ _ h
  | holdButtonTaken _ => exact execHoldButtonTaken_keepsConnection s t _ h
  | countdownEnd _ => exact execCountdownEnd_keepsConnection s t _ h
  | releasePulseEnd _ => exact execReleasePulseEnd_keepsConnection s t _ h
  | runOnEnd _ => exact execRunOnEnd_keepsConnection s t _ h
  | flowSwitchChange _ _ => exact execFlowSwitchChange_keepsConnection s t _ _ h
  | flowTimerEnd _ => exact execFlowTimerEnd_keepsConnection s t _ h
  | prechargeTimeout _ => exact execPrechargeTimeout_keepsConnection s t _ h
  | prechargeRetryEnd _ => exact execPrechargeRetryEnd_keepsConnection s t _ h
  | drainEnd _ => exact execDrainEnd_keepsConnection s t _ h
  | mainFeedbackChange _ _ => exact execMainFeedbackChange_keepsConnection s t _ _ h
  | contactorFeedbackTimerEnd _ => exact execContactorFeedbackTimerEnd_keepsConnection s t _ h
  | breakerFeedbackChange _ => exact execBreakerFeedbackChange_keepsConnection s t _ h
  | breakerWindowEnd => exact execBreakerWindowEnd_keepsConnection s t h
  | breakerFeedbackTimerEnd => exact execBreakerFeedbackTimerEnd_keepsConnection s t h
  | gridHealthyChange _ => exact execGridHealthyChange_keepsConnection s t _ h
  | gridHealthyTaken => exact execGridHealthyTaken_keepsConnection s t h
  | reconnectDelayEnd => exact execReconnectDelayEnd_keepsConnection s t h
  | renewFrame _ _ _ _ _ => cases h; exact .takeFrame (.refl s)
  | reduceFrame _ _ _ _ => cases h; exact .takeFrame (.refl s)
  | handbackFrame _ _ _ => cases h; exact .takeFrame (.refl s)
  | queryFrame _ _ _ => cases h; exact .takeFrame (.refl s)
  | badFrame _ => exact execBadFrame_keepsConnection s t _ h
  | linkTimeout => exact execLinkTimeout_keepsConnection s t h
  | frameSent => exact execFrameSent_keepsConnection s t h
  | transmitGapEnd => exact execTransmitGapEnd_keepsConnection s t h
  | linkCharacterTaken _ => exact execLinkCharacterTaken_keepsConnection s t _ h

/-- On an empty queue: the runner's write, an order taken by its owner, or time that passes. -/
theorem idle_keepsConnection (h : s.idle = .next t) : s.KeepsConnection t := by
  simp only [State.idle] at h
  split at h
  · next u _ hu =>
    cases h
    simp only [State.endAnswered] at hu
    split at hu
    · cases hu
      exact .beside (.refl s) (by simp [State.connection])
    · cases hu
  · next c _ _ => exact exec_keepsConnection s t c h
  · cases h
    exact .beside (.refl s) (by rfl)

theorem step_keepsConnection (h : step s = .next t) : s.KeepsConnection t := by
  simp only [step] at h
  split at h
  · next c rest _ =>
    have taken : s.KeepsConnection { s with pending := rest } := .beside (.refl s) (by rfl)
    exact taken.trans (exec_keepsConnection _ t c h)
  · exact idle_keepsConnection s t h

end Commands

end Sys2Proof.Machine
end

section
/-! PROOF. Every step keeps contactor outputs, site law 5 on isolated strings and site law 8 on the precharge path
(O55). -/

namespace Sys2Proof.Machine

open Sys2Proof Sys2Proof.Safety Sys2Proof.Claims

/-! ### Outputs and fitted marks of contactors -/

/-- Both outputs of a contactor follow its state (R140). -/
def Contactor.OutputsFollow (c : Contactor) : Prop :=
  c.mainClosed = c.state.main ∧ c.prechargeClosed = c.state.precharge

theorem outputsFollowState_iff (s : State) :
    ContactorOutputsFollowState s ↔ ∀ i : Fin 8, (s.contactors[i.val]).OutputsFollow := Iff.rfl

/-- A contactor driven: its fitted mark stands, and its outputs follow its state where they did. -/
structure Contactor.Driven (c d : Contactor) : Prop where
  fitted : d.fitted = c.fitted
  outputs : c.OutputsFollow → d.OutputsFollow

theorem Contactor.Driven.refl (c : Contactor) : c.Driven c := ⟨rfl, id⟩

theorem Contactor.Driven.trans {c d e : Contactor} (h : c.Driven d) (k : d.Driven e) : c.Driven e :=
  ⟨k.fitted.trans h.fitted, k.outputs ∘ h.outputs⟩

theorem Contactor.enter_driven (c : Contactor) (st : ContactorState) (now : Nat) : c.Driven (c.enter st now) := by
  obtain ⟨hs, hm, hp, hf, -⟩ := c.enter_spec st now
  exact ⟨hf, fun _ => ⟨by rw [hm, hs], by rw [hp, hs]⟩⟩

theorem Contactor.Move.driven {c d : Contactor} (h : c.Move d) : c.Driven d := by
  refine ⟨h.fitted, fun ⟨hm, hp⟩ => ?_⟩
  rcases h.outputs with ⟨em, ep, es⟩ | h
  · exact ⟨by rw [em, es, hm], by rw [ep, es, hp]⟩
  · exact h

theorem Contactor.openNow_driven (c : Contactor) (now : Nat) : c.Driven (c.openNow now) := by
  simp only [Contactor.openNow]
  split
  · exact c.enter_driven _ _
  · exact c.enter_driven _ _
  · exact c.enter_driven _ _
  · exact c.enter_driven _ _
  · exact .refl c
  · exact .refl c

theorem Contactor.follow_driven (c : Contactor) (now drainTime : Nat) : c.Driven (c.follow now drainTime) := by
  simp only [Contactor.follow]
  split
  · exact c.enter_driven _ _
  · exact c.enter_driven _ _
  · exact c.enter_driven _ _
  · exact c.enter_driven _ _
  · split
    · exact c.enter_driven _ _
    · exact .refl c
  · exact .refl c

/-- A fitted bit taken leaves the outputs following the state (R150). -/
theorem Contactor.OutputsFollow.refit {c : Contactor} (h : c.OutputsFollow) (fitted : Bool) (now : Nat) :
    (c.refit fitted now).OutputsFollow := by
  simp only [Contactor.refit]
  split
  · exact h
  · split
    · simpa only [Contactor.OutputsFollow, Contactor.supervise_mainClosed, Contactor.supervise_prechargeClosed,
        Contactor.supervise_state] using h
    · exact ⟨rfl, rfl⟩

/-- A string that a fitted bit leaves unfitted was so, or is OPEN now (R150). -/
theorem Contactor.refit_unfitted {c : Contactor} {fitted : Bool} {now : Nat} (h : (c.refit fitted now).fitted = false) :
    c.fitted = false ∨ AtRest (c.refit fitted now) := by
  simp only [Contactor.refit] at h ⊢
  split
  · next e => rw [if_pos e] at h; exact .inl h
  · next e =>
    rw [if_neg e] at h
    split
    · next ht => rw [if_pos ht, Contactor.supervise_fitted] at h; cases h
    · exact .inr (.inl rfl)

/-- A String Contactor Table whose contactors have been driven. -/
def State.Drives (s t : State) : Prop := ∀ i : Fin 8, (s.contactors[i.val]).Driven t.contactors[i.val]

theorem State.Drives.of_eq {s t : State} (h : t.contactors = s.contactors) : s.Drives t := fun i => by
  rw [h]; exact .refl _

theorem State.Drives.trans {s t u : State} (h : s.Drives t) (k : t.Drives u) : s.Drives u :=
  fun i => (h i).trans (k i)

/-- One contactor driven, and the others as they are. -/
theorem State.Drives.of_put {s t : State} {j : Fin 8} {c : Contactor} (h : t.contactors = put s.contactors j c)
    (hc : (s.contactors[j.val]).Driven c) : s.Drives t := fun i => by
  rw [h, getElem_put]
  split
  · next e => subst e; exact hc
  · exact .refl _

theorem State.checkMatch_drives (s : State) : s.Drives s.checkMatch := by
  rcases s.checkMatch_cases with e | ⟨i, -, -, e⟩
  · exact .of_eq (by rw [e])
  · exact .of_put e (((s.contactors[i.val]).enter_driven .closed s.now).trans ⟨rfl, id⟩)

theorem State.startPrecharge_drives (s : State) (i : Fin 8) : s.Drives (s.startPrecharge i) :=
  State.Drives.trans (.of_put rfl ((s.contactors[i.val]).enter_driven _ _)) (State.checkMatch_drives _)

theorem State.arbitrate_drives (n : Nat) (s : State) : s.Drives (State.arbitrate n s) := by
  induction n generalizing s with
  | zero => exact .of_eq rfl
  | succ n ih =>
    rcases s.arbitrate_succ n with e | ⟨i, -, -, e⟩
    · exact .of_eq (by rw [e])
    · rw [e]; exact (s.startPrecharge_drives i).trans (ih _)

theorem State.connectString_driven (s : State) (i : Fin 8) : (s.contactors[i.val]).Driven (s.connectString i) := by
  have h := Contactor.follow_driven { s.contactors[i.val] with
    unmet := s.unmetOf i
    isolating := if s.contactors[i.val].fitted then s.isolatingOf i else none } s.now s.unit.active.drainTime
  exact ⟨h.fitted, fun ho => h.outputs ho⟩

theorem State.connectStage_drives (s : State) : s.Drives s.connectStage := by
  refine State.Drives.trans (fun i => ?_) (State.arbitrate_drives 8 _)
  rw [State.freePath_contactors, getElem_tab8]
  exact s.connectString_driven i

/-- An effect drives the contactors, or it is a commit or load that gives each string its fitted bit. -/
theorem State.Effect.drives {s t : State} (h : s.Effect t) :
    s.Drives t ∨ ∃ p : Profile, ∀ i : Fin 8, t.contactors[i.val] = (s.contactors[i.val]).refit (p.isFitted i) s.now := by
  have same (e : t.contactors = s.contactors) : s.Drives t ∨
      ∃ p : Profile, ∀ i : Fin 8, t.contactors[i.val] = (s.contactors[i.val]).refit (p.isFitted i) s.now :=
    .inl (.of_eq e)
  cases h with
  | connectStage => exact .inl s.connectStage_drives
  | contactor j c hc => exact .inl (.of_put rfl hc.driven)
  | replaceContactor j c hc => exact .inl (.of_put (by simp [State.replaceContactor]) hc.driven)
  | checkMatch => exact .inl s.checkMatch_drives
  | refitContactors p =>
    exact .inr ⟨p, fun i => by simp only [State.refitContactors, State.freePath_contactors, getElem_tab8]; rfl⟩
  | loadContactors p => exact .inr ⟨p, fun i => by simp only [getElem_tab8]⟩
  | fireAndAlarm =>
    refine .inl fun i => ?_
    rw [State.fireAndAlarm_contactor]
    split
    · exact Contactor.openNow_driven _ _
    · exact .refl _
  | senses h => exact same (by rw [h.frame])
  | linkState h => exact same (by rw [h])
  | amend i p => exact same (by simp only [State.amendSlot]; split <;> simp)
  | fireInputs | cool | flowFault | setMode | opened | doorStage | coolStage => exact same rfl
  | revokeSlot | revokeWhere | reduce | riseEnd | gridFalls | gridReturns | quietBay | releaseBay | refitCooling
  | isolateStage | evaluateStage =>
    refine same ?_
    simp [State.reduceSlot, State.endRise, State.gridFalls, State.quietBay, State.releaseBay, State.refitCooling]

theorem State.Drives.contactorOutputs {s t : State} (h : s.Drives t) (hs : ContactorOutputsFollowState s) :
    ContactorOutputsFollowState t := fun i => (h i).outputs (hs i)

theorem contactorOutputs_kept : StepKeeps ContactorOutputsFollowState ContactorOutputsFollowState :=
  StepKeeps.ofMoves (fun _ _ h => h)
    (fun s t a hs i => by
      obtain ⟨-, hst, -, -, hm, hp⟩ := a.contactors i
      obtain ⟨em, ep⟩ := hs i
      exact ⟨by rw [Fin.getElem_fin, hm, hst]; exact em, by rw [Fin.getElem_fin, hp, hst]; exact ep⟩)
    (fun s t a => by
      obtain ⟨-, -, hc, -⟩ := a.frame
      exact (State.Drives.of_eq hc).contactorOutputs)
    (fun s t a hs => by
      rcases a.drives with h | ⟨p, h⟩
      · exact h.contactorOutputs hs
      · refine (outputsFollowState_iff t).2 fun i => ?_
        rw [h i]
        exact ((outputsFollowState_iff s).1 hs i).refit _ _)
    (fun s t a => (State.Drives.of_eq a.contactors).contactorOutputs)
    (fun s clock next x _ i => by simp [State.afterReset, Contactor.atReset, ContactorState.main, ContactorState.precharge])

/-! ### No ISOLATE newly LIVE -/

/-- A record that remains, and that is not newly LIVE as an ISOLATE. -/
structure Permit.IsolatesNoMore (p q : Permit) : Prop where
  remains : p.Remains q
  live : p.kind = .isolate → q.state = .live → p.state = .live

theorem Permit.IsolatesNoMore.refl (p : Permit) : p.IsolatesNoMore p := ⟨.refl p, fun _ => id⟩

theorem Permit.IsolatesNoMore.trans {p q r : Permit} (h : p.IsolatesNoMore q) (k : q.IsolatesNoMore r) :
    p.IsolatesNoMore r :=
  ⟨h.remains.trans k.remains, fun hp hr => h.live hp (k.live (h.remains.stands.1.trans hp) hr)⟩

/-- A record that remains in its state. -/
theorem Permit.IsolatesNoMore.of_state {p q : Permit} (h : p.Remains q) (hs : q.state = p.state) : p.IsolatesNoMore q :=
  ⟨h, fun _ e => hs ▸ e⟩

/-- A Permit Table in which no ISOLATE is newly LIVE. -/
def State.IsolatesNoMore (s t : State) : Prop := s.SlotsRel Permit.IsolatesNoMore t

theorem State.IsolatesNoMore.of_eq {s t : State} (h : t.slots = s.slots) : s.IsolatesNoMore t :=
  State.SlotsRel.of_eq Permit.IsolatesNoMore.refl h

theorem State.IsolatesNoMore.trans {s t u : State} (h : s.IsolatesNoMore t) (k : t.IsolatesNoMore u) :
    s.IsolatesNoMore u := State.SlotsRel.trans (fun _ _ _ => Permit.IsolatesNoMore.trans) h k

/-- A table passed record by record through functions that make no ISOLATE LIVE. -/
theorem State.SlotsUpdate.isolatesNoMore {s t : State} {f : Fin 48 → Permit → Permit} (h : s.SlotsUpdate f t)
    (hr : s.SlotsRemain t) (hf : ∀ i p, p.kind = .isolate → (f i p).state = .live → p.state = .live) :
    s.IsolatesNoMore t := fun i => by
  obtain ⟨hg, hp⟩ := hr i
  refine ⟨hg, hp.imp_right ?_⟩
  rintro ⟨p, q, hp, hq, hpq⟩
  have e := h.holds hp
  rw [Holds, Fin.getElem_fin, hq] at e
  cases e
  exact ⟨p, _, hp, hq, hpq, hf i p⟩

theorem Permit.revokedWhere_live {f : Permit → Bool} {reason : Reason} {now hold : Nat} {p : Permit}
    (h : (p.revokedWhere f reason now hold).state = .live) : p.state = .live := by
  rw [Permit.revokedWhere] at h
  split at h
  · cases h
  · exact h

theorem Permit.gridFall_live {p : Permit} (h : p.gridFall.state = .live) : p.state = .live := by
  rw [Permit.gridFall] at h
  split at h
  · cases h
  · exact h

theorem Permit.gridReturn_isolate {p : Permit} (h : p.kind = .isolate) : p.gridReturn = p := by
  rw [Permit.gridReturn, if_neg (by simp [h])]

/-- A recomputed target makes no record LIVE (R11, R12). -/
theorem State.retargeted_live {s : State} {src : Source} {p : Permit} (h : (s.retargeted src p).state = .live) :
    p.state = .live := by
  rw [State.retargeted] at h
  rcases p.retarget_cases src _ _ _ _ with ⟨e, -⟩ | ⟨l, -, -, ⟨-, e⟩ | ⟨-, e⟩⟩ <;> rw [e] at h
  · exact h
  · rw [Permit.applyFall_eq] at h
    dsimp only at h
    split at h
    · cases h
    · exact h
  · rwa [Permit.applyRise_eq] at h

theorem State.handedTo_live {s : State} {old : Vector StringRec 8} {p : Permit} (h : (s.handedTo old p).state = .live) :
    p.state = .live := by
  rw [State.handedTo] at h
  split at h
  · exact State.retargeted_live h
  · exact h

theorem State.retargetSlot_isolatesNoMore (s : State) (src : Source) (i : Fin 48) :
    s.IsolatesNoMore (s.retargetSlot src i) := by
  cases h : s.slots[i.val].permit with
  | none =>
    refine .of_eq ?_
    rw [State.retargetSlot_turn, Slot.update_of_fixed (fun p hp => by rw [h] at hp; cases hp), put_self]
  | some p =>
    have hr : p.IsolatesNoMore (s.retargeted src p) :=
      ⟨(s.retargeted_handedOn src p).remains, fun _ => State.retargeted_live⟩
    have hset : s.IsolatesNoMore (s.setPermit i (s.retargeted src p)) :=
      State.setPermit_rel Permit.IsolatesNoMore.refl s i p _ h hr
    refine hset.trans (.of_eq ?_)
    rw [State.retargetSlot_turn, s.setPermit_turn i (s.retargeted src) h]

/-- A record replaced by one that remains in its state, and its target recomputed. -/
theorem State.setPermit_isolatesNoMore (s : State) (i : Fin 48) (p q : Permit) (hp : s.slots[i.val].permit = some p)
    (hr : p.Remains q) (hs : q.state = p.state) : s.IsolatesNoMore (s.setPermit i q) :=
  State.setPermit_rel Permit.IsolatesNoMore.refl s i p q hp (.of_state hr hs)

theorem State.revokeSlot_isolatesNoMore (s : State) (reason : Reason) (byOrder : Bool) (i : Fin 48) :
    s.IsolatesNoMore (s.revokeSlot reason byOrder i) := by
  simp only [State.revokeSlot]
  split
  · exact .of_eq rfl
  · next p hp =>
    split
    · next hst =>
      have h : p.IsolatesNoMore (p.revoked reason byOrder s.now (Config.sec s.unit.active.revokedHold)) :=
        ⟨(p.revoked_follows _ _ _ _ hst).remains, fun _ => nofun⟩
      have hset : s.IsolatesNoMore (s.setPermit i _) := State.setPermit_rel Permit.IsolatesNoMore.refl s i p _ hp h
      exact hset.trans (.of_eq (by simp))
    · exact .of_eq rfl

theorem State.amendSlot_isolatesNoMore (s : State) (i : Fin 48) (p : Permit) (o : AmendOps)
    (hp : s.slots[i.val].permit = some p) (hr : p.state ≠ .revoked) : s.IsolatesNoMore (s.amendSlot i p o) := by
  have h := s.setPermit_isolatesNoMore i p _ hp (p.amended_remains o s.now hr) rfl
  simp only [State.amendSlot]
  split
  · exact h.trans (State.retargetSlot_isolatesNoMore _ _ _)
  · exact h

/-- A rise ends on a record with limits, so on no ISOLATE. -/
theorem State.endRise_isolatesNoMore {s : State} {i : Fin 48} {p : Permit} {l : Limits} {r : Rise}
    (hp : s.slots[i.val].permit = some p) (hl : p.limits = some l) (hs : p.liveOrSuspended = true)
    (hk : LimitsFollowKind s) : s.IsolatesNoMore (s.endRise i p l r) := by
  have hn : p.kind ≠ .isolate := fun e => by
    have := hk i p hp
    rw [hl, e] at this
    cases this
  have hst : p.state ≠ .revoked := fun e => by simp [Permit.liveOrSuspended_iff, e] at hs
  obtain ⟨ek, eh, es, el⟩ := p.applyPending_spec l r
  have h : s.IsolatesNoMore (s.setPermit i (p.applyPending l r)) :=
    State.setPermit_rel Permit.IsolatesNoMore.refl s i p _ hp
      ⟨Permit.remains_of_standing hst ek eh es (by rw [el, hl]; rfl), fun e => absurd e hn⟩
  exact (h.trans (.of_eq (State.raise_slots _ .permit))).trans (State.retargetSlot_isolatesNoMore _ _ _)

theorem State.evaluateStage_isolatesNoMore (s : State) : s.IsolatesNoMore s.evaluateStage := by
  cases hl : s.loaded with
  | false => rw [State.evaluateStage_unloaded s hl]; exact .of_eq rfl
  | true =>
    exact (s.evaluateStage_updates hl).isolatesNoMore s.evaluateStage_follows.remain fun _ _ _ => State.handedTo_live

/-- No effect but the settling's completion makes an ISOLATE LIVE (R24). -/
theorem State.Effect.isolatesNoMore {s t : State} (h : s.Effect t) (hk : LimitsFollowKind s) :
    s.IsolatesNoMore t ∨ ∃ g, t = s.isolateStage g := by
  have same (e : t.slots = s.slots) : s.IsolatesNoMore t ∨ ∃ g, t = s.isolateStage g := .inl (.of_eq e)
  have hr := h.slotsRemain
  cases h with
  | isolateStage g => exact .inr ⟨g, rfl⟩
  | revokeSlot r b i => exact .inl (s.revokeSlot_isolatesNoMore r b i)
  | revokeWhere f r => exact .inl ((s.revokeWhere_updates f r).isolatesNoMore hr fun _ _ _ => Permit.revokedWhere_live)
  | fireAndAlarm => exact .inl (s.fireAndAlarm_updates.isolatesNoMore hr fun _ _ _ => Permit.revokedWhere_live)
  | gridFalls =>
    refine .inl ((((State.SlotsUpdate.of_eq (by simp)).trans
      (State.suspendConnect_updates (s.setReconnect none false).openBreaker))).isolatesNoMore hr ?_)
    exact fun _ _ _ => Permit.gridFall_live
  | gridReturns =>
    refine .inl (((State.SlotsUpdate.of_eq (by simp)).trans
      (State.resumeConnect_updates (s.setReconnect none true))).isolatesNoMore hr ?_)
    exact fun _ p hp e => by rwa [Function.comp_apply, Permit.gridReturn_isolate hp] at e
  | amend i p _ _ _ _ _ hp ho =>
    exact .inl (s.amendSlot_isolatesNoMore i p _ hp (Permit.amendRefusal_standing ho))
  | reduce i p limit hp hst =>
    exact .inl ((s.setPermit_isolatesNoMore i p
      { p with limits := p.limits.map fun l => ⟨limit, l.effective, l.rise⟩ } hp
      (Permit.remains_of_standing hst rfl rfl rfl (by simp)) rfl).trans (State.retargetSlot_isolatesNoMore _ _ _))
  | riseEnd i p l r hp hl _ hs =>
    exact .inl (State.endRise_isolatesNoMore hp hl hs hk)
  | evaluateStage => exact .inl s.evaluateStage_isolatesNoMore
  | senses h => exact same (by rw [h.frame])
  | linkState h => exact same (by rw [h])
  | quietBay | releaseBay => exact same (State.setFireTable_slots _ _)
  | replaceContactor | refitContactors | refitCooling | checkMatch | connectStage =>
    exact same (by simp [State.replaceContactor, State.refitContactors, State.refitCooling])
  | fireInputs | cool | flowFault | contactor | setMode | loadContactors | opened | doorStage | coolStage =>
    exact same rfl

/-! ### Strings kept out of service -/

/-- A string that is unfitted or under a LIVE ISOLATE. -/
def State.KeptOff (s : State) (n : Fin 8) : Prop :=
  s.contactors[n.val].fitted = false ∨
    ∃ i p, Holds s i p ∧ p.kind = .isolate ∧ p.state = .live ∧ inScope p.scope n = true

/-- Every string that is kept out of service is OPEN or FAILED. -/
def State.OffAtRest (s : State) : Prop := ∀ n : Fin 8, s.KeptOff n → AtRest s.contactors[n.val]

theorem offAtRest_of {s : State} (hu : UnfittedOpen s) (hi : IsolatedAtRest s) : s.OffAtRest := by
  rintro n (hf | ⟨i, p, hp, hk, hst, hn⟩)
  · exact .inl (hu n hf).1
  · exact hi i p n hp hk hst hn

theorem State.OffAtRest.isolated {s : State} (h : s.OffAtRest) : IsolatedAtRest s :=
  fun i p n hp hk hst hn => h n (.inr ⟨i, p, hp, hk, hst, hn⟩)

/-- A string kept out of service was so before, where no ISOLATE is newly LIVE. -/
theorem State.IsolatesNoMore.keptOff {s t : State} (h : s.IsolatesNoMore t) {n : Fin 8}
    (hf : t.contactors[n.val].fitted = false → s.contactors[n.val].fitted = false) (hn : t.KeptOff n) : s.KeptOff n := by
  rcases hn with hn | ⟨i, q, hq, hk, hst, hn⟩
  · exact .inl (hf hn)
  · obtain ⟨p, hp, hpq⟩ := h.back hq
    obtain ⟨ek, -, es, -⟩ := hpq.remains.stands
    have hpk : p.kind = .isolate := ek.symm.trans hk
    exact .inr ⟨i, p, hp, hpk, hpq.live hpk hst, es ▸ hn⟩

/-- Where no ISOLATE is newly LIVE, no string newly unfitted and no contactor leaves rest, the law goes over. -/
theorem State.OffAtRest.over {s t : State} (h : s.OffAtRest) (hi : s.IsolatesNoMore t)
    (hf : ∀ n : Fin 8, t.contactors[n.val].fitted = false → s.contactors[n.val].fitted = false)
    (hc : ∀ n : Fin 8, AtRest s.contactors[n.val] → AtRest t.contactors[n.val]) : t.OffAtRest :=
  fun n hn => hc n (h n (hi.keptOff (hf n) hn))

/-- A LIVE ISOLATE is a condition of its strings (R139). -/
theorem State.KeptOff.unmet {s : State} {n : Fin 8} (h : s.KeptOff n) : (s.unmetOf n).isEmpty = false := by
  rcases h with hf | ⟨i, p, hp, hk, hst, hn⟩
  · simp [Unmet.isEmpty, State.unmetOf, hf]
  · have hi : (s.isolatingOf n).isSome = true := by
      rw [State.isolatingOf, Option.isSome_map, Option.isSome_iff_ne_none]
      intro e
      have := List.find?_eq_none.1 e i (mem_allSlots i)
      rw [Holds] at hp
      simp only [hp] at this
      simp [Permit.isolates, Permit.standing, hk, hst, hn] at this
    simp [Unmet.isEmpty, State.unmetOf, hi]

theorem State.connectStage_offAtRest {s : State} (h : s.OffAtRest) : s.connectStage.OffAtRest := by
  intro n hn
  have hs : s.KeptOff n := (State.IsolatesNoMore.of_eq (by simp)).keptOff
    (fun e => (s.connectStage_drives n).fitted.symm.trans e) hn
  exact s.connectStage_atRest n hs.unmet (h n hs)

/-- The completion makes an ISOLATE LIVE where each string of its scope is unfitted or OPEN (R24, R149). -/
theorem State.isolateStage_offAtRest {s : State} (g : Option (Fin 48)) (h : s.OffAtRest) :
    (s.isolateStage g).OffAtRest := by
  rintro n hn
  rw [State.isolateStage_contactors]
  rcases hn with hf | ⟨i, q, hq, hk, hst, hn⟩
  · exact h n (.inl (by simpa using hf))
  · obtain ⟨p, hp, rfl⟩ := (s.isolateStage_updates g).back hq
    rw [Permit.completed] at hk hst hn
    split at hk
    · next hc =>
      rw [if_pos hc] at hn
      rcases State.scopeOpen_iff.1 hc.2.2 n hn with hf | ho
      · exact h n (.inl hf)
      · exact .inl ho
    · next hc =>
      rw [if_neg hc] at hst hn
      exact h n (.inr ⟨i, p, hp, hk, hst, hn⟩)

theorem State.Effect.offAtRest {s t : State} (a : s.Effect t) (hk : LimitsFollowKind s) (h : s.OffAtRest) :
    t.OffAtRest := by
  rcases a.isolatesNoMore hk with hi | ⟨g, e⟩
  · rcases a.contactors with hc | rfl
    · rcases a.drives with hd | ⟨p, hr⟩
      · exact h.over hi (fun n e => (hd n).fitted.symm.trans e) hc
      · intro n hn
        by_cases hf : s.contactors[n.val].fitted = true ∧ t.contactors[n.val].fitted = false
        · obtain ⟨hsf, htf⟩ := hf
          rw [hr n] at htf ⊢
          exact (Contactor.refit_unfitted htf).resolve_left fun e => by rw [hsf] at e; cases e
        · exact hc n (h n (hi.keptOff (fun e => by simpa [e] using hf) hn))
    · exact State.connectStage_offAtRest h
  · rw [e]
    exact State.isolateStage_offAtRest g h

/-- A GRANT of an ISOLATE is PENDING (R24). -/
theorem State.First.offAtRest {s t : State} (a : s.First t) (h : s.OffAtRest) : t.OffAtRest := by
  intro n hn
  rw [a.contactors]
  rcases hn with hf | ⟨i, q, hq, hk, hst, hn⟩
  · exact h n (.inl (by rwa [a.contactors] at hf))
  · rcases a.holds hq with hp | ⟨kind, holder, o, -, -, rfl, -⟩
    · exact h n (.inr ⟨i, q, hp, hk, hst, hn⟩)
    · change kind = .isolate at hk
      subst hk
      cases hst

theorem State.Touch.offAtRest {s t : State} (a : s.Touch t) (h : s.OffAtRest) : t.OffAtRest := by
  obtain ⟨-, -, hc, -⟩ := a.frame
  have hi : s.IsolatesNoMore t := by
    cases a with
    | unmark i p hp =>
      exact s.setPermit_isolatesNoMore i p _ hp ⟨⟨rfl, rfl, rfl, fun e => ⟨e, rfl, rfl⟩⟩, rfl⟩ rfl
    | renew i p hp _ =>
      exact s.setPermit_isolatesNoMore i p _ hp ⟨⟨rfl, rfl, rfl, fun e => ⟨e, rfl, rfl⟩⟩, rfl⟩ rfl
    | transmit =>
      exact State.linkStage_rel Permit.IsolatesNoMore.refl
        (fun p => .of_state ⟨⟨rfl, rfl, rfl, fun e => ⟨e, rfl, rfl⟩⟩, rfl⟩ rfl) s
    | breaker => exact .of_eq (by simp)
    | pulseEnd | flow => exact .of_eq rfl
  exact h.over hi (fun n => by rw [hc]; exact id) (fun n => by rw [hc]; exact id)

theorem offAtRest_kept : StepKeeps (fun s => LimitsFollowKind s ∧ s.OffAtRest)
    (fun s => LimitsFollowKind s ∧ s.OffAtRest) :=
  StepKeeps.withLimits (fun _ _ h => h)
    (fun s t a _ h => h.over (.of_eq a.slots) (fun n e => (a.contactors n).fitted.symm.trans e)
      (fun n hn => by simpa only [AtRest, (a.contactors n).state] using hn))
    (fun _ _ a _ => a.offAtRest) (fun _ _ => State.Effect.offAtRest) (fun _ _ a _ => a.offAtRest)
    (fun s clock next x _ n _ => .inl (by simp [State.afterReset, Contactor.atReset]))

/-- Settles O55: outputs by the moves of a step's course, the path by what every operation keeps of it, and isolated
strings with the unfitted ones, that both stay at rest. -/
theorem stepsKeepContactorLaws : Obligations.StepsKeepContactorLaws := by
  refine ⟨contactorOutputs_kept.step, fun s t hp h => (step_keepsConnection s t h).path hp, fun s t hl hu hi h => ?_⟩
  obtain ⟨hl', ho⟩ := offAtRest_kept.step s t ⟨hl, offAtRest_of hu hi⟩ h
  exact ⟨hl', (step_keepsConnection s t h).unfitted hu, ho.isolated⟩

end Sys2Proof.Machine
end

section
/-! PROOF. The timers of a string contactor and its main feedback (O42). -/

namespace Sys2Proof.Machine

open Sys2Proof Sys2Proof.Safety Sys2Proof.Claims

/-! ### Supervision and states entered -/

/-- Supervision sets the feedback timer alone (R147). -/
theorem Contactor.supervise_eq (c : Contactor) (now : Nat) : c.supervise now = { c with
    feedbackTimer := if c.fitted = true ∧ c.state.isFailed = false ∧ c.feedback ≠ c.mainClosed then
      some (c.feedbackTimer.getD (now + Config.ms 200)) else none } := by
  simp only [Contactor.supervise, Bool.and_eq_true, Bool.not_eq_true', bne_iff_ne, and_assoc]
  split <;> rfl

/-- A state entered sets state and outputs, and the feedback timer by them (R140, R147). -/
theorem Contactor.enter_eq (c : Contactor) (st : ContactorState) (now : Nat) : c.enter st now = { c with
    state := st, mainClosed := st.main, prechargeClosed := st.precharge
    feedbackTimer := if c.fitted = true ∧ st.isFailed = false ∧ c.feedback ≠ st.main then
      some (c.feedbackTimer.getD (now + Config.ms 200)) else none } :=
  Contactor.supervise_eq _ now

/-- A FAILED string is not supervised (R147). -/
theorem Contactor.enter_failed_eq (c : Contactor) (r : ContactorFail) (now : Nat) : c.enter (.failed r) now = { c with
    state := .failed r, mainClosed := false, prechargeClosed := false, feedbackTimer := none } := by
  rw [Contactor.enter_eq, if_neg (by simp [ContactorState.isFailed])]
  rfl

/-! ### A contactor replaced -/

section

variable (s : State) (i : Fin 8) (c : Contactor)

theorem State.replaceContactor_frame : s.replaceContactor i c = { s with
    contactors := (s.replaceContactor i c).contactors, serving := (s.replaceContactor i c).serving
    attention := (s.replaceContactor i c).attention } := by
  rw [State.replaceContactor, State.raiseIf]
  split <;> rfl

@[simp] theorem State.replaceContactor_contactors : (s.replaceContactor i c).contactors = put s.contactors i c := by
  simp [State.replaceContactor]

/-- The path does not serve a string replaced in another state than PRECHARGING (R141). -/
theorem State.replaceContactor_serving (h : c.state.isPrecharging = false) :
    (s.replaceContactor i c).serving ≠ some i := by
  rw [State.replaceContactor, State.freePath_serving, servingAfter]
  intro e
  obtain ⟨-, he⟩ := Option.filter_eq_some_iff.1 e
  simp only [State.raiseIf_contactors, State.setContactor_contactors, Fin.getElem_fin, getElem_put_self, h,
    Bool.false_eq_true] at he

/-- An entry to FAILED sets the CONNECTION flag (R147). -/
theorem State.replaceContactor_flagged (hc : c.state.isFailed = true)
    (hs : s.contactors[i.val].state.isFailed = false) : (s.replaceContactor i c).flagged .connection = true := by
  have h : (c.state.isFailed && !s.contactors[i].state.isFailed) = true := by simp [hc, hs]
  exact (s.setContactor i c).raiseIf_flagged_self _ .connection h

end

/-! ### The timers -/

/-- The first two precharge failures open the string and start the retry delay (R143). -/
theorem Contactor.timeOut_retries {c : Contactor} (h : c.failures < 2) (now : Nat) :
    c.timeOut now = Contactor.enter
      { c with failures := c.failures + 1, retryEnd := some (now + Config.sec 30) } .opened now := by
  rw [Contactor.timeOut, if_pos (by omega)]
  rfl

/-- The third precharge failure makes the string FAILED (R143). -/
theorem Contactor.timeOut_fails {c : Contactor} (h : 2 ≤ c.failures) (now : Nat) :
    c.timeOut now = Contactor.enter { c with failures := 3, retryEnd := none } (.failed .precharge) now := by
  rw [Contactor.timeOut, if_neg (by omega)]

/-- A string whose precharge timed out is OPEN or FAILED, with both outputs open. -/
theorem Contactor.timeOut_rests (c : Contactor) (now : Nat) : AtRest (c.timeOut now) ∧
    (c.timeOut now).mainClosed = false ∧ (c.timeOut now).prechargeClosed = false := by
  rcases Nat.lt_or_ge c.failures 2 with h | h
  · rw [c.timeOut_retries h, Contactor.enter_eq]
    exact ⟨.inl rfl, rfl, rfl⟩
  · rw [c.timeOut_fails h, Contactor.enter_eq]
    exact ⟨.inr ⟨_, rfl⟩, rfl, rfl⟩

theorem prechargeTimeout_acts (s : State) (i : Fin 8) {e : Nat} (he : s.contactors[i.val].state = .precharging e) :
    Settles (.prechargeTimeout i) s (s.replaceContactor i ((s.contactors[i.val]).timeOut s.now)) := by
  refine settles_of_exec ?_
  show execPrechargeTimeout i s = _
  simp only [execPrechargeTimeout, Fin.getElem_fin, he]

theorem contactorFeedbackTimerEnd_acts (s : State) (i : Fin 8) (h : s.contactors[i.val].feedbackTimer.isSome = true) :
    Settles (.contactorFeedbackTimerEnd i) s
      (s.replaceContactor i ((s.contactors[i.val]).failFeedback s.now)) := by
  refine settles_of_exec ?_
  show execContactorFeedbackTimerEnd i s = _
  simp only [execContactorFeedbackTimerEnd, Fin.getElem_fin, h, if_true]

theorem prechargeRetryEnd_acts (s : State) (i : Fin 8) (h : s.contactors[i.val].retryEnd.isSome = true) :
    Settles (.prechargeRetryEnd i) s (s.setContactor i { s.contactors[i.val] with retryEnd := none }) := by
  refine settles_of_exec ?_
  show execPrechargeRetryEnd i s = _
  simp only [execPrechargeRetryEnd, Fin.getElem_fin, h, if_true]

theorem drainEnd_acts (s : State) (i : Fin 8) {e : Nat} (he : s.contactors[i.val].state = .draining e) :
    Settles (.drainEnd i) s (s.setContactor i ((s.contactors[i.val]).enter .opened s.now)) := by
  refine settles_of_exec ?_
  show execDrainEnd i s = _
  simp only [execDrainEnd, Fin.getElem_fin, he]

theorem mainFeedbackChange_acts (s : State) (i : Fin 8) {x : Bool} (h : x ≠ s.contactors[i.val].feedback) :
    exec (.mainFeedbackChange i x) s =
      .next (s.setContactor i (Contactor.supervise { s.contactors[i.val] with feedback := x } s.now)) := by
  show execMainFeedbackChange i x s = _
  simp only [execMainFeedbackChange, Fin.getElem_fin, if_neg h]

/-- Settles O42: each event at the record that it replaces, outputs and timer by the state entered. -/
theorem contactorTimersAndFeedback : Obligations.ContactorTimersAndFeedback := by
  intro s i
  refine ⟨fun e he => ?_, prechargeRetryEnd_acts s i, fun e he => ?_, fun x hx => ?_, fun ht => ?_⟩
  · obtain ⟨hrest, hm, hp⟩ := (s.contactors[i.val]).timeOut_rests s.now
    refine ⟨_, prechargeTimeout_acts s i he, s.replaceContactor_frame i _, fun j hj => ?_,
      s.replaceContactor_serving i _ (atRest_not_precharging hrest), ?_⟩
    · rw [State.replaceContactor_contactors]
      exact getElem_put_ne _ _ _ _ hj
    simp only [State.replaceContactor_contactors, Fin.getElem_fin, getElem_put_self]
    refine ⟨hm, hp, fun hf => ?_, fun hf => ?_⟩
    · rw [Contactor.timeOut_retries hf, Contactor.enter_eq]
      exact ⟨rfl, rfl, rfl⟩
    · have hst : ((s.contactors[i.val]).timeOut s.now).state.isFailed = true := by
        rw [Contactor.timeOut_fails hf, Contactor.enter_eq]
        rfl
      refine ⟨?_, ?_, ?_, s.replaceContactor_flagged i _ hst (by rw [Fin.getElem_fin] at he; rw [he]; rfl)⟩
      all_goals rw [Contactor.timeOut_fails hf, Contactor.enter_eq]
  · refine ⟨_, drainEnd_acts s i he, ?_, ?_⟩
    · rw [Contactor.enter_eq]
      rfl
    · rw [Contactor.enter_eq]
      simp [ContactorState.isFailed, ContactorState.main]
  · rw [mainFeedbackChange_acts s i hx, Contactor.supervise_eq]
    rfl
  · have hc : (s.contactors[i.val]).failFeedback s.now = { s.contactors[i.val] with
        state := .failed .feedback, retryEnd := none, mainClosed := false, prechargeClosed := false
        feedbackTimer := none } := by rw [Contactor.failFeedback, Contactor.enter_failed_eq]
    refine ⟨_, contactorFeedbackTimerEnd_acts s i ht, s.replaceContactor_frame i _, fun j hj => ?_,
      s.replaceContactor_serving i _ (by rw [hc]; rfl), ?_,
      fun hn => s.replaceContactor_flagged i _ (by rw [hc]; rfl) ?_⟩
    · rw [State.replaceContactor_contactors]
      exact getElem_put_ne _ _ _ _ hj
    · rw [State.replaceContactor_contactors, Fin.getElem_fin, getElem_put_self, hc]
      rfl
    · cases hst : s.contactors[i.val].state with
      | failed r => exact absurd hst (hn r)
      | opened | queued | precharging | closed | draining => rfl

end Sys2Proof.Machine
end

section
/-! SUPPORT. The Breaker Record in the states that it enters (R151, R153, R154, R157), and the record replaced (R158). -/

namespace Sys2Proof.Machine

open Sys2Proof Sys2Proof.Safety Sys2Proof.Claims

/-! ### States entered -/

section

variable (b : Breaker) (now : Nat)

theorem Breaker.enter_closing (e : Nat) : b.enter (.closing e) now = { b with
    state := .closing e, commandedClosed := true, closePulse := true, openPulse := false, feedbackTimer := none } := rfl

theorem Breaker.enter_opening (kind : OpeningKind) (e : Nat) : b.enter (.opening kind e) now = { b with
    state := .opening kind e, commandedClosed := false, closePulse := false, openPulse := true
    feedbackTimer := none } := rfl

theorem Breaker.enter_failed (r : BreakerFail) : b.enter (.failed r) now = { b with
    state := .failed r, commandedClosed := false, closePulse := false, openPulse := false
    feedbackTimer := none } := rfl

variable {b}

/-- CLOSED entered with the feedback closed: it agrees with the command, so no timer runs (R157). -/
theorem Breaker.enter_closed (h : b.feedback = true) : b.enter .closed now = { b with
    state := .closed, commandedClosed := true, closePulse := false, openPulse := false, feedbackTimer := none } := by
  simp only [Breaker.enter, Breaker.supervise, BreakerState.commandsClosed, h, if_true]

/-- The end of an opening entered with the feedback open: it agrees with the command, so no timer runs (R157). -/
theorem Breaker.enter_target (kind : OpeningKind) (h : b.feedback = false) : b.enter kind.target now = { b with
    state := kind.target, commandedClosed := false, closePulse := false, openPulse := false
    feedbackTimer := none } := by
  cases kind
  · simp only [Breaker.enter, Breaker.supervise, OpeningKind.target, BreakerState.commandsClosed, h, if_true]
  · rfl

variable (b)

/-- A closing: done at once where the feedback reads closed (R153). -/
theorem Breaker.close_eq : b.close now = { b with
    state := if b.feedback then .closed else .closing (now + Config.ms 300)
    commandedClosed := true, closePulse := !b.feedback, openPulse := false, feedbackTimer := none } := by
  cases h : b.feedback with
  | false =>
    simp only [Breaker.close, h, Breaker.enter_closing]
    rfl
  | true =>
    simp only [Breaker.close, h, if_true, Breaker.enter_closing]
    rw [Breaker.enter_closed now (by rfl)]
    rfl

/-- An opening: done at once where the feedback reads open (R154). -/
theorem Breaker.startOpening_eq (kind : OpeningKind) : b.startOpening kind now = { b with
    state := if b.feedback then .opening kind (now + Config.ms 300) else kind.target
    commandedClosed := false, closePulse := false, openPulse := b.feedback, feedbackTimer := none } := by
  cases h : b.feedback with
  | true =>
    simp only [Breaker.startOpening, h, if_true, Breaker.enter_opening]
    rfl
  | false =>
    simp only [Breaker.startOpening, h, Breaker.enter_opening, Bool.false_eq_true, if_false]
    rw [Breaker.enter_target now kind (by rfl)]

/-- A normal opening of a breaker that is commanded closed (R154). -/
theorem Breaker.openNormally_commanded (h : b.state.commandsClosed = true) :
    b.openNormally now = b.startOpening .normal now := by
  rw [Breaker.openNormally]
  cases hst : b.state with
  | closing e => rfl
  | closed => rfl
  | opened | opening | tripped | failed => rw [hst] at h; cases h

/-- A normal opening of any other breaker has no effect (R154). -/
theorem Breaker.openNormally_rests (h : b.state.commandsClosed = false) : b.openNormally now = b := by
  rw [Breaker.openNormally]
  cases hst : b.state with
  | closing e => rw [hst] at h; cases h
  | closed => rw [hst] at h; cases h
  | opened | opening | tripped | failed => rfl

/-- A normal opening of a breaker commanded closed, by its feedback (R154). -/
theorem Breaker.openNormally_spec (h : b.state.commandsClosed = true) :
    (b.openNormally now).commandedClosed = false ∧ (b.openNormally now).closePulse = false ∧
      (b.feedback = true → (b.openNormally now).state = .opening .normal (now + Config.ms 300) ∧
        (b.openNormally now).openPulse = true) ∧
      (b.feedback = false → (b.openNormally now).state = .opened ∧ (b.openNormally now).openPulse = false) := by
  rw [b.openNormally_commanded now h, Breaker.startOpening_eq]
  refine ⟨rfl, rfl, fun hf => ⟨?_, hf⟩, fun hf => ⟨?_, hf⟩⟩
  · exact if_pos hf
  · exact if_neg (by simp [hf])

end

/-! ### The record replaced -/

theorem State.setBreaker_eq (s : State) (b : Breaker) : s.setBreaker b =
    { s with breaker := (s.setBreaker b).breaker, attention := (s.setBreaker b).attention } := by
  obtain ⟨_, _, e⟩ := s.setBreaker_frame b
  rw [e]

/-- A breaker replaced by one whose state has the same number raises nothing (R158). -/
theorem State.setBreaker_quiet {s : State} {b : Breaker} (h : b.state.code = s.breaker.state.code) :
    s.setBreaker b = { s with breaker := b } := by
  rw [State.setBreaker, h, bne_self_eq_false]
  rfl

/-- A breaker replaced by one whose state has another number sets the CONNECTION flag (R158). -/
theorem State.setBreaker_flagged {s : State} {b : Breaker} (h : b.state.code ≠ s.breaker.state.code) :
    (s.setBreaker b).flagged .connection = true :=
  State.raiseIf_flagged_self _ _ _ (bne_iff_ne.2 h)

/-- A normal opening of a breaker that is not commanded closed has no effect. -/
theorem State.openBreaker_rests {s : State} (h : s.breaker.state.commandsClosed = false) : s.openBreaker = s := by
  rw [State.openBreaker, Breaker.openNormally_rests _ _ h, State.setBreaker_quiet rfl]

theorem State.closeBreaker_breaker (s : State) : s.closeBreaker.breaker = s.breaker.close s.now :=
  State.setBreaker_breaker _ _

theorem State.openBreaker_breaker (s : State) : s.openBreaker.breaker = s.breaker.openNormally s.now :=
  State.setBreaker_breaker _ _

end Sys2Proof.Machine
end

section
/-! PROOF. The orders of the Connection Sequencer by the states of breaker and contactors (O21). -/

namespace Sys2Proof.Machine

open Sys2Proof Sys2Proof.Safety Sys2Proof.Claims

/-! ### Results -/

theorem BreakerState.code_lt (st : BreakerState) : st.code < 8 := by
  cases st <;> simp [BreakerState.code]

theorem ContactorState.code_lt (st : ContactorState) : st.code < 8 := by
  cases st <;> simp [ContactorState.code]

theorem Breaker.stateWords_eq (b : Breaker) : b.stateWords = BitVec.ofNat 16 b.state.code :: List.replicate 6 0 :=
  pack_three b.state.code_lt

theorem Contactor.stateWords_eq (c : Contactor) : c.stateWords = BitVec.ofNat 16 c.state.code :: List.replicate 6 0 :=
  pack_three c.state.code_lt

/-! ### The breaker's orders -/

theorem closeBreaker_refused {s : State} {code : RefCode}
    (h : ownerCloseBreaker s = (s, refuse code)) : Refused .closeBreaker s code := refused_of_owner rfl h

theorem closeBreaker_state {s : State} (h : s.breaker.state = .closed ∨ s.breaker.state = .tripped ∨
    (∃ k e, s.breaker.state = .opening k e) ∨ ∃ r, s.breaker.state = .failed r) : Refused .closeBreaker s .state := by
  refine closeBreaker_refused ?_
  rcases h with h | h | ⟨k, e, h⟩ | ⟨r, h⟩ <;> simp only [ownerCloseBreaker, h]

theorem closeBreaker_closes {s : State} (h : s.breaker.state = .opened) (hc : s.connectLive = true) :
    Answers .closeBreaker s s.closeBreaker ⟨none, 1 :: List.replicate 6 0⟩ := by
  refine answers_of_owner rfl ?_ (State.setBreaker_runner _ _)
  simp only [ownerCloseBreaker, h, hc, if_true, done]
  rw [pack_three (by decide)]
  rfl

/-- A closing from OPEN changes the state's number (R158). -/
theorem State.closeBreaker_flagged {s : State} (h : s.breaker.state = .opened) :
    s.closeBreaker.flagged .connection = true := by
  refine State.setBreaker_flagged ?_
  rw [Breaker.close_eq, h]
  cases s.breaker.feedback
  · exact Nat.succ_ne_zero _
  · exact Nat.succ_ne_zero _

theorem openBreaker_answers (s : State) : Answers .openBreaker s s.openBreaker
    ⟨none, BitVec.ofNat 16 s.openBreaker.breaker.state.code :: List.replicate 6 0⟩ := by
  refine answers_of_owner rfl ?_ (State.setBreaker_runner _ _)
  rw [ownerOpenBreaker, Breaker.stateWords_eq, done]

theorem resetBreaker_refused {s : State} (h : (s.breaker.state = .tripped ∨ (∃ r, s.breaker.state = .failed r)) ∧
    s.breaker.feedback = true ∨ s.breaker.state = .opened ∨ s.breaker.state = .closed ∨
    (∃ e, s.breaker.state = .closing e) ∨ ∃ k e, s.breaker.state = .opening k e) : Refused .resetBreaker s .state := by
  refine refused_of_owner (owner := ownerResetBreaker) rfl ?_
  rcases h with ⟨h | ⟨r, h⟩, hf⟩ | h | h | ⟨e, h⟩ | ⟨k, e, h⟩
  · simp only [ownerResetBreaker, h, hf, if_true]
  · simp only [ownerResetBreaker, h, hf, if_true]
  all_goals simp only [ownerResetBreaker, h]

theorem resetBreaker_resets {s : State} (h : s.breaker.state = .tripped ∨ ∃ r, s.breaker.state = .failed r)
    (hf : s.breaker.feedback = false) :
    Answers .resetBreaker s (s.setBreaker (s.breaker.enter .opened s.now)) ⟨none, List.replicate 7 0⟩ := by
  refine answers_of_owner rfl ?_ (State.setBreaker_runner _ _)
  have hw : (s.setBreaker (s.breaker.enter .opened s.now)).breaker.stateWords = List.replicate 7 0 := by
    rw [State.setBreaker_breaker, Breaker.stateWords_eq, (Breaker.enter_spec _ _ _).1]
    rfl
  rcases h with h | ⟨r, h⟩ <;> simp only [ownerResetBreaker, h, hf, Bool.false_eq_true, if_false, hw, done]

/-! ### CLEAR-CONTACTOR -/

theorem clearContactor_field {s : State} {string : Word} (h : 7 < string.toNat) :
    Refused (.clearContactor string) s .field := by
  refine refused_of_owner (owner := ownerClearContactor string) rfl ?_
  rw [ownerClearContactor, stringOf_none h]

theorem clearContactor_state {s : State} {string : Word} {i : Fin 8} (hi : string.toNat = i.val)
    (h : (∀ r, s.contactors[i.val].state ≠ .failed r) ∨ s.contactors[i.val].feedback = true) :
    RefusedWith (.clearContactor string) s .state
      (BitVec.ofNat 16 s.contactors[i.val].state.code :: List.replicate 6 0) := by
  refine answers_of_owner (owner := ownerClearContactor string) rfl ?_ rfl
  have hn : (s.contactors[i.val].state.isFailed && !s.contactors[i.val].feedback) = false := by
    rcases h with h | h
    · cases hst : s.contactors[i.val].state with
      | failed r => exact absurd hst (h r)
      | opened | queued | precharging | closed | draining => rfl
    · rw [h, Bool.not_true, Bool.and_false]
  simp only [ownerClearContactor, stringOf_eq hi, Fin.getElem_fin, hn, Bool.false_eq_true, if_false,
    Contactor.stateWords_eq, refuseWith]

/-- A FAILED string with its feedback open is OPEN after CLEAR-CONTACTOR, and not supervised (R147, R148). -/
theorem Contactor.cleared_eq {c : Contactor} (h : c.feedback = false) (now : Nat) : c.cleared now = { c with
    state := .opened, failures := 0, retryEnd := none, mainClosed := false, prechargeClosed := false
    feedbackTimer := none } := by
  rw [Contactor.cleared, Contactor.enter_eq, if_neg (by simp [h, ContactorState.main])]
  rfl

theorem clearContactor_clears {s : State} {string : Word} {i : Fin 8} {r : ContactorFail} (hi : string.toNat = i.val)
    (h : s.contactors[i.val].state = .failed r) (hf : s.contactors[i.val].feedback = false) :
    let t := (s.setContactor i ((s.contactors[i.val]).cleared s.now)).settle
    SettledFrom s t ∧ Answers (.clearContactor string) s t
      ⟨none, BitVec.ofNat 16 t.contactors[i.val].state.code :: List.replicate 6 0⟩ := by
  have hset : SettledFrom s (s.setContactor i ((s.contactors[i.val]).cleared s.now)).settle :=
    settledFrom_settle (settledFrom_of_blocks rfl)
  refine ⟨hset, answers_of_owner rfl ?_ (by obtain ⟨-, -, -, -, -, e, -⟩ := hset; exact e)⟩
  simp only [ownerClearContactor, stringOf_eq hi, Fin.getElem_fin, h, hf, ContactorState.isFailed, Bool.not_false,
    Bool.and_self, if_true, Contactor.stateWords_eq, done]

/-- Settles O21: each order's owner by the state it finds. -/
theorem connectionOrdersByState : Obligations.ConnectionOrdersByState := by
  refine ⟨fun s => ⟨fun ⟨e, h⟩ => closeBreaker_refused (by simp only [ownerCloseBreaker, h]), closeBreaker_state,
    fun h => ⟨fun hn => closeBreaker_refused ?_, fun hc => ?_⟩, ?_,
    fun h => ⟨fun hf => resetBreaker_refused (.inl ⟨h, hf⟩),
      fun hf => ⟨_, resetBreaker_resets h hf, s.setBreaker_eq _, ?_⟩⟩, fun h => resetBreaker_refused (.inr h)⟩,
    fun s string => ⟨clearContactor_field, fun i hi => ⟨clearContactor_state hi, fun r h hf => ?_⟩⟩⟩
  · have hl : s.connectLive = false := by rwa [← Bool.not_eq_true, State.connectLive_iff]
    simp only [ownerCloseBreaker, h, hl, Bool.false_eq_true, if_false]
  · refine ⟨_, closeBreaker_closes h (State.connectLive_iff.2 hc), s.setBreaker_eq _, s.closeBreaker_flagged h, ?_⟩
    rw [State.closeBreaker_breaker, Breaker.close_eq]
    refine ⟨rfl, ?_⟩
    cases s.breaker.feedback
    · exact ⟨rfl, rfl⟩
    · exact ⟨rfl, rfl⟩
  · refine ⟨_, openBreaker_answers s, s.setBreaker_eq _, State.openBreaker_rests, fun h => ?_⟩
    rw [State.openBreaker_breaker]
    obtain ⟨hc, hp, hclosed, hopen⟩ := s.breaker.openNormally_spec s.now h
    refine ⟨hc, hp, ?_⟩
    cases hf : s.breaker.feedback
    · exact hopen hf
    · exact hclosed hf
  · rw [State.setBreaker_breaker]
    have he := Breaker.enter_target (b := s.breaker) s.now .normal hf
    rw [show OpeningKind.target .normal = .opened from rfl] at he
    rw [he]
    exact ⟨rfl, rfl, rfl⟩
  · obtain ⟨hset, hans⟩ := clearContactor_clears hi h hf
    exact ⟨_, _, Contactor.cleared_eq hf s.now, rfl, hset, hans⟩

end Sys2Proof.Machine
end

section
/-! PROOF. The breaker's feedback, window and feedback timer, the grid-healthy line and the reconnect delay (O45). -/

namespace Sys2Proof.Machine

open Sys2Proof Sys2Proof.Safety Sys2Proof.Claims

/-! ### Supervision and feedback -/

section

variable (b : Breaker) (now : Nat)

/-- Supervision sets the feedback timer alone (R157). -/
theorem Breaker.supervise_eq : b.supervise now = { b with feedbackTimer := (b.supervise now).feedbackTimer } := by
  simp only [Breaker.supervise]
  split
  · split <;> rfl
  · split <;> rfl
  · rfl

/-- In OPEN and CLOSED the timer runs while the feedback disagrees with the command (R157). -/
theorem Breaker.supervise_timer (h : b.state = .opened ∨ b.state = .closed) : (b.supervise now).feedbackTimer =
    if b.feedback = b.commandedClosed then none else some (b.feedbackTimer.getD (now + Config.ms 300)) := by
  rcases h with h | h <;> simp only [Breaker.supervise, h] <;> split <;> rfl

/-- TRIPPED and FAILED are not supervised (R157). -/
theorem Breaker.supervise_idle (h : b.state = .tripped ∨ ∃ r, b.state = .failed r) :
    (b.supervise now).feedbackTimer = none := by
  rcases h with h | ⟨r, h⟩ <;> simp only [Breaker.supervise, h]

/-- What neither a state entered nor supervision changes in a Breaker Record. -/
structure Breaker.Beside (b c : Breaker) : Prop where
  feedback : c.feedback = b.feedback
  grid : c.grid = b.grid
  armed : c.armed = b.armed
  reconnectEnd : c.reconnectEnd = b.reconnectEnd
  gridAvailable : c.gridAvailable = b.gridAvailable

theorem Breaker.supervise_beside : b.Beside (b.supervise now) := by
  rw [Breaker.supervise_eq]
  exact ⟨rfl, rfl, rfl, rfl, rfl⟩

theorem Breaker.enter_beside (st : BreakerState) : b.Beside (b.enter st now) := by
  unfold Breaker.enter
  rw [Breaker.supervise_eq]
  exact ⟨rfl, rfl, rfl, rfl, rfl⟩

theorem Breaker.openNormally_beside : b.Beside (b.openNormally now) := by
  cases h : b.state.commandsClosed with
  | false => rw [b.openNormally_rests now h]; exact ⟨rfl, rfl, rfl, rfl, rfl⟩
  | true =>
    rw [b.openNormally_commanded now h, Breaker.startOpening_eq]
    exact ⟨rfl, rfl, rfl, rfl, rfl⟩

theorem Breaker.close_beside : b.Beside (b.close now) := by
  rw [Breaker.close_eq]
  exact ⟨rfl, rfl, rfl, rfl, rfl⟩

/-- A feedback taken changes nothing beside it but by the state that it enters. -/
theorem Breaker.takeFeedback_beside (x : Bool) : Breaker.Beside { b with feedback := x } (b.takeFeedback x now) := by
  simp only [Breaker.takeFeedback]
  split
  · exact Breaker.enter_beside _ _ _
  · exact Breaker.enter_beside _ _ _
  · exact Breaker.supervise_beside _ _

/-- The feedback closed ends CLOSING in CLOSED (R153). -/
theorem Breaker.takeFeedback_closing {e : Nat} (h : b.state = .closing e) : b.takeFeedback true now = { b with
    feedback := true, state := .closed, commandedClosed := true, closePulse := false, openPulse := false
    feedbackTimer := none } := by
  simp only [Breaker.takeFeedback, h]
  exact Breaker.enter_closed (b := { b with feedback := true }) now rfl

/-- The feedback open ends OPENING in its target (R154). -/
theorem Breaker.takeFeedback_opening {k : OpeningKind} {e : Nat} (h : b.state = .opening k e) :
    b.takeFeedback false now = { b with
      feedback := false, state := k.target, commandedClosed := false, closePulse := false, openPulse := false
      feedbackTimer := none } := by
  simp only [Breaker.takeFeedback, h]
  exact Breaker.enter_target (b := { b with feedback := false }) now k rfl

/-- In every other state a feedback taken is supervised alone (R157). -/
theorem Breaker.takeFeedback_calm (x : Bool) (h : b.state = .opened ∨ b.state = .closed ∨ b.state = .tripped ∨
    ∃ r, b.state = .failed r) : b.takeFeedback x now = Breaker.supervise { b with feedback := x } now := by
  rcases h with h | h | h | ⟨r, h⟩ <;> simp only [Breaker.takeFeedback, h]

end

theorem breakerFeedbackChange_acts {s : State} {x : Bool} (h : x ≠ s.breaker.feedback) :
    exec (.breakerFeedbackChange x) s = .next (s.setBreaker (s.breaker.takeFeedback x s.now)) := by
  show execBreakerFeedbackChange x s = _
  rw [execBreakerFeedbackChange, if_neg h]

/-- The state in which a feedback taken in OPEN, CLOSED, TRIPPED or FAILED leaves the breaker, and its timer. -/
theorem State.takeFeedback_calm {s : State} (x : Bool) (h : s.breaker.state = .opened ∨ s.breaker.state = .closed ∨
    s.breaker.state = .tripped ∨ ∃ r, s.breaker.state = .failed r) :
    s.setBreaker (s.breaker.takeFeedback x s.now) =
      { s with breaker := Breaker.supervise { s.breaker with feedback := x } s.now } := by
  rw [Breaker.takeFeedback_calm _ _ _ h, State.setBreaker_quiet (by rw [Breaker.supervise_state])]

theorem breakerWindowEnd_acts {s : State}
    (h : (∃ e, s.breaker.state = .closing e) ∨ ∃ k e, s.breaker.state = .opening k e) :
    exec .breakerWindowEnd s = .next (s.setBreaker (s.breaker.enter
      (.failed (if s.breaker.state.commandsClosed then .close else .opening)) s.now)) := by
  show execBreakerWindowEnd s = _
  rcases h with ⟨e, h⟩ | ⟨k, e, h⟩ <;>
    simp only [execBreakerWindowEnd, h, BreakerState.commandsClosed, Bool.false_eq_true, if_true, if_false]

/-- A breaker that enters FAILED from another state sets the CONNECTION flag (R158). -/
theorem State.failBreaker_flagged {s : State} (r : BreakerFail) (h : ∀ r, s.breaker.state ≠ .failed r) :
    (s.setBreaker (s.breaker.enter (.failed r) s.now)).flagged .connection = true := by
  refine State.setBreaker_flagged ?_
  rw [Breaker.enter_failed]
  cases hst : s.breaker.state with
  | failed r => exact absurd hst (h r)
  | opened | closing | closed | opening | tripped => simp [BreakerState.code]

theorem breakerFeedbackTimerEnd_acts {s : State} (h : s.breaker.feedbackTimer.isSome = true) :
    exec .breakerFeedbackTimerEnd s = .next (s.setBreaker (s.breaker.enter (.failed .feedback) s.now)) := by
  show execBreakerFeedbackTimerEnd s = _
  rw [execBreakerFeedbackTimerEnd, if_pos h]

/-- What a change of the breaker's feedback does, by the breaker's state. -/
theorem breakerFeedback_spec (s : State) (x : Bool) (hx : x ≠ s.breaker.feedback) :
    ∃ t, exec (.breakerFeedbackChange x) s = .next t ∧
      t = { s with breaker := t.breaker, attention := t.attention } ∧ t.breaker.feedback = x ∧
      t.breaker.grid = s.breaker.grid ∧ t.breaker.armed = s.breaker.armed ∧
      t.breaker.reconnectEnd = s.breaker.reconnectEnd ∧ t.breaker.gridAvailable = s.breaker.gridAvailable ∧
      ((∃ e, s.breaker.state = .closing e) → x = true → t.breaker.state = .closed ∧ t.breaker.commandedClosed = true ∧
        t.breaker.closePulse = false ∧ t.breaker.feedbackTimer = none ∧ t.flagged .connection = true) ∧
      (∀ k e, s.breaker.state = .opening k e → x = false →
        t.breaker.state = (if k = .trip then .tripped else .opened) ∧ t.breaker.commandedClosed = false ∧
        t.breaker.openPulse = false ∧ t.breaker.feedbackTimer = none ∧ t.flagged .connection = true) ∧
      (s.breaker.state = .opened ∨ s.breaker.state = .closed →
        t.breaker.state = s.breaker.state ∧ t.attention = s.attention ∧
        t.breaker.feedbackTimer = (if x = s.breaker.commandedClosed then none else
          some (s.breaker.feedbackTimer.getD (s.now + Config.ms 300)))) ∧
      (s.breaker.state = .tripped ∨ (∃ r, s.breaker.state = .failed r) →
        t.breaker.state = s.breaker.state ∧ t.attention = s.attention ∧ t.breaker.feedbackTimer = none) := by
  obtain ⟨hf, hg, ha, hr, hv⟩ := s.breaker.takeFeedback_beside s.now x
  refine ⟨_, breakerFeedbackChange_acts hx, s.setBreaker_eq _, ?_⟩
  rw [State.setBreaker_breaker]
  refine ⟨hf, hg, ha, hr, hv, ?_, ?_, fun h => ?_, fun h => ?_⟩
  · rintro ⟨e, h⟩ rfl
    rw [Breaker.takeFeedback_closing _ _ h]
    exact ⟨rfl, rfl, rfl, rfl, State.setBreaker_flagged (by rw [h]; simp [BreakerState.code])⟩
  · rintro k e h rfl
    rw [Breaker.takeFeedback_opening _ _ h]
    refine ⟨by cases k <;> rfl, rfl, rfl, rfl, State.setBreaker_flagged ?_⟩
    rw [h]
    cases k <;> simp [BreakerState.code, OpeningKind.target]
  · rw [State.takeFeedback_calm x (h.imp_right .inl), Breaker.takeFeedback_calm _ _ _ (h.imp_right .inl),
      Breaker.supervise_state, Breaker.supervise_timer { s.breaker with feedback := x } s.now h]
    exact ⟨rfl, rfl, rfl⟩
  · rw [State.takeFeedback_calm x (.inr (.inr h)), Breaker.takeFeedback_calm _ _ _ (.inr (.inr h)),
      Breaker.supervise_state, Breaker.supervise_idle { s.breaker with feedback := x } s.now h]
    exact ⟨rfl, rfl, rfl⟩

/-! ### The grid falls -/

/-- A record under the fall of the grid other than a LIVE CONNECT stands (R23). -/
theorem Permit.gridFall_stands {p : Permit} (h : ¬(p.kind = .connect ∧ p.state = .live)) : p.gridFall = p := if_neg h

theorem Permit.gridFall_connect {p : Permit} (h : p.kind = .connect ∧ p.state = .live) :
    p.gridFall = { p with state := .suspended, reason := some .grid, changed := true } := if_pos h

/-- A CONNECT suspended sets the PERMIT flag (R23, R35). -/
theorem State.suspendConnect_flagged {s : State} {i : Fin 48} {p : Permit} (hp : Holds s i p)
    (hc : p.kind = .connect ∧ p.state = .live) : s.suspendConnect.flagged .permit = true := by
  have hfold : Holds s.suspendConnect i p ∨ s.suspendConnect.flagged .permit = true := by
    refine foldl_keeps (fun t => Holds t i p ∨ t.flagged .permit = true) _ (fun t j ht => ?_) allSlots s (.inl hp)
    split
    · split
      · exact .inr (State.raise_flagged_self _ _)
      · exact ht
    · exact ht
  refine hfold.resolve_left fun h => ?_
  have h' := s.suspendConnect_updates.holds hp
  rw [Holds] at h h'
  rw [h, Permit.gridFall_connect hc] at h'
  have hs : p.state = .suspended := by rw [Option.some.inj h']
  rw [hc.2] at hs
  cases hs

/-- A slot under a function that fixes its record stands. -/
theorem State.SlotsUpdate.stands {s t : State} {f : Fin 48 → Permit → Permit} (h : s.SlotsUpdate f t) {i : Fin 48}
    (hf : ∀ p, Holds s i p → f i p = p) : t.slots[i.val] = s.slots[i.val] := by
  rw [h i]
  exact Slot.update_of_fixed hf

theorem State.gridFalls_updates (s : State) : s.SlotsUpdate (fun _ => Permit.gridFall) s.gridFalls :=
  (State.SlotsUpdate.of_eq (by simp)).trans (State.suspendConnect_updates (s.setReconnect none false).openBreaker)

theorem State.gridFalls_breaker (s : State) : s.gridFalls.breaker =
    Breaker.openNormally { s.breaker with reconnectEnd := none, gridAvailable := false } s.now := by
  rw [State.gridFalls, State.suspendConnect_breaker, State.openBreaker_breaker]
  rfl

theorem State.gridFalls_frame (s : State) : s.gridFalls = { s with
    breaker := s.gridFalls.breaker, slots := s.gridFalls.slots, attention := s.gridFalls.attention } := by
  obtain ⟨_, _, e⟩ := (s.setReconnect none false).openBreaker.suspendConnect_frame
  obtain ⟨_, _, e'⟩ := (s.setReconnect none false).setBreaker_frame
    ((s.setReconnect none false).breaker.openNormally (s.setReconnect none false).now)
  rw [State.gridFalls, e, State.openBreaker, e']
  rfl

theorem gridHealthyTaken_falls {s : State} {x : Candidate Bool} (hx : s.breaker.grid.candidate = some x)
    (hl : x.level = false) (ht : s.breaker.grid.taken = true) :
    Settles .gridHealthyTaken s (s.setGrid ⟨false, none⟩).gridFalls := by
  refine settles_of_exec ?_
  show execGridHealthyTaken s = _
  simp only [execGridHealthyTaken, hx, hl, ht, Bool.false_eq_true, if_false, Conditioned.take, Conditioned.level]

/-- What UNHEALTHY taken does before the event settles. -/
theorem State.gridFalls_spec (s : State) :
    let u := s.gridFalls
    u.breaker.grid = s.breaker.grid ∧ u.breaker.reconnectEnd = none ∧ u.breaker.gridAvailable = false ∧
      (s.breaker.state.commandsClosed = true → u.breaker.commandedClosed = false ∧ u.breaker.closePulse = false ∧
        (s.breaker.feedback = true →
          u.breaker.state = .opening .normal (s.now + Config.ms 300) ∧ u.breaker.openPulse = true) ∧
        (s.breaker.feedback = false → u.breaker.state = .opened ∧ u.breaker.openPulse = false)) ∧
      (s.breaker.state.commandsClosed = false → u.breaker.state = s.breaker.state ∧
        u.breaker.commandedClosed = s.breaker.commandedClosed ∧ u.breaker.openPulse = s.breaker.openPulse) ∧
      (∀ i : Fin 48, s.slots[i].permit = none → u.slots[i] = s.slots[i]) ∧
      ∀ i p, Holds s i p →
        (p.kind = .connect ∧ p.state = .live →
          Holds u i { p with state := .suspended, reason := some .grid, changed := true } ∧
            u.flagged .permit = true) ∧
        (¬(p.kind = .connect ∧ p.state = .live) → u.slots[i] = s.slots[i]) := by
  intro u
  have hu := s.gridFalls_updates
  have hb : Breaker.Beside { s.breaker with reconnectEnd := none, gridAvailable := false } u.breaker := by
    rw [s.gridFalls_breaker]
    exact Breaker.openNormally_beside _ _
  refine ⟨hb.grid, hb.reconnectEnd, hb.gridAvailable, fun h => ?_, fun h => ?_, fun i hn => ?_, fun i p hp =>
    ⟨fun hc => ⟨?_, ?_⟩, fun hc => ?_⟩⟩
  · rw [s.gridFalls_breaker]
    exact Breaker.openNormally_spec { s.breaker with reconnectEnd := none, gridAvailable := false } s.now h
  · rw [s.gridFalls_breaker,
      Breaker.openNormally_rests { s.breaker with reconnectEnd := none, gridAvailable := false } s.now h]
    exact ⟨rfl, rfl, rfl⟩
  · exact hu.stands fun p hp => by rw [Holds, hn] at hp; cases hp
  · rw [← Permit.gridFall_connect hc]
    exact hu.holds hp
  · have hp' : Holds (s.setReconnect none false).openBreaker i p := (Holds.congr (State.setBreaker_slots _ _)).2 hp
    exact State.suspendConnect_flagged hp' hc
  · refine hu.stands fun q hq => Permit.gridFall_stands ?_
    rw [Holds, hp] at hq
    cases hq
    exact hc

/-! ### The grid returns -/

/-- A CONNECT that the return of the grid resumes (R23). -/
def Permit.AwaitsGrid (p : Permit) : Prop := p.kind = .connect ∧ p.state = .suspended ∧ p.reason = some .grid

theorem Permit.gridReturn_stands {p : Permit} (h : ¬p.AwaitsGrid) : p.gridReturn = p := if_neg h

theorem Permit.gridReturn_awaits {p : Permit} (h : p.AwaitsGrid) :
    p.gridReturn = { p with state := .live, reason := none, changed := true } := if_pos h

/-- The breaker after the resumption of a CONNECT with an auto-reclose flag (R156). -/
def Breaker.resumed (b : Breaker) (autoReclose : Bool) (now : Nat) : Breaker :=
  if autoReclose = true ∧ b.state = .opened then Breaker.close { b with armed := true } now
  else { b with armed := autoReclose }

/-- One turn of the resumption at a CONNECT that awaits the grid. -/
def State.resumeTurn (t : State) (i : Fin 48) (p : Permit) : State :=
  let u := ((t.setPermit i p.gridBack).raise .permit).arm p.autoReclose
  if p.autoReclose && u.breaker.state == .opened then u.closeBreaker else u

theorem State.resumeTurn_slots (t : State) (i : Fin 48) (p : Permit) :
    (t.resumeTurn i p).slots = (t.setPermit i p.gridBack).slots := by
  rw [State.resumeTurn]
  split
  · rw [State.closeBreaker, State.setBreaker_slots]; rfl
  · rfl

theorem State.resumeTurn_breaker (t : State) (i : Fin 48) (p : Permit) :
    (t.resumeTurn i p).breaker = t.breaker.resumed p.autoReclose t.now := by
  rw [State.resumeTurn, Breaker.resumed]
  cases hr : p.autoReclose with
  | false => rfl
  | true =>
    by_cases ho : t.breaker.state = .opened
    · have ho' : (((t.setPermit i p.gridBack).raise .permit).arm true).breaker.state = .opened := ho
      simp only [ho', ho, Bool.true_and, beq_self_eq_true, if_true, and_self, State.closeBreaker_breaker]
      rfl
    · have ho' : (((t.setPermit i p.gridBack).raise .permit).arm true).breaker.state ≠ .opened := ho
      simp only [ho, and_false, if_false, Bool.true_and, beq_eq_false_iff_ne.2 ho', Bool.false_eq_true]
      rfl

theorem State.resumeTurn_flagged (t : State) (i : Fin 48) (p : Permit) :
    (t.resumeTurn i p).flagged .permit = true := by
  have h : (((t.setPermit i p.gridBack).raise .permit).arm p.autoReclose).flagged .permit = true :=
    State.raise_flagged_self _ _
  rw [State.resumeTurn]
  split
  · exact (State.setBreaker_announces _ _).flags .permit h
  · exact h

/-- What every turn of the resumption at a CONNECT that awaits the grid keeps holds after the resumption. -/
theorem State.resumeConnect_keeps (P : State → Prop) (s : State) (hs : P s)
    (h : ∀ t j q, P t → Holds t j q → q.AwaitsGrid → P (t.resumeTurn j q)) : P s.resumeConnect := by
  refine foldl_keeps P _ (fun t j ht => ?_) allSlots s hs
  split
  · next q hq =>
    split
    · next hc => exact h t j q ht hq hc
    · exact ht
  · exact ht

theorem Breaker.resumed_reconnect (b : Breaker) (autoReclose : Bool) (now : Nat) :
    (b.resumed autoReclose now).reconnectEnd = b.reconnectEnd ∧
      (b.resumed autoReclose now).gridAvailable = b.gridAvailable ∧
      (b.resumed autoReclose now).armed = autoReclose := by
  rw [Breaker.resumed]
  split
  · next h =>
    have hb := Breaker.close_beside { b with armed := true } now
    exact ⟨hb.reconnectEnd, hb.gridAvailable, hb.armed.trans h.1.symm⟩
  · exact ⟨rfl, rfl, rfl⟩

theorem State.resumeConnect_reconnect (s : State) : s.resumeConnect.breaker.reconnectEnd = s.breaker.reconnectEnd ∧
    s.resumeConnect.breaker.gridAvailable = s.breaker.gridAvailable := by
  refine s.resumeConnect_keeps (fun t => t.breaker.reconnectEnd = s.breaker.reconnectEnd ∧
    t.breaker.gridAvailable = s.breaker.gridAvailable) ⟨rfl, rfl⟩ fun t j q ⟨hr, hg⟩ _ _ => ?_
  obtain ⟨er, eg, -⟩ := t.breaker.resumed_reconnect q.autoReclose t.now
  rw [State.resumeTurn_breaker]
  exact ⟨er.trans hr, eg.trans hg⟩

/-- Without a CONNECT that awaits the grid nothing is resumed. -/
theorem State.resumeConnect_idle {s : State} (h : ∀ i p, Holds s i p → ¬p.AwaitsGrid) : s.resumeConnect = s :=
  s.resumeConnect_keeps (· = s) rfl fun _ j q ht hq hc => absurd hc (h j q (ht ▸ hq))

/-- A CONNECT resumed sets the PERMIT flag (R23, R35). -/
theorem State.resumeConnect_flagged {s : State} {i : Fin 48} {p : Permit} (hp : Holds s i p) (hc : p.AwaitsGrid) :
    s.resumeConnect.flagged .permit = true := by
  have hfold : Holds s.resumeConnect i p ∨ s.resumeConnect.flagged .permit = true :=
    s.resumeConnect_keeps (fun t => Holds t i p ∨ t.flagged .permit = true) (.inl hp)
      fun t j q _ _ _ => .inr (t.resumeTurn_flagged j q)
  refine hfold.resolve_left fun h => ?_
  have h' := s.resumeConnect_updates.holds hp
  rw [Holds] at h h'
  rw [h, Permit.gridReturn_awaits hc] at h'
  have hs : p.state = .live := by rw [Option.some.inj h']
  rw [hc.2.1] at hs
  cases hs

/-- The only CONNECT that awaits the grid decides what becomes of the breaker (R156). -/
theorem State.resumeConnect_breaker_of_only {s : State} {i : Fin 48} {p : Permit} (hp : Holds s i p)
    (hc : p.AwaitsGrid) (hone : ∀ j q, Holds s j q → q.AwaitsGrid → j = i) :
    s.resumeConnect.breaker = s.breaker.resumed p.autoReclose s.now := by
  have hfold := s.resumeConnect_keeps (fun t => (t.slots = s.slots ∧ t.breaker = s.breaker ∧ t.now = s.now) ∨
      (t.slots = (s.setPermit i p.gridBack).slots ∧ t.breaker = s.breaker.resumed p.autoReclose s.now))
    (.inl ⟨rfl, rfl, rfl⟩) fun t j q ht hq hcq => ?_
  · rcases hfold with ⟨hs, -, -⟩ | ⟨-, hb⟩
    · have h' := s.resumeConnect_updates.holds hp
      rw [Holds, hs] at h'
      rw [Holds] at hp
      rw [hp, Permit.gridReturn_awaits hc] at h'
      have hst : p.state = .live := by rw [Option.some.inj h']
      rw [hc.2.1] at hst
      cases hst
    · exact hb
  · rcases ht with ⟨hs, hb, hn⟩ | ⟨hs, -⟩
    · rw [Holds.congr hs] at hq
      obtain rfl := hone j q hq hcq
      rw [Holds] at hp hq
      rw [hp] at hq
      cases hq
      refine .inr ⟨?_, by rw [State.resumeTurn_breaker, hb, hn]⟩
      rw [State.resumeTurn_slots, State.setPermit_slots, State.setPermit_slots, hs]
    · rw [Holds.congr hs, State.setPermit_holds] at hq
      split at hq
      · rw [hq] at hcq
        cases hcq.2.1
      · next hj => exact absurd (hone j q hq hcq) hj

theorem State.resumed_frame (s : State) : (s.setReconnect none true).resumeConnect = { s with
    breaker := (s.setReconnect none true).resumeConnect.breaker
    slots := (s.setReconnect none true).resumeConnect.slots
    attention := (s.setReconnect none true).resumeConnect.attention } := by
  obtain ⟨_, _, _, e⟩ := (s.setReconnect none true).resumeConnect_frame
  rw [e]
  rfl

theorem reconnectDelayEnd_acts {s : State} (h : s.breaker.reconnectEnd.isSome = true) :
    Settles .reconnectDelayEnd s (s.setReconnect none true).resumeConnect := by
  refine settles_of_exec ?_
  show execReconnectDelayEnd s = _
  rw [execReconnectDelayEnd, if_pos h]

/-- What the breaker is commanded to by a resumption. -/
theorem Breaker.resumed_spec (b : Breaker) (autoReclose : Bool) (now : Nat) :
    (autoReclose = true → b.state = .opened → (b.resumed autoReclose now).commandedClosed = true ∧
      (b.resumed autoReclose now).state = if b.feedback then .closed else .closing (now + Config.ms 300)) ∧
    (autoReclose = false ∨ b.state ≠ .opened → (b.resumed autoReclose now).state = b.state) := by
  refine ⟨fun hr ho => ?_, fun h => ?_⟩
  · rw [Breaker.resumed, if_pos ⟨hr, ho⟩, Breaker.close_eq]
    exact ⟨rfl, rfl⟩
  · rw [Breaker.resumed, if_neg]
    rintro ⟨hr, ho⟩
    rcases h with h | h
    · rw [h] at hr; cases hr
    · exact h ho

theorem gridHealthyChange_acts {s : State} {x : Bool} (h : x ≠ s.breaker.grid.level) :
    exec (.gridHealthyChange x) s = .next { s with breaker :=
      { s.breaker with grid := ⟨s.breaker.grid.taken, if x = s.breaker.grid.taken then none else some ⟨x, s.now⟩⟩ } } := by
  show execGridHealthyChange x s = _
  rw [execGridHealthyChange, if_neg h, State.setGrid, gridChange]
  split
  · rfl
  · rfl

/-- Settles O45: the breaker's events at its record, and the grid's by what its fall and its return do. -/
theorem breakerAndGridLines : Obligations.BreakerAndGridLines := by
  refine ⟨fun s => ⟨fun x => breakerFeedback_spec s x, fun h => ?_, fun h => ?_⟩, fun s => ⟨fun x => gridHealthyChange_acts,
    fun x hx hl ht => ?_, fun x hx hl ht => ?_, fun x hx hl => ?_, fun h => ?_⟩⟩
  · refine ⟨_, breakerWindowEnd_acts h, s.setBreaker_eq _, State.failBreaker_flagged _ fun r hr => ?_, ?_⟩
    · rcases h with ⟨e, h⟩ | ⟨k, e, h⟩ <;> rw [h] at hr <;> cases hr
    · rw [State.setBreaker_breaker, Breaker.enter_failed]
  · exact ⟨_, breakerFeedbackTimerEnd_acts h, s.setBreaker_eq _, State.failBreaker_flagged _,
      by rw [State.setBreaker_breaker, Breaker.enter_failed]⟩
  · show execGridHealthyTaken s = _
    simp only [execGridHealthyTaken, hx, hl, ht, Bool.true_eq_false, if_false, if_true, Conditioned.take,
      Conditioned.level]
    rfl
  · exact ⟨_, gridHealthyTaken_falls hx hl ht, State.gridFalls_frame _, State.gridFalls_spec _⟩
  · show execGridHealthyTaken s = _
    simp only [execGridHealthyTaken, hx, hl, if_true, Conditioned.take, Conditioned.level]
    rfl
  · obtain ⟨hr, hg⟩ := (s.setReconnect none true).resumeConnect_reconnect
    have hu := (s.setReconnect none true).resumeConnect_updates
    refine ⟨_, reconnectDelayEnd_acts h, s.resumed_frame, hr, hg, fun i hn => ?_, fun i p hp => ⟨fun hc => ⟨?_, ?_⟩,
      fun hc => ?_⟩, fun hn => ?_, fun i p hp hk hst hre hone => ?_⟩
    · exact hu.stands fun p hp => by rw [Holds] at hp; rw [show s.slots[i].permit = some p from hp] at hn; cases hn
    · rw [← Permit.gridReturn_awaits hc]
      exact hu.holds hp
    · exact State.resumeConnect_flagged (s := s.setReconnect none true) hp hc
    · refine hu.stands fun q hq => Permit.gridReturn_stands ?_
      have hq' : Holds s i q := hq
      rw [Holds, hp] at hq'
      cases hq'
      exact hc
    · rw [State.resumeConnect_idle (s := s.setReconnect none true) hn]
      rfl
    · rw [State.resumeConnect_breaker_of_only (s := s.setReconnect none true) hp ⟨hk, hst, hre⟩
        fun j q hq ⟨h1, h2, h3⟩ => hone j q hq h1 h2 h3]
      obtain ⟨-, -, ha⟩ := (s.setReconnect none true).breaker.resumed_reconnect p.autoReclose s.now
      exact ⟨ha, (s.setReconnect none true).breaker.resumed_spec p.autoReclose s.now⟩

end Sys2Proof.Machine
end

section
/-! PROOF. Service-readiness, the precharge path and the match in the settling of an event (O43). -/

namespace Sys2Proof.Machine

open Sys2Proof Sys2Proof.Safety Sys2Proof.Claims

/-! ### Conditions and the match -/

/-- A string is service-ready where none of the seven conditions is unmet (R139). -/
theorem State.unmetOf_isEmpty (s : State) (i : Fin 8) : (s.unmetOf i).isEmpty = true ↔
    s.contactors[i].fitted = true ∧
      (¬∃ j p, Holds s j p ∧ p.kind = .isolate ∧ p.state ≠ .revoked ∧ p.scope.getLsbD i.val = true) ∧
      s.fire[bayOf i].state.inAlarm = false ∧ s.modulesHold i = false ∧ s.strings[i].band ≠ 0 ∧ s.strings[i].band ≠ 7 ∧
      s.link.state ≠ .down ∧ s.unit.mode ≠ .commissioning := by
  have hi : s.isolatingOf i = none ↔
      ¬∃ j p, Holds s j p ∧ p.kind = .isolate ∧ p.state ≠ .revoked ∧ p.scope.getLsbD i.val = true := by
    rw [State.isolatingOf, Option.map_eq_none_iff]
    constructor
    · rintro h ⟨j, p, hp, hk, hst, hn⟩
      have := List.find?_eq_none.1 h j (mem_allSlots j)
      rw [Holds] at hp
      simp only [hp, Permit.isolates, hk, p.standing_iff.2 hst, inScope, hn, beq_self_eq_true, Bool.and_self,
        not_true_eq_false] at this
    · intro h
      refine State.findPermit_none fun j p hp => ?_
      by_contra hf
      simp only [Permit.isolates, Bool.not_eq_false, Bool.and_eq_true, beq_iff_eq, Permit.standing_iff, inScope] at hf
      obtain ⟨⟨hk, hst⟩, hn⟩ := hf
      exact h ⟨j, p, hp, hk, hst, hn⟩
  rw [← hi]
  simp only [Unmet.isEmpty, State.unmetOf, Bool.not_eq_true', Bool.or_eq_false_iff, Bool.not_eq_false',
    Option.isSome_eq_false_iff, Option.isNone_iff_eq_none, beq_eq_false_iff_ne, ne_eq, and_assoc]

theorem ContactorState.isPrecharging_iff (st : ContactorState) : st.isPrecharging = true ↔ ∃ e, st = .precharging e := by
  cases st <;> simp [ContactorState.isPrecharging, ContactorState.precharge]

/-- A value of the DC link at most 1 s old within 3 percent of a string's voltage above 0 matches it (R142). -/
theorem State.matches_iff (s : State) (i : Fin 8) : s.matches i = true ↔ ∃ d, s.link.dc = some d ∧
    s.now ≤ d.arrival + Config.sec 1 ∧ 0 < s.strings[i].voltage ∧ 100 * d.voltage ≤ 103 * s.strings[i].voltage ∧
    97 * s.strings[i].voltage ≤ 100 * d.voltage := by
  rw [State.matches]
  cases s.link.dc with
  | none => simp
  | some d =>
    have hage : Config.dcLinkAge = Config.sec 1 := rfl
    simp only [Bool.and_eq_true, decide_eq_true_eq, Option.some.injEq, exists_eq_left', hage]
    omega

/-! ### A check of the match, and the path given to a string -/

/-- A string closed by a match (R142). -/
def Contactor.matched (c : Contactor) (now : Nat) : Contactor := { c.enter .closed now with failures := 0 }

/-- A string given the precharge path (R141). -/
def Contactor.served (c : Contactor) (now : Nat) : Contactor := c.enter (.precharging (now + Config.prechargeTime)) now

theorem Contactor.matched_eq (c : Contactor) (now : Nat) : c.matched now = { c with
    state := .closed, failures := 0, mainClosed := true, prechargeClosed := false
    feedbackTimer := (c.matched now).feedbackTimer } := by
  rw [Contactor.matched, Contactor.enter_eq]
  rfl

theorem Contactor.served_eq (c : Contactor) (now : Nat) : c.served now = { c with
    state := .precharging (now + Config.sec 10), mainClosed := false, prechargeClosed := true
    feedbackTimer := (c.served now).feedbackTimer } := by
  rw [Contactor.served, Contactor.enter_eq]
  rfl

/-- A string closed by a match, and the path freed (R142). -/
def State.closeMatched (s : State) (i : Fin 8) : State :=
  { s.setContactor i ((s.contactors[i.val]).matched s.now) with serving := none }

/-- The path given to a string, its match not yet checked (R141). -/
def State.givePath (s : State) (i : Fin 8) : State :=
  { s.setContactor i ((s.contactors[i.val]).served s.now) with serving := some i }

theorem State.startPrecharge_eq (s : State) (i : Fin 8) : s.startPrecharge i = (s.givePath i).checkMatch := rfl

theorem State.givePath_self (s : State) (i : Fin 8) :
    (s.givePath i).contactors[i.val] = (s.contactors[i.val]).served s.now := getElem_put_self _ _ _

theorem State.givePath_ne (s : State) {i j : Fin 8} (h : j ≠ i) :
    (s.givePath i).contactors[j.val] = s.contactors[j.val] := getElem_put_ne _ _ _ _ h

theorem State.closeMatched_self (s : State) (i : Fin 8) :
    (s.closeMatched i).contactors[i.val] = (s.contactors[i.val]).matched s.now := getElem_put_self _ _ _

theorem State.closeMatched_ne (s : State) {i j : Fin 8} (h : j ≠ i) :
    (s.closeMatched i).contactors[j.val] = s.contactors[j.val] := getElem_put_ne _ _ _ _ h

theorem State.checkMatch_closes {s : State} {i : Fin 8} (hs : s.serving = some i)
    (hp : s.contactors[i.val].state.isPrecharging = true) (hm : s.matches i = true) :
    s.checkMatch = s.closeMatched i := by
  simp only [State.checkMatch, hs, Fin.getElem_fin, hp, hm, Bool.and_self, if_true, Contactor.matched,
    State.closeMatched]

theorem State.checkMatch_idle {s : State} {i : Fin 8} (hs : s.serving = some i)
    (h : s.matches i = false ∨ s.contactors[i.val].state.isPrecharging = false) : s.checkMatch = s := by
  have hn : (s.contactors[i.val].state.isPrecharging && s.matches i) = false := by
    rcases h with h | h <;> simp [h]
  simp only [State.checkMatch, hs, Fin.getElem_fin, hn, Bool.false_eq_true, if_false]

/-- The path given to a string that matches closes it at once and leaves the path free (R141, R142). -/
theorem State.startPrecharge_matching {s : State} {i : Fin 8} (h : s.matches i = true) :
    s.startPrecharge i = (s.givePath i).closeMatched i := by
  rw [State.startPrecharge_eq]
  refine State.checkMatch_closes (s := s.givePath i) rfl ?_ h
  rw [State.givePath_self, Contactor.served_eq]
  rfl

/-- The path given to a string that does not match stays with it (R141). -/
theorem State.startPrecharge_waiting {s : State} {i : Fin 8} (h : s.matches i = false) :
    s.startPrecharge i = s.givePath i :=
  (s.startPrecharge_eq i).trans (State.checkMatch_idle (s := s.givePath i) rfl (.inl h))

/-! ### The arbiter -/

/-- Whether a string is QUEUED. -/
def State.Queued (s : State) (i : Fin 8) : Prop := s.contactors[i.val].state = .queued

/-- The arbiter's next string is QUEUED, and the lowest-numbered of these. -/
theorem State.nextQueued_lowest {s : State} {i : Fin 8} (h : s.nextQueued = some i) :
    s.Queued i ∧ ∀ j, j < i → ¬s.Queued j := by
  obtain ⟨hi, hlow⟩ := find_least sorted_allStrings h
  refine ⟨beq_iff_eq.1 hi, fun j hj hq => ?_⟩
  exact beq_eq_false_iff_ne.1 (hlow j (mem_allStrings j) hj) hq

theorem State.nextQueued_none {s : State} (h : s.nextQueued = none) (i : Fin 8) : ¬s.Queued i := by
  intro hq
  have := List.find?_eq_none.1 h i (mem_allStrings i)
  rw [State.Queued] at hq
  simp [hq] at this

/-- What the arbiter makes of the QUEUED strings of a state whose path is free: those that match close, up to the first that
does not, which is given the path; those behind it wait (R141, R142). -/
structure State.Arbitrated (s t : State) : Prop where
  closes : ∀ i, s.Queued i → (∀ j, j < i → s.Queued j → s.matches j = true) → s.matches i = true →
    t.contactors[i.val] = ((s.contactors[i.val]).served s.now).matched s.now
  serves : ∀ i, s.Queued i → (∀ j, j < i → s.Queued j → s.matches j = true) → s.matches i = false →
    t.serving = some i ∧ t.contactors[i.val] = (s.contactors[i.val]).served s.now
  behind : ∀ i, s.Queued i → (∃ j, j < i ∧ s.Queued j ∧ s.matches j = false) →
    t.contactors[i.val] = s.contactors[i.val]
  free : (∀ i, s.Queued i → s.matches i = true) → t.serving = none
  others : ∀ i, ¬s.Queued i → t.contactors[i.val] = s.contactors[i.val]

theorem State.arbitrate_busy (n : Nat) {s : State} {i : Fin 8} (h : s.serving = some i) : State.arbitrate n s = s := by
  cases n with
  | zero => rfl
  | succ n => rw [State.arbitrate, h]

/-- With no string QUEUED there is nothing to arbitrate. -/
theorem State.Arbitrated.idle {s : State} (hs : s.serving = none) (h : ∀ i, ¬s.Queued i) : s.Arbitrated s where
  closes i hi := absurd hi (h i)
  serves i hi := absurd hi (h i)
  behind i hi := absurd hi (h i)
  free _ := hs
  others _ _ := rfl

/-- The first QUEUED string does not match: it is given the path, and the arbiter ends. -/
theorem State.Arbitrated.waiting {s : State} {k : Fin 8} (hq : s.Queued k) (hlow : ∀ j, j < k → ¬s.Queued j)
    (hm : s.matches k = false) : s.Arbitrated (s.givePath k) := by
  have first : ∀ i, s.Queued i → (∀ j, j < i → s.Queued j → s.matches j = true) → i = k := by
    intro i hi h
    rcases lt_trichotomy i k with hik | hik | hik
    · exact absurd hi (hlow i hik)
    · exact hik
    · rw [h k hik hq] at hm; cases hm
  refine ⟨fun i hi h hmi => ?_, fun i hi h _ => ?_, fun i hi ⟨j, hj, hqj, _⟩ => ?_, fun h => ?_, fun i hi => ?_⟩
  · rw [first i hi h, hm] at hmi; cases hmi
  · obtain rfl := first i hi h
    exact ⟨rfl, s.givePath_self i⟩
  · exact s.givePath_ne fun e => hlow j (e ▸ hj) hqj
  · rw [h k hq] at hm; cases hm
  · exact s.givePath_ne fun e => hi (e ▸ hq)

/-- The first QUEUED string matches: it is no longer QUEUED, and every other string is as before. -/
theorem State.matching_queued {s u : State} {k : Fin 8} (hu : u = (s.givePath k).closeMatched k) :
    ¬u.Queued k ∧ ∀ i, i ≠ k → (u.Queued i ↔ s.Queued i) := by
  subst hu
  refine ⟨?_, fun i hi => ?_⟩
  · rw [State.Queued, State.closeMatched_self, Contactor.matched_eq]
    exact fun e => by cases e
  · rw [State.Queued, State.closeMatched_ne _ hi, State.givePath_ne _ hi, State.Queued]

/-- The first QUEUED string matches: it closes, and the arbiter goes on with the others. -/
theorem State.Arbitrated.matching {s t u : State} {k : Fin 8} (hqk : s.Queued k) (hlow : ∀ j, j < k → ¬s.Queued j)
    (hm : s.matches k = true) (hu : u = (s.givePath k).closeMatched k) (h : u.Arbitrated t) : s.Arbitrated t := by
  obtain ⟨hkq, hq⟩ := State.matching_queued hu
  have hne : ∀ i, i ≠ k → u.contactors[i.val] = s.contactors[i.val] := fun i hi => by
    rw [hu, State.closeMatched_ne _ hi, State.givePath_ne _ hi]
  have hqs : ∀ i, u.Queued i → s.Queued i := fun i hi => (hq i fun e => hkq (e ▸ hi)).1 hi
  have hmu : ∀ i, u.matches i = s.matches i := fun i => by rw [hu]; rfl
  have hnow : u.now = s.now := by rw [hu]; rfl
  refine ⟨fun i hi hb hmi => ?_, fun i hi hb hmi => ?_, fun i hi ⟨j, hj, hqj, hmj⟩ => ?_, fun ha => ?_, fun i hi => ?_⟩
  · by_cases e : i = k
    · rw [e, h.others k hkq, hu, State.closeMatched_self, State.givePath_self]
      rfl
    · rw [h.closes i ((hq i e).2 hi) (fun j hj hqj => (hmu j).trans (hb j hj (hqs j hqj))) ((hmu i).trans hmi), hne i e,
        hnow]
  · have e : i ≠ k := by rintro rfl; rw [hm] at hmi; cases hmi
    rw [← hne i e, ← hnow]
    exact h.serves i ((hq i e).2 hi) (fun j hj hqj => (hmu j).trans (hb j hj (hqs j hqj))) ((hmu i).trans hmi)
  · have ej : j ≠ k := by rintro rfl; rw [hm] at hmj; cases hmj
    have e : i ≠ k := by rintro rfl; exact hlow j hj hqj
    rw [← hne i e]
    exact h.behind i ((hq i e).2 hi) ⟨j, hj, (hq j ej).2 hqj, (hmu j).trans hmj⟩
  · exact h.free fun i hi => (hmu i).trans (ha i (hqs i hi))
  · have e : i ≠ k := fun e => hi (e ▸ hqk)
    rw [← hne i e]
    exact h.others i fun hiu => hi (hqs i hiu)

/-- The QUEUED strings. -/
def State.queuedStrings (s : State) : Finset (Fin 8) := Finset.univ.filter fun i => s.contactors[i.val].state = .queued

theorem State.mem_queuedStrings {s : State} {i : Fin 8} : i ∈ s.queuedStrings ↔ s.Queued i := by
  simp [State.queuedStrings, State.Queued]

/-- With a turn for each QUEUED string the arbiter comes to its end (R141). -/
theorem State.arbitrate_arbitrated (n : Nat) (s : State) (hs : s.serving = none) (hn : s.queuedStrings.card ≤ n) :
    s.Arbitrated (State.arbitrate n s) := by
  induction n generalizing s with
  | zero =>
    refine .idle hs fun i hi => ?_
    rw [← State.mem_queuedStrings, Finset.card_eq_zero.1 (Nat.le_zero.1 hn)] at hi
    simp at hi
  | succ n ih =>
    cases hq : s.nextQueued with
    | none =>
      rw [State.arbitrate, hs, hq]
      exact .idle hs (State.nextQueued_none hq)
    | some k =>
      obtain ⟨hqk, hlow⟩ := State.nextQueued_lowest hq
      have e : State.arbitrate (n + 1) s = State.arbitrate n (s.startPrecharge k) := by rw [State.arbitrate, hs, hq]
      cases hm : s.matches k with
      | false =>
        rw [e, State.startPrecharge_waiting hm, State.arbitrate_busy n (i := k) rfl]
        exact .waiting hqk hlow hm
      | true =>
        rw [e, State.startPrecharge_matching hm]
        refine .matching hqk hlow hm rfl (ih _ rfl ?_)
        obtain ⟨hkq, hqi⟩ := State.matching_queued (s := s) (k := k) rfl
        refine Nat.lt_succ_iff.1 ((Finset.card_lt_card ?_).trans_le hn)
        refine Finset.ssubset_iff_of_subset (fun i hi => ?_) |>.2
          ⟨k, State.mem_queuedStrings.2 hqk, fun hk => hkq (State.mem_queuedStrings.1 hk)⟩
        rw [State.mem_queuedStrings] at hi ⊢
        exact (hqi i fun e => hkq (e ▸ hi)).1 hi

/-- What the arbiter leaves of every string's record beside its connection. -/
theorem State.Arbitrated.retryEnd {s t : State} (h : s.Arbitrated t) (i : Fin 8) :
    t.contactors[i.val].retryEnd = s.contactors[i.val].retryEnd := by
  by_cases hq : s.Queued i
  · by_cases hb : ∀ j, j < i → s.Queued j → s.matches j = true
    · cases hm : s.matches i with
      | true => rw [h.closes i hq hb hm, Contactor.matched_eq, Contactor.served_eq]
      | false => rw [(h.serves i hq hb hm).2, Contactor.served_eq]
    · push Not at hb
      obtain ⟨j, hj, hqj, hmj⟩ := hb
      rw [h.behind i hq ⟨j, hj, hqj, by simpa using hmj⟩]
  · rw [h.others i hq]

/-! ### A string brought up to date -/

/-- A gain or loss of service-readiness changes no failures and no retry (R144, R145). -/
theorem Contactor.follow_counts (c : Contactor) (now drainTime : Nat) :
    (c.follow now drainTime).retryEnd = c.retryEnd ∧ (c.follow now drainTime).failures = c.failures := by
  have entered : ∀ st, (c.enter st now).retryEnd = c.retryEnd ∧ (c.enter st now).failures = c.failures := fun st => by
    rw [Contactor.enter_eq]; exact ⟨rfl, rfl⟩
  simp only [Contactor.follow]
  split
  · exact entered _
  · exact entered _
  · exact entered _
  · exact entered _
  · split
    · exact entered _
    · exact ⟨rfl, rfl⟩
  · exact ⟨rfl, rfl⟩

section

variable (s : State) (i : Fin 8)

theorem State.connectString_counts : (s.connectString i).retryEnd = s.contactors[i.val].retryEnd ∧
    (s.connectString i).failures = s.contactors[i.val].failures := Contactor.follow_counts _ _ _

variable {s i}

/-- A CLOSED string that is not service-ready drains, its main output closed (R145). -/
theorem State.connectString_closed (h : s.contactors[i.val].state = .closed) :
    (s.connectString i).state = (if (s.unmetOf i).isEmpty then .closed else
      .draining (s.now + Config.sec s.unit.active.drainTime)) ∧
    ((s.unmetOf i).isEmpty = true ∨ (s.connectString i).mainClosed = true) := by
  cases hu : (s.unmetOf i).isEmpty <;>
    simp only [State.connectString, Contactor.follow, Fin.getElem_fin, h, hu, Bool.false_eq_true, if_false, if_true]
  · rw [Contactor.enter_eq]
    exact ⟨rfl, .inr rfl⟩
  · exact ⟨trivial, .inl trivial⟩

/-- A DRAINING string that is service-ready again closes (R145). -/
theorem State.connectString_draining {e : Nat} (h : s.contactors[i.val].state = .draining e) :
    (s.connectString i).state = if (s.unmetOf i).isEmpty then .closed else .draining e := by
  cases hu : (s.unmetOf i).isEmpty <;>
    simp only [State.connectString, Contactor.follow, Fin.getElem_fin, h, hu, Bool.false_eq_true, if_false, if_true]
  rw [Contactor.enter_eq]

/-- A PRECHARGING string that is no longer service-ready opens (R144). -/
theorem State.connectString_precharging {e : Nat} (h : s.contactors[i.val].state = .precharging e) :
    (s.connectString i).state = if (s.unmetOf i).isEmpty then .precharging e else .opened := by
  cases hu : (s.unmetOf i).isEmpty <;>
    simp only [State.connectString, Contactor.follow, Fin.getElem_fin, h, hu, Bool.false_eq_true, if_false, if_true]
  rw [Contactor.enter_eq]

/-- A FAILED string stays FAILED (R148). -/
theorem State.connectString_failed {r : ContactorFail} (h : s.contactors[i.val].state = .failed r) :
    (s.connectString i).state = .failed r := by
  simp only [State.connectString, Contactor.follow, Fin.getElem_fin, h]

/-- A QUEUED string waits on while it is service-ready, and opens otherwise (R144). -/
theorem State.connectString_queued (h : s.contactors[i.val].state = .queued) :
    (s.connectString i).state = if (s.unmetOf i).isEmpty then .queued else .opened := by
  cases hu : (s.unmetOf i).isEmpty <;>
    simp only [State.connectString, Contactor.follow, Fin.getElem_fin, h, hu, Bool.false_eq_true, if_false, if_true]
  rw [Contactor.enter_eq]

/-- An OPEN string queues where it is service-ready and no retry delay runs (R140, R143). -/
theorem State.connectString_opened (h : s.contactors[i.val].state = .opened) : (s.connectString i).state =
    if (s.unmetOf i).isEmpty = true ∧ s.contactors[i.val].retryEnd = none then .queued else .opened := by
  cases hu : (s.unmetOf i).isEmpty <;> cases hr : s.contactors[i.val].retryEnd <;>
    simp [State.connectString, Contactor.follow, Fin.getElem_fin, h, hu, hr, Contactor.enter_eq]

/-- The strings that wait for the path once all are up to date: service-ready, and QUEUED or OPEN without a retry delay. -/
theorem State.connectString_waits : (s.connectString i).state = .queued ↔ (s.unmetOf i).isEmpty = true ∧
    (s.contactors[i.val].state = .queued ∨
      (s.contactors[i.val].state = .opened ∧ s.contactors[i.val].retryEnd = none)) := by
  cases hst : s.contactors[i.val].state with
  | opened => simp [State.connectString_opened hst]
  | queued => simp [State.connectString_queued hst]
  | precharging e => rw [State.connectString_precharging hst]; split <;> simp
  | closed => rw [(State.connectString_closed hst).1]; split <;> simp
  | draining e => rw [State.connectString_draining hst]; split <;> simp
  | failed r => simp [State.connectString_failed hst]

/-- The strings in PRECHARGING once all are up to date. -/
theorem State.connectString_holdsPath : (s.connectString i).state.isPrecharging = true ↔
    (s.unmetOf i).isEmpty = true ∧ ∃ e, s.contactors[i.val].state = .precharging e := by
  rw [ContactorState.isPrecharging_iff]
  cases hst : s.contactors[i.val].state with
  | opened => rw [State.connectString_opened hst]; split <;> simp
  | queued => rw [State.connectString_queued hst]; split <;> simp
  | precharging e => rw [State.connectString_precharging hst]; split <;> simp [*]
  | closed => rw [(State.connectString_closed hst).1]; split <;> simp
  | draining e => rw [State.connectString_draining hst]; split <;> simp
  | failed r => simp [State.connectString_failed hst]

end

/-! ### The stage -/

/-- All strings up to date, and the path freed where its string has left PRECHARGING (R139 to R141). -/
def State.followed (s : State) : State := ({ s with contactors := tab8 s.connectString } : State).freePath

theorem State.connectStage_eq (s : State) : s.connectStage = State.arbitrate 8 s.followed := rfl

theorem State.followed_contactors (s : State) (i : Fin 8) : s.followed.contactors[i.val] = s.connectString i := by
  rw [State.followed, State.freePath_contactors, getElem_tab8]

theorem State.followed_serving (s : State) (j : Fin 8) : s.followed.serving = some j ↔
    s.serving = some j ∧ (s.unmetOf j).isEmpty = true ∧ ∃ e, s.contactors[j.val].state = .precharging e := by
  rw [← State.connectString_holdsPath, State.followed, State.freePath_serving, servingAfter, Option.filter_eq_some_iff,
    Fin.getElem_fin, getElem_tab8]

/-- The path is busy and nothing is arbitrated, or it is free and the arbiter gives it on. -/
theorem State.connectStage_cases (s : State) : (s.followed.serving ≠ none ∧ s.connectStage = s.followed) ∨
    (s.followed.serving = none ∧ s.followed.Arbitrated s.connectStage) := by
  rw [State.connectStage_eq]
  cases h : s.followed.serving with
  | none => exact .inr ⟨rfl, State.arbitrate_arbitrated 8 _ h (Finset.card_le_univ _)⟩
  | some j => exact .inl ⟨nofun, State.arbitrate_busy 8 h⟩

/-- A string that does not wait for the path is as it was brought up to date. -/
theorem State.connectStage_string {s : State} {i : Fin 8} (h : (s.connectString i).state ≠ .queued) :
    s.connectStage.contactors[i.val] = s.connectString i := by
  have hq : ¬s.followed.Queued i := by rwa [State.Queued, State.followed_contactors]
  rw [← State.followed_contactors]
  rcases s.connectStage_cases with ⟨-, e⟩ | ⟨-, ha⟩
  · rw [e]
  · exact ha.others i hq

/-- A string that is neither QUEUED nor OPEN does not wait. -/
theorem State.connectStage_stands {s : State} {i : Fin 8} {st : ContactorState} (h : s.contactors[i].state = st)
    (hq : st ≠ .queued) (ho : st ≠ .opened) : s.connectStage.contactors[i] = s.connectString i := by
  subst h
  exact State.connectStage_string fun hs => (State.connectString_waits.1 hs).2.elim hq fun h => ho h.1

theorem State.connectStage_retryEnd (s : State) (i : Fin 8) :
    s.connectStage.contactors[i.val].retryEnd = s.contactors[i.val].retryEnd := by
  rw [← (s.connectString_counts i).1, ← State.followed_contactors]
  rcases s.connectStage_cases with ⟨-, e⟩ | ⟨-, ha⟩
  · rw [e]
  · exact ha.retryEnd i

/-- Settles O43: every string brought up to date, and then the arbiter. -/
theorem serviceReadinessMovesContactors : Obligations.ServiceReadinessMovesContactors := by
  refine ⟨fun s => Prod.mk.inj (s.settleWith_connection none), State.matches_iff,
    fun s i hs => ⟨fun hp hm => ?_, fun h => ?_⟩, ?_⟩
  · exact ⟨_, State.checkMatch_closes hs ((ContactorState.isPrecharging_iff _).2 hp) hm, Contactor.matched_eq _ _⟩
  · refine State.checkMatch_idle hs (h.imp_right fun hn => ?_)
    rw [← Bool.not_eq_true, ContactorState.isPrecharging_iff]
    exact fun ⟨e, he⟩ => hn e he
  rintro s t rfl ready waits busy
  have hready : ∀ i, ready i ↔ (s.unmetOf i).isEmpty = true := fun i => (s.unmetOf_isEmpty i).symm
  have hunmet : ∀ i : Fin 8, s.connectStage.contactors[i].unmet = s.unmetOf i := fun i => (s.connectStage_service i).2.1
  have hwaits : ∀ i, waits i ↔ (s.connectString i).state = .queued := fun i => by
    rw [State.connectString_waits, ← hready]; rfl
  have hqueued : ∀ i, waits i ↔ s.followed.Queued i := fun i => by
    rw [hwaits, State.Queued, State.followed_contactors]
  have hbusy : busy ↔ s.followed.serving ≠ none := by
    rw [Option.ne_none_iff_exists']
    simp only [State.followed_serving, ← hready]
    rfl
  refine ⟨?_, fun i => ⟨?_, s.connectStage_retryEnd i, fun h => ?_, fun e h => ?_, fun e h => ?_, fun h hw => ?_,
    fun r h => ?_⟩, fun hb => ?_, fun hb => ?_⟩
  · obtain ⟨_, _, e⟩ := s.connectStage_frame
    rw [e]
  · rw [hunmet, hready]
  · rw [hunmet, hready, State.connectStage_stands h nofun nofun]
    exact State.connectString_closed h
  · rw [hunmet, State.connectStage_stands h nofun nofun]
    exact State.connectString_draining h
  · rw [hunmet, State.connectStage_stands h nofun nofun]
    exact ⟨State.connectString_precharging h, (s.connectString_counts i).2⟩
  · have hq : (s.connectString i).state ≠ .queued := fun hq => hw ((hwaits i).2 hq)
    rw [Fin.getElem_fin, State.connectStage_string hq]
    rcases h with h | h
    · have e := State.connectString_queued h
      split at e
      · exact absurd e hq
      · exact e
    · have e := State.connectString_opened h
      split at e
      · exact absurd e hq
      · exact e
  · rw [State.connectStage_stands h nofun nofun]
    exact State.connectString_failed h
  · obtain ⟨j, hj, -⟩ := id hb
    have hn := hbusy.1 hb
    have e : s.connectStage = s.followed := s.connectStage_cases.elim And.right fun h => absurd h.1 hn
    refine ⟨?_, fun i hi => by rw [e]; exact (hqueued i).1 hi⟩
    obtain ⟨k, hk⟩ := Option.ne_none_iff_exists'.1 hn
    rw [e, hk, ((s.followed_serving k).1 hk).1]
  · have hfree : s.followed.serving = none := by
      by_contra hn
      exact hb (hbusy.2 hn)
    have ha : s.followed.Arbitrated s.connectStage := s.connectStage_cases.elim (fun h => absurd hfree h.1) And.right
    refine ⟨fun i hi hlow => ⟨fun hm => ?_, fun hm => ?_⟩, fun i hi ⟨j, hj, hjw, hjm⟩ => ?_, fun hall => ?_⟩
    · rw [Fin.getElem_fin, ha.closes i ((hqueued i).1 hi) (fun j hj hq => hlow j hj ((hqueued j).2 hq)) hm,
        Contactor.matched_eq]
      exact ⟨rfl, rfl, rfl⟩
    · obtain ⟨hs, hc⟩ := ha.serves i ((hqueued i).1 hi) (fun j hj hq => hlow j hj ((hqueued j).2 hq)) hm
      rw [Fin.getElem_fin, hc, Contactor.served_eq]
      exact ⟨hs, rfl, rfl⟩
    · rw [Fin.getElem_fin, ha.behind i ((hqueued i).1 hi) ⟨j, hj, (hqueued j).1 hjw, hjm⟩]
      exact (hqueued i).1 hi
    · exact ha.free fun i hq => hall i ((hqueued i).2 hq)

end Sys2Proof.Machine
end
